-- ==== Sys2Proof/Word.lean ====
section
/-!
DEFINITION. The two data units of the CX-420: the byte of the Drive Link and the 512-byte sector that fills one slot of
the buffer RAM and one data field of the medium.
-/

namespace Sys2Proof

/-- The low eight bits of a Drive Link character (R166), and the unit in which a sector is counted. -/
abbrev Byte := BitVec 8

/-- One sector of data: 512 bytes (R1), the contents of one slot of the buffer RAM (00_scope.md, section 2). -/
abbrev Sector := Vector Byte 512

/-- A sector of zero bytes. -/
def Sector.zero : Sector := Vector.replicate 512 0#8

end Sys2Proof
end

