-- ==== Sys2Proof/Config.lean ====
section
/-!
DEFINITION. What the spec fixes once for the part (times, draws, limits), and the free values: quantities the spec says
move but gives no figure for. A free value has no body, so a claim about it holds whatever it is.
-/

namespace Sys2Proof.Config

/-! ### Times, in counts of the 1 MHz measuring clock (00_scope.md, section 4.2) -/

/-- Counts in one millisecond. -/
def countsPerMs : Nat := 1000
/-- The insertion debounce of R7: 200 ms. -/
def debounceTime : Nat := 200 * countsPerMs
/-- The filter of a fall of the present sense, R164, and of a button press, R155: 50 ms. -/
def senseFilterTime : Nat := 50 * countsPerMs
/-- The limit of a head unload, R89: 200 ms. -/
def unloadTime : Nat := 200 * countsPerMs
/-- The solenoid pulse of R162: 150 ms. -/
def pulseTime : Nat := 150 * countsPerMs
/-- The timer of AWAIT REMOVAL, R163: 2 s. -/
def removalTime : Nat := 2000 * countsPerMs
/-- The hold of R32: 2.0 s. -/
def holdTime : Nat := 2000 * countsPerMs
/-- The attempt timer of R49 and the recovery timer of R55: 15 s. -/
def attemptTime : Nat := 15000 * countsPerMs
/-- The count at which the speed counter gives up, both in waiting for the first edge and in counting, R39. -/
def counterLimit : Nat := 65534
/-- A jam reading's window starts at least this long after ACCEL was entered, R49: 2 s. -/
def jamTime : Nat := 2000 * countsPerMs
/-- The period of the evaluations, R95: 500 ms. -/
def evaluationPeriod : Nat := 500 * countsPerMs
/-- The bits of a character: one start bit, nine data bits, one stop bit, R166. -/
def characterBits : Nat := 11
/-- The longest gap between two characters of a frame, R168: 1 ms. -/
def characterGap : Nat := countsPerMs

/-! ### Draws on the +12 V rail, in units of 50 mA (R20, R21, R23) -/

/-- ACCEL and RECOVER. -/
def spinDraw : Nat := 28
/-- RUN. -/
def runDraw : Nat := 5
/-- Head load with the recalibration that ends it, and a recalibration at any other time. -/
def loadDraw : Nat := 3
/-- The eject solenoid pulse. -/
def solenoidDraw : Nat := 8
/-- The retract reserve set aside for each bay, outside the budget (R21). -/
def reservePerBay : Nat := 3
/-- The effective capacity at power-on, and the upper limit of the setting (R23). -/
def maxCapacity : Nat := 40
/-- The lower limit of the setting (R23). -/
def minCapacity : Nat := 33

/-! ### Limits of the tables and lists -/

/-- Write entries, and write slots, of the Write Queue (R123). -/
def maxEntries : Nat := 16
/-- Marks of the Write Queue (R123). -/
def maxMarks : Nat := 8
/-- Records of the fault list (R138). -/
def maxFaults : Nat := 8
/-- The largest value of a 16-bit counter or figure. -/
def max16 : Nat := 65535

/-! ### Free values

DESIGN CHOICE (log entry 1): R51 says that in RUN the drive demand starts at the level that held the disc, is raised
after a slow reading and lowered after a fast one. It gives no figure for the level or for either step. -/

/-- The drive demand with which RUN is entered, one for each use of the State's free-value counter. -/
opaque holdDemand : Nat → Int
/-- How much more than one unit the demand is raised by after an UNDER, SLOW or STALL reading in RUN. -/
opaque raiseExtra : Nat → Nat
/-- How much more than one unit the demand is lowered by after an OVER reading in RUN. -/
opaque lowerExtra : Nat → Nat

/-- The counts for which the speed counter waits for the first edge of a window, before the limit of R39 is applied: one for each
use of the State's free-value counter (DESIGN CHOICE, log entry 44). -/
opaque edgeWait : Nat → Nat

/-! DESIGN CHOICE (log entry 39): R74, R76 and R78 bound the velocity demanded in a load and in a recalibration, and give its
direction. They give no profile, and the sample in which a recalibration reads the outer guard is the medium's. -/

/-- The velocity demanded in a sample of a load before the bound of R76 is applied: one profile for each use of the State's
free-value counter. -/
opaque loadVelocity : Nat → Nat → Int
/-- The velocity demanded in a sample of a recalibration before the bound of R78 is applied: one profile for each use of the
State's free-value counter. -/
opaque recalVelocity : Nat → Nat → Int
/-- The sample of a recalibration in which an OUTER GUARD ID is read: one for each use of the State's free-value counter. -/
opaque guardSample : Nat → Nat

end Sys2Proof.Config
end

