-- ==== Sys2Proof/Syntax.lean ====
section
/-!
DEFINITION. The commands of the CX-420, one constructor for each row of spec/opcode_table.json: the messages of the Drive
Link, the events at its pins and timers, and the events that pass between its blocks, each with what it carries.
-/

namespace Sys2Proof.Machine

/-- One of the two bays. In a frame bay A is 0 and bay B is 1 (00_scope.md, section 4.1). -/
inductive BayId where
  | bayA
  | bayB
deriving DecidableEq, Repr

/-- The consumer of a claim of a bay (R22). -/
inductive Consumer where
  | spindle
  | actuator
  | solenoid
deriving DecidableEq, Repr

/-- The kind of a request to the Supply Budget (R26). -/
inductive RequestKind where
  | spinUp
  | recover
  | seek
  | load
  | recalibrate
  | solenoid
deriving DecidableEq, Repr

/-- How a speed measurement completes (R39): at edge E with the count reached, at 65,534 counts with some edge seen, or at
65,534 counts with none. -/
inductive RawOutcome where
  | counted (count : BitVec 16)
  | fewEdges
  | noEdge
deriving DecidableEq, Repr

/-- How one pass of a sector read ends, once the data field has been read (R143). -/
inductive PassResult where
  | good (data : Sector)
  | bad
deriving DecidableEq, Repr

/-- A character as the Link Port takes it (R166): the low eight data bits, the ninth data bit and the stop bit. -/
structure LinkChar where
  low   : Byte
  ninth : Bool
  stop  : Bool
deriving DecidableEq, Repr

/-- The inputs that power-on and the RESET pin read: the straps (R166), SUPPLY GOOD (R32), and for each bay the
cartridge-present sense (R19) and the retract-stop sense (R93). -/
structure PinLevels where
  unitAddress  : BitVec 2
  linkRate     : BitVec 2
  supplyGood   : Bool
  presentA     : Bool
  presentB     : Bool
  retractStopA : Bool
  retractStopB : Bool
deriving DecidableEq, Repr

end Sys2Proof.Machine

namespace Sys2Proof

open Machine

/-- The commands. A message of the Drive Link stands for its complete, valid frame (R169): its `bay` is the frame's bay
field as sent, and the other arguments are the fields of its body (R169, section 11.6). -/
inductive Instr where
  /- resets and the Link Port -/
  | powerOn (pins : PinLevels)
  | softReset
  | frameDiscard (chars : List LinkChar)
  | characterGapTimeout
  | unknownMessage (code bay : Byte) (body : List Byte)
  /- unit-level messages -/
  | identify (bay : Byte) (clear : Bool)
  | report (bay : Byte) (peek : Bool)
  | faults (bay : Byte)
  | set (bay item itemBay : Byte) (value : BitVec 32)
  | get (bay item itemBay : Byte)
  | counters (bay : Byte) (clear : Bool)
  | reset (bay : Byte) (force : Bool)
  /- short messages of a bay -/
  | start (bay : Byte)
  | stop (bay : Byte)
  | lock (bay : Byte)
  | unlock (bay : Byte)
  | order (bay : Byte)
  | write (bay : Byte) (block : BitVec 16) (data : Sector)
  | result (bay : Byte)
  | abort (bay : Byte)
  | mapProbe (bay : Byte) (block : BitVec 16)
  | mapRead (bay index : Byte)
  | mapWrite (bay index : Byte) (block : BitVec 16) (spare : Byte)
  | mapWriteAny (bay : Byte) (block : BitVec 16) (spare : Byte)
  | mapClear (bay index : Byte)
  /- long messages of a bay -/
  | eject (bay : Byte)
  | read (bay : Byte) (block : BitVec 16) (count : Byte)
  | readPhys (bay : Byte) (cylinder : BitVec 16) (head sector count : Byte)
  | writePhys (bay : Byte) (cylinder : BitVec 16) (head sector : Byte) (data : Sector)
  | flush (bay : Byte)
  | seek (bay : Byte) (cylinder : BitVec 16)
  | mapSave (bay : Byte)
  /- the +12 V supply -/
  | supplyGoodRises
  | holdEnd
  | supplyLoss
  /- sensors, button and solenoid of a bay -/
  | presentSenseRise (bay : BayId)
  | insertion (bay : BayId) (typeSense0 typeSense1 : Bool)
  | presentSenseFall (bay : BayId)
  | ejectButtonPress (bay : BayId)
  | solenoidPulseEnd (bay : BayId) (present : Bool)
  | removalTimeout (bay : BayId)
  /- spindle -/
  | measurementWindowStart (bay : BayId)
  | measurementComplete (bay : BayId) (raw : RawOutcome)
  | attemptTimeout (bay : BayId)
  | recoveryTimeout (bay : BayId)
  /- Supply Budget -/
  | budgetRequest (bay : BayId) (kind : RequestKind)
  | claimRelease (bay : BayId) (consumer : Consumer)
  | withdrawal (bay : BayId) (kind : RequestKind)
  | spinUpGrant (bay : BayId)
  | recoverGrant (bay : BayId)
  | seekGrant (bay : BayId)
  | loadGrant (bay : BayId)
  | recalibrateGrant (bay : BayId)
  | solenoidGrant (bay : BayId)
  /- actuator -/
  | seekComplete (bay : BayId) (sample : Nat)
  | seekTimeout (bay : BayId)
  | servoLoss (bay : BayId)
  | trackLoss (bay : BayId)
  | loadGuardFound (bay : BayId)
  | loadTimeout (bay : BayId)
  | recalibrationComplete (bay : BayId)
  | recalibrationFailed (bay : BayId)
  | unloadComplete (bay : BayId)
  | unloadFailed (bay : BayId)
  /- coil heat -/
  | evaluation
  /- Media Engine -/
  | mediaChoice (bay : BayId)
  | readPassEnd (bay : BayId) (result : PassResult)
  | sectorIdTimeout (bay : BayId)
  | writeAttemptDone (bay : BayId)
  | writeFault (bay : BayId)
  /- Write Queue -/
  | entryPerformed (bay : BayId)
  | entryFailed (bay : BayId)
  | entryAbandoned (bay : BayId)
  /- Link Port -/
  | addressCharacter (low : Byte)
deriving DecidableEq, Repr

end Sys2Proof
end

