-- ==== Sys2Proof/Machine/State.lean ====
section
/-!
DEFINITION. The state of a CX-420 as plain data, and its value at reset. Every field's docstring names the rule of spec/
that gives it; a field that is the model's own says so.
-/

namespace Sys2Proof.Machine

/-! ### The named values of the spec's tables -/

/-- The thirteen bay states, in the order of section 1.4. -/
inductive BayState where
  | empty | inserted | spinning | loading | mounting | ready | raw | cleaning | parking | parked | ejecting | halted
  | fault
deriving DecidableEq, Repr

/-- The eject phases, in the order of R5. -/
inductive EjectPhase where
  | none | drain | unload | spindown | release | awaitRemoval
deriving DecidableEq, Repr

/-- The fault causes, in the order of R5. -/
inductive FaultCause where
  | none | spinFail | speedLost | positionLost | unloadFault | cartridgeLost | ejectJam
deriving DecidableEq, Repr

/-- The media standing of R5. -/
inductive Standing where
  | none | labelled | unlabelled
deriving DecidableEq, Repr

/-- Who started an eject (R157). -/
inductive EjectOrigin where
  | message | button | device
deriving DecidableEq, Repr

/-- The eject record of R157. -/
structure EjectRecord where
  origin     : EjectOrigin
  /-- 1 or 2. -/
  pulse      : Nat
  saveMarker : Bool
deriving DecidableEq, Repr

/-- The step a PARKING bay is in (R11). -/
inductive ParkStep where
  | drain | unload | spindown
deriving DecidableEq, Repr

/-- The spindle states, in the order of section 3.4. -/
inductive SpindleState where
  | off | waiting | accel | run | recoverWait | recover | stopping
deriving DecidableEq, Repr

/-- The reading classes, in the order of R43. -/
inductive SpeedClass where
  | on | over | under | slow | stall
deriving DecidableEq, Repr

/-- The actuator states, in the order of section 5.1. -/
inductive ActuatorState where
  | unloaded | loading | recalibrating | tracking | seeking | unloading
deriving DecidableEq, Repr

/-- Who asked for a seek (R75). -/
inductive Requester where
  | media | sweep
deriving DecidableEq, Repr

/-- The standing of a seek in hand (R75, section 5.5). -/
inductive SeekStanding where
  | held | requested | running | retrying
deriving DecidableEq, Repr

/-- The direction of a seek (R63); a seek of distance 0 has none. -/
inductive Direction where
  | up | down | none
deriving DecidableEq, Repr

/-- How the recalibration of a RECALIBRATING actuator stands (R78, R79): its request waits, it runs, or it has failed and
waits for the unload. -/
inductive RecalStanding where
  | idle | waiting | running | failed
deriving DecidableEq, Repr

/-- The coast-or-extra field of a plan (R72). -/
inductive CoastOrExtra where
  | absent
  | coast (samples : Nat)
  | extra (samples : Nat)
deriving DecidableEq, Repr

/-- The outcomes a plan can have once it is made (R72); NONE is a bay's absence of a plan. -/
inductive PlanOutcome where
  | inForce | completed | timedOut | servoLost | abandoned
deriving DecidableEq, Repr

/-- The plan record of R72. -/
structure Plan where
  targetCylinder : Nat
  targetHead     : Nat
  distance       : Nat
  direction      : Direction
  /-- E requested. -/
  requested      : Nat
  /-- L planned. -/
  level          : Nat
  ramp           : Nat
  coastOrExtra   : CoastOrExtra
  /-- M. -/
  moving         : Nat
  /-- S. -/
  settle         : Nat
  timeout        : Nat
  draw           : Nat
  heatAdd        : Nat
  outcome        : PlanOutcome
deriving DecidableEq, Repr

/-- The seek in hand of R75, with the distance, direction and level that R63 and R64 fix when it is taken for planning. -/
structure SeekInHand where
  requester : Requester
  cylinder  : Nat
  head      : Nat
  /-- 1..3. -/
  attempt   : Nat
  standing  : SeekStanding
  distance  : Nat
  direction : Direction
  level     : Nat
deriving DecidableEq, Repr

/-- A physical address (R2, R3). -/
structure PhysAddr where
  cylinder : Nat
  head     : Nat
  sector   : Nat
deriving DecidableEq, Repr

/-- The kinds of a media operation (R140). -/
inductive OpKind where
  | labelRead | labelSave | slotRead | slotReadPhys | slotWritePhys | slotSeek | slotMapSave | drainWrite
deriving DecidableEq, Repr

/-- Where a media operation stands (R142, R143, R149): its seek need was answered NOT LOADED or BUSY, its seek is in hand,
its pass or attempt is under way on the sector, or it waits for a recalibration. -/
inductive OpStage where
  | askAgain | seeking | atSector | awaitRecal
deriving DecidableEq, Repr

/-- The operation in flight of a Media Engine (R140). `orphan` says that its request was dropped by an ABORT, so that it
finishes physically and its outcome is discarded (R151, R159). `arrival` names the write entry of a drain. -/
structure MediaOp where
  kind    : OpKind
  target  : PhysAddr
  /-- Failed passes so far, 0..17. -/
  passes  : Nat
  /-- 1..3. -/
  attempt : Nat
  arrival : Option Nat
  orphan  : Bool
  stage   : OpStage
deriving DecidableEq, Repr

/-- The state of a Media Engine (R140). -/
inductive EngineState where
  | idle | working | stalled
deriving DecidableEq, Repr

/-- Custody work the Bay Controller asks of the Media Engine (00_scope.md, section 4.3). -/
inductive Custody where
  | labelRead | labelSave
deriving DecidableEq, Repr

/-- A valid entry of a remap table (R106). -/
structure MapEntry where
  block : Nat
  spare : Nat
deriving DecidableEq, Repr

/-- The label causes, in the order of the label cause byte of section 11.6. -/
inductive LabelCause where
  | unreadable | badMagic | badCheck | typeMismatch | badEntry
deriving DecidableEq, Repr

/-- The states of a request slot (section 11.2). -/
inductive SlotState where
  | free | inProgress | done
deriving DecidableEq, Repr

/-- The long request a slot holds, with the figures of its message (R145 to R148, R119, R128, R156). -/
inductive LongRequest where
  | eject
  | read (block count : Nat)
  | readPhys (start : PhysAddr) (count : Nat)
  | writePhys (target : PhysAddr)
  | flush
  | seek (cylinder : Nat)
  | mapSave
deriving DecidableEq, Repr

/-- The result statuses of section 11.6. -/
inductive ResultStatus where
  | done | hardError | seekFault | bayFault | supplyLoss | removed
deriving DecidableEq, Repr

/-- The reply statuses of section 11.6. -/
inductive ReplyStatus where
  | ok | accepted | pending | noResult | busy | notReady | rawMedia | ejecting | badBay | badAddress | badValue
  | queueFull | tableFull | duplicate | notFound | fault | badMessage
deriving DecidableEq, Repr

/-- The per-bay events, in the bit order of section 11.6. -/
inductive BayEvent where
  | inserted | unknownCartridge | ready | labelInvalid | spinRetry | spinFail | speedLoss | speedRecovered | downshift
  | upshift | heatStep | coilHot | coilCool | positionLost | unloadFault | writeFailed | writesDiscarded | ejectRefused
  | ejected | ejectJam | cartridgeLost | cleanDone | parked | labelSaveFailed | resultReady | counterThreshold
deriving DecidableEq, Repr

/-- The unit events, in the bit order of section 11.6. -/
inductive UnitEvent where
  | unitReset | supplyLoss | supplyRestored | linkError | faultList
deriving DecidableEq, Repr

/-- The seven counters of a bay, in the order of R152. -/
inductive CounterName where
  | softReadErrors | hardReadErrors | writeRetries | writeFailures | seekRetries | spinAttempts | lostWrites
deriving DecidableEq, Repr

/-- The supply-good states, in the order of section 11.6. -/
inductive SupplyState where
  | low | holding | good
deriving DecidableEq, Repr

/-- The kinds of a mark (R122). -/
inductive MarkKind where
  | order | flush
deriving DecidableEq, Repr

/-! ### The per-bay records -/

/-- The inputs of one bay (00_scope.md, section 5), each as last seen, and two of its outputs: the head select, and the
retract trigger, counted. -/
structure BayPins where
  present      : Bool := false
  typeSense0   : Bool := false
  typeSense1   : Bool := false
  retractStop  : Bool := true
  /-- Firings of the retract trigger since power-on (R91, R93): the model's view of an output pulse. -/
  retractFired : Nat := 0
  /-- The surface selected by the head select output, 0 or 1: the target head from the start of a seek (R63), and head 0 from
  the start of a recalibration (R78; log entry 40). Its value at power-on is the current head's (R75; log entry 40). -/
  headSelect   : Nat := 0
deriving DecidableEq, Repr

/-- The bay record of R5, the insertion debounce (R7), the step and kind of PARKING (R11, R19), the eject record and the
solenoid pulse (R157, R162, R163), and the place in the cleaning sweep (R17). The times are counts of the model's clock at
which the timer concerned was started. -/
structure BayRecord where
  state      : BayState := .empty
  phase      : EjectPhase := .none
  typeCode   : Nat := 0
  lock       : Bool := false
  cause      : FaultCause := .none
  attempts   : Nat := 0
  standing   : Standing := .none
  trips      : Nat := 0
  debouncing : Bool := false
  debounceAt : Nat := 0
  parkStep   : ParkStep := .drain
  /-- PARKING of a soft reset (R19), or a bay that supply loss took out of it. -/
  resetPark  : Bool := false
  eject      : Option EjectRecord := Option.none
  /-- The solenoid is driven (R162). -/
  pulsing    : Bool := false
  pulseAt    : Nat := 0
  removalAt  : Nat := 0
  /-- The sweep seek due or in hand is the outward one, to cylinder 0 (R17). -/
  sweepOut   : Bool := false
deriving DecidableEq, Repr

/-- A measurement window whose measurement has not completed (R38 to R40). `stale` says that a state which counts readings
was entered after the window started, so that its reading is passed over (R45). -/
structure Window where
  edges   : Nat
  startAt : Nat
  stale   : Bool
deriving DecidableEq, Repr

/-- The Spindle Controller of a bay (chapter 3). -/
structure Spindle where
  state         : SpindleState := .off
  /-- The successive-count, 0..2 (R45). -/
  count         : Nat := 0
  /-- In ACCEL, whether the run counted is of STALL readings (R45). -/
  countsStall   : Bool := false
  window        : Option Window := none
  /-- The count at which the next window starts (R38). -/
  nextWindow    : Nat := 0
  /-- The last reading, its class and its raw outcome (R39, R44). -/
  reading       : Nat := 65535
  speedClass    : SpeedClass := .stall
  raw           : RawOutcome := .noEdge
  /-- The attempt or recovery timer, with the count at which it started at 0 (R48, R55). -/
  timer         : Option Nat := none
  attemptEnd    : Bool := false
  pendingSpinUp : Bool := false
  /-- The nominal speed of the last spin-up request, in rpm (R46). -/
  nominal       : Nat := 3600
  /-- In RECOVER_WAIT, whether the RECOVER request has been made (R53). -/
  recoverAsked  : Bool := false
  /-- The drive demand in RUN (R51), a free value. -/
  demand        : Int := 0
deriving DecidableEq, Repr

/-- The actuator record of R75, with the plan record (R72), the course of an unload (R89) and of a recalibration (R78). -/
structure Actuator where
  state        : ActuatorState := .unloaded
  /-- The current cylinder; none for UNKNOWN. -/
  cylinder     : Option Nat := none
  head         : Nat := 0
  seek         : Option SeekInHand := none
  loadAttempt  : Option Nat := none
  /-- The consecutive failure count c. -/
  failures     : Nat := 0
  upshiftRun   : Nat := 0
  /-- F. -/
  downshift    : Nat := 0
  unloadFailed : Bool := false
  /-- In UNLOADING, whether an unload is under way. -/
  unloadMoving : Bool := false
  unloadAt     : Nat := 0
  recal        : RecalStanding := .idle
  /-- The recalibration ends a load and runs under its claim. -/
  recalForLoad : Bool := false
  plan         : Option Plan := none
  /-- Which free profile the load or recalibration last granted follows (the model's own, log entry 39). -/
  move         : Nat := 0
deriving DecidableEq, Repr

/-- The Coil Heat Monitor of a bay (R94, R97, R101, R95). -/
structure Heat where
  estimate : Nat := 0
  offset   : Nat := 0
  delay    : Nat := 0
  hot      : Bool := false
  overTop  : Bool := false
  overTrip : Bool := false
deriving DecidableEq, Repr

/-- The Media Engine of a bay (R140): its state, the operation in flight, custody work that waits to be taken, the four
read staging slots of the buffer RAM, the fairness count, and the failed attempts of the save and of the slot's write. The
label last built is held for the write that carries it (R120). `written` is the last sector performed, with its physical
address: the model's view of the write data output (R144, log entry 41). -/
structure Media where
  state        : EngineState := .idle
  op           : Option MediaOp := none
  custody      : Option Custody := none
  staging      : Vector Sector 4 := Vector.replicate 4 Sector.zero
  fairness     : Nat := 0
  saveFailures : Nat := 0
  slotFailures : Nat := 0
  label        : Sector := Sector.zero
  written      : Option (PhysAddr × Sector) := none
deriving DecidableEq, Repr

/-- The Map Unit's table for a bay and its companions (R106), with the generation of the label last built (R120). Before any
build the spec gives the kept generation no value: at power-on, at an insertion and after a soft reset it is 0 (DESIGN
CHOICE, log entry 37). -/
structure RemapTable where
  entries    : Vector (Option MapEntry) 64 := Vector.replicate 64 none
  dirty      : Bool := false
  generation : Nat := 0
  edited     : Bool := false
  built      : Nat := 0
deriving DecidableEq, Repr

/-- The request slot of a bay (section 11.2): its state, its request, the result once DONE, the staged count and the index
of the next staged sector to be returned. The request progress of R140 is the staged count and 1. -/
structure Slot where
  state   : SlotState := .free
  request : Option LongRequest := none
  result  : ResultStatus := .done
  staged  : Nat := 0
  next    : Nat := 1
deriving DecidableEq, Repr

/-- The event latches of a bay, in the bit order of section 11.6, with the data of LABEL INVALID and of COUNTER THRESHOLD
(R173). -/
structure Latches where
  events       : BitVec 26 := 0#26
  labelCause   : Option LabelCause := none
  counterNames : BitVec 7 := 0#7
deriving DecidableEq, Repr

/-- The counters of a bay and their thresholds, in the order of R152. -/
structure Counters where
  counts     : Vector Nat 7 := Vector.replicate 7 0
  thresholds : Vector Nat 7 := Vector.replicate 7 65535
deriving DecidableEq, Repr

/-- All the state that exists once for each bay. -/
structure Bay where
  pins     : BayPins := {}
  record   : BayRecord := {}
  spindle  : Spindle := {}
  act      : Actuator := {}
  heat     : Heat := {}
  media    : Media := {}
  map      : RemapTable := {}
  slot     : Slot := {}
  latches  : Latches := {}
  counters : Counters := {}
deriving DecidableEq, Repr

/-! ### The unit's records -/

/-- A claim of the claim table (R22). -/
structure Claim where
  bay      : BayId
  consumer : Consumer
  draw     : Nat
deriving DecidableEq, Repr

/-- A request of the wait list (R26); a SEEK carries its level E. -/
structure Request where
  bay   : BayId
  kind  : RequestKind
  level : Nat
deriving DecidableEq, Repr

/-- The Supply Budget (chapter 2). -/
structure Budget where
  claims      : List Claim := []
  waitList    : List Request := []
  effective   : Nat := 40
  pending     : Option Nat := none
  supply      : SupplyState := .low
  /-- The hold in progress is the power-on hold (R32). -/
  powerOnHold : Bool := false
  /-- The hold timer, with the count at which it started. -/
  holdTimer   : Option Nat := none
deriving DecidableEq, Repr

/-- A write entry of the Write Queue (R122). -/
structure WriteEntry where
  bay      : BayId
  block    : Nat
  slot     : Nat
  writing  : Bool
  attempts : Nat
  arrival  : Nat
deriving DecidableEq, Repr

/-- An item of the Write Queue (R122). -/
inductive Item where
  | entry (e : WriteEntry)
  | mark (bay : BayId) (kind : MarkKind)
deriving DecidableEq, Repr

/-- The Write Queue: its list, the sixteen write slots of the buffer RAM, and the next arrival number (R122). -/
structure WriteQueue where
  items       : List Item := []
  slots       : Vector Sector 16 := Vector.replicate 16 Sector.zero
  nextArrival : Nat := 0
deriving DecidableEq, Repr

/-- A fault record (R138). -/
inductive FaultRecord where
  | writeFailed (bay : BayId) (block : Nat)
  | writesDiscarded (bay : BayId) (count : Nat)
deriving DecidableEq, Repr

/-- The fault list and its overflow count (R138). -/
structure FaultList where
  records  : List FaultRecord := []
  overflow : Nat := 0
deriving DecidableEq, Repr

/-- The settings of R176 but SUPPLY CAPACITY, which the Supply Budget holds, and the thresholds, which each bay holds. -/
structure Settings where
  spinAuto           : Bool := true
  attemptsLimit      : Nat := 3
  edgeCount          : Nat := 9
  measurePeriod      : Nat := 500
  speedTolerance     : Nat := 16
  slowMark           : Bool := true
  downshiftThreshold : Nat := 2
  upshiftRun         : Nat := 256
  heatTop            : Nat := 24000
  heatRelease        : Nat := 12000
  heatTrip           : Nat := 48000
  adjustDelay        : Nat := 2
  eventMask          : BitVec 31 := BitVec.allOnes 31
deriving DecidableEq, Repr

/-- The receive assembly of the Link Port (R167): idle, or open with the characters gathered. -/
inductive Assembly where
  | idle
  | opened (gathered : List Byte)
deriving DecidableEq, Repr

/-- A reply frame without its address character, length and frame check (section 11.6). -/
structure Reply where
  status : ReplyStatus
  code   : Byte
  bay    : Byte
  body   : List Byte
deriving DecidableEq, Repr

/-- The Link Port and the Decoder's link state (chapter 11): the straps read, the receive assembly, the link error count,
the last reply composed, and an accepted RESET, with its FORCE option, whose reply is being sent (R178). -/
structure Link where
  unitAddress  : BitVec 2 := 0#2
  linkRate     : BitVec 2 := 0#2
  assembly     : Assembly := .idle
  errors       : Nat := 0
  reply        : Option Reply := none
  resetPending : Option Bool := none
deriving DecidableEq, Repr

/-- A notice on its way between two blocks of the controller, taken by a command of its own (log entry 3): a request,
release or withdrawal on its way to the Supply Budget (R25, R30, R31), a grant on its way to its owner (R31, R63), the
outcome of a drain write on its way to the Write Queue (R133 to R135), or an unload that finds the heads already on the
retract stop (R89). -/
inductive Signal where
  | request (bay : BayId) (kind : RequestKind) (level : Nat)
  | release (bay : BayId) (consumer : Consumer)
  | withdraw (bay : BayId) (kind : RequestKind)
  | grant (bay : BayId) (kind : RequestKind) (level : Nat)
  | performed (bay : BayId) (arrival : Nat)
  | failed (bay : BayId) (arrival : Nat)
  | abandoned (bay : BayId) (arrival : Nat)
  | atStop (bay : BayId)
deriving DecidableEq, Repr

/-- The whole machine. -/
structure State where
  bayA       : Bay := {}
  bayB       : Bay := {}
  budget     : Budget := {}
  queue      : WriteQueue := {}
  faults     : FaultList := {}
  settings   : Settings := {}
  /-- The unit event latches, in the bit order of section 11.6 (R173). -/
  events     : BitVec 5 := 0#5
  link       : Link := {}
  /-- The SUPPLY GOOD input (section 2.5). -/
  supplyGood : Bool := false
  /-- The count at which the next evaluation is due (R95). -/
  nextEval   : Nat := 500000
  /-- Counts of the 1 MHz clock since power-on, as far as the commands taken tell (the model's own, log entry 4). -/
  clock      : Nat := 0
  /-- Notices between blocks not yet taken, oldest first (the model's own, log entry 3). -/
  signals    : List Signal := []
  /-- How many free values have been used (the model's own, log entry 1). -/
  freeIndex  : Nat := 0
  /-- The commands that wait, first in first out. -/
  pending    : List Instr := []
deriving DecidableEq, Repr

/-- No command of this block stops the machine: the spec gives every step of the table an effect in every state. There is
therefore no fault, and this type has no constructor. -/
inductive Fault where
deriving DecidableEq, Repr

/-- The only refusal is the host's own. -/
inductive Refusal where
  /-- Answered by `exec` for a command without a meaning; none is left without one. Safe: the machine stops. -/
  | notModelled (mnemonic : String)
deriving DecidableEq, Repr

/-- The machine right after power-on (R179, and each chapter's power-on rule): every field at its power-on value, UNIT
RESET latched. The levels at the input pins are the model's (DESIGN CHOICE, log entry 5): SUPPLY GOOD high, so the
power-on hold runs (R32, R37); no cartridge in either bay; heads on the retract stops; all straps 0. -/
def State.reset : State :=
  { budget := { supply := .holding, powerOnHold := true, holdTimer := some 0 }
    events := 1#5
    supplyGood := true }

end Sys2Proof.Machine
end

