-- ==== Sys2Proof/Machine/Bytes.lean ====
section
/-!
DEFINITION. Bytes on the line and in a sector: least significant byte first (section 11.6), the words of a label (R116),
and the frame check.
-/

namespace Sys2Proof.Machine

/-- A figure in one byte. -/
def byte (n : Nat) : List Byte := [BitVec.ofNat 8 n]

/-- A figure in two bytes, least significant first (section 11.6). -/
def bytes2 (n : Nat) : List Byte := [BitVec.ofNat 8 n, BitVec.ofNat 8 (n / 256)]

/-- A figure in four bytes, least significant first (section 11.6). -/
def bytes4 (n : Nat) : List Byte :=
  [BitVec.ofNat 8 n, BitVec.ofNat 8 (n / 256), BitVec.ofNat 8 (n / 65536), BitVec.ofNat 8 (n / 16777216)]

/-- An on/off field: 1 for on and 0 for off (section 11.6). -/
def byteOn (b : Bool) : List Byte := byte b.toNat

/-- The figure that bytes sent least significant first stand for. -/
def ofBytes : List Byte → Nat
  | [] => 0
  | b :: rest => b.toNat + 256 * ofBytes rest

/-- The 16-bit words of a list of bytes, each least significant byte first (section 11.6, the label record). -/
def wordsOf : List Byte → List Nat
  | lo :: hi :: rest => (lo.toNat + 256 * hi.toNat) :: wordsOf rest
  | [lo] => [lo.toNat]
  | [] => []

/-- The bytes of a list of 16-bit words, each least significant byte first. -/
def bytesOf : List Nat → List Byte
  | [] => []
  | w :: rest => bytes2 w ++ bytesOf rest

/-- A list of bytes as a sector: its first 512 bytes, with zeros where there are fewer. -/
def sectorOf (bytes : List Byte) : Sector := Vector.ofFn fun i => bytes.getD i.val 0#8

/-- One bit shifted into the frame check's register: divided by x^16 + x^12 + x^5 + 1 (section 11.6). -/
def checkBit (r : BitVec 16) (bit : Bool) : BitVec 16 :=
  if r.msb != bit then (r <<< 1) ^^^ 0x1021#16 else r <<< 1

/-- The eight low bits of a character, most significant bit first. -/
def bitsOf (c : Byte) : List Bool :=
  [c.getLsbD 7, c.getLsbD 6, c.getLsbD 5, c.getLsbD 4, c.getLsbD 3, c.getLsbD 2, c.getLsbD 1, c.getLsbD 0]

/-- The frame check of some characters: the register starts at 0xFFFF, with no final inversion (section 11.6). -/
def frameCheck (chars : List Byte) : BitVec 16 :=
  chars.foldl (fun r c => (bitsOf c).foldl checkBit r) 0xFFFF#16

/-- A frame check as sent: high byte first (section 11.6). -/
def checkBytes (r : BitVec 16) : List Byte := [r.extractLsb' 8 8, r.extractLsb' 0 8]

/-- Division rounded up ("ceil", 00_scope.md section 4.1). -/
def ceilDiv (x y : Nat) : Nat := (x + y - 1) / y

/-- A value brought into a range (R176, "clamped"). -/
def clamp (lo hi v : Nat) : Nat := max lo (min hi v)

end Sys2Proof.Machine
end

