-- ==== Sys2Proof/Machine/Flags.lean ====
section
/-!
DEFINITION. The event latches, the counters that latch COUNTER THRESHOLD, the event mask and the ATTENTION line (R152,
R173, R175), with the bay accessors they are written through.
-/

namespace Sys2Proof.Machine

/-! ### The state of a bay -/

/-- All the state of a bay. -/
def State.bay (s : State) : BayId → Bay
  | .bayA => s.bayA
  | .bayB => s.bayB

/-- Change the state of a bay. -/
def State.modBay (s : State) (b : BayId) (f : Bay → Bay) : State :=
  match b with
  | .bayA => { s with bayA := f s.bayA }
  | .bayB => { s with bayB := f s.bayB }

/-- Change a bay's pins. -/
def State.modPins (s : State) (b : BayId) (f : BayPins → BayPins) : State :=
  s.modBay b fun y => { y with pins := f y.pins }
/-- Change a bay record. -/
def State.modRecord (s : State) (b : BayId) (f : BayRecord → BayRecord) : State :=
  s.modBay b fun y => { y with record := f y.record }
/-- Change a bay's Spindle Controller. -/
def State.modSpindle (s : State) (b : BayId) (f : Spindle → Spindle) : State :=
  s.modBay b fun y => { y with spindle := f y.spindle }
/-- Change a bay's actuator record. -/
def State.modAct (s : State) (b : BayId) (f : Actuator → Actuator) : State :=
  s.modBay b fun y => { y with act := f y.act }
/-- Change a bay's Coil Heat Monitor. -/
def State.modHeat (s : State) (b : BayId) (f : Heat → Heat) : State :=
  s.modBay b fun y => { y with heat := f y.heat }
/-- Change a bay's Media Engine. -/
def State.modMedia (s : State) (b : BayId) (f : Media → Media) : State :=
  s.modBay b fun y => { y with media := f y.media }
/-- Change a bay's remap table and its companions. -/
def State.modMap (s : State) (b : BayId) (f : RemapTable → RemapTable) : State :=
  s.modBay b fun y => { y with map := f y.map }
/-- Change a bay's request slot. -/
def State.modSlot (s : State) (b : BayId) (f : Slot → Slot) : State :=
  s.modBay b fun y => { y with slot := f y.slot }
/-- Change a bay's event latches. -/
def State.modLatches (s : State) (b : BayId) (f : Latches → Latches) : State :=
  s.modBay b fun y => { y with latches := f y.latches }
/-- Change a bay's counters. -/
def State.modCounters (s : State) (b : BayId) (f : Counters → Counters) : State :=
  s.modBay b fun y => { y with counters := f y.counters }

/-! ### Event latches -/

/-- The bit of a per-bay event (section 11.6). -/
def BayEvent.bit : BayEvent → Nat
  | .inserted => 0 | .unknownCartridge => 1 | .ready => 2 | .labelInvalid => 3 | .spinRetry => 4 | .spinFail => 5
  | .speedLoss => 6 | .speedRecovered => 7 | .downshift => 8 | .upshift => 9 | .heatStep => 10 | .coilHot => 11
  | .coilCool => 12 | .positionLost => 13 | .unloadFault => 14 | .writeFailed => 15 | .writesDiscarded => 16
  | .ejectRefused => 17 | .ejected => 18 | .ejectJam => 19 | .cartridgeLost => 20 | .cleanDone => 21 | .parked => 22
  | .labelSaveFailed => 23 | .resultReady => 24 | .counterThreshold => 25

/-- The bit of a unit event (section 11.6). -/
def UnitEvent.bit : UnitEvent → Nat
  | .unitReset => 0 | .supplyLoss => 1 | .supplyRestored => 2 | .linkError => 3 | .faultList => 4

/-- The bit of a counter's name, and its place among the seven (R152, section 11.6). -/
def CounterName.index : CounterName → Fin 7
  | .softReadErrors => 0 | .hardReadErrors => 1 | .writeRetries => 2 | .writeFailures => 3 | .seekRetries => 4
  | .spinAttempts => 5 | .lostWrites => 6

/-- Whether a per-bay event is latched. -/
def State.latched (s : State) (b : BayId) (e : BayEvent) : Bool := (s.bay b).latches.events.getLsbD e.bit

/-- Whether a unit event is latched. -/
def State.unitLatched (s : State) (e : UnitEvent) : Bool := s.events.getLsbD e.bit

/-- Latch a per-bay event; a latch already set stays set (R173). -/
def State.latch (s : State) (b : BayId) (e : BayEvent) : State :=
  s.modLatches b fun l => { l with events := l.events ||| BitVec.twoPow 26 e.bit }

/-- Latch a unit event (R173). -/
def State.latchUnit (s : State) (e : UnitEvent) : State :=
  { s with events := s.events ||| BitVec.twoPow 5 e.bit }

/-- Latch LABEL INVALID with its cause, the newest replacing an older one (R173). -/
def State.latchLabelInvalid (s : State) (b : BayId) (c : LabelCause) : State :=
  (s.latch b .labelInvalid).modLatches b fun l => { l with labelCause := some c }

/-- Latch COUNTER THRESHOLD and add a counter's name to the names it carries (R152, R173). -/
def State.latchCounter (s : State) (b : BayId) (n : CounterName) : State :=
  (s.latch b .counterThreshold).modLatches b fun l =>
    { l with counterNames := l.counterNames ||| BitVec.twoPow 7 n.index.val }

/-- Clear every latch, with its data (R174, R178). -/
def State.clearLatches (s : State) : State :=
  { ((s.modLatches .bayA fun _ => {}).modLatches .bayB fun _ => {}) with events := 0#5 }

/-! ### Counters -/

/-- Raise a counter by an amount; it stays at 65,535 once there. An increase that takes it from below its threshold to
its threshold or above latches COUNTER THRESHOLD (R152). -/
def State.raise (s : State) (b : BayId) (n : CounterName) (amount : Nat) : State :=
  let old := (s.bay b).counters.counts[n.index]
  let new := min Config.max16 (old + amount)
  let s := s.modCounters b fun c => { c with counts := c.counts.set n.index new }
  let threshold := (s.bay b).counters.thresholds[n.index]
  if old < threshold ∧ threshold ≤ new then s.latchCounter b n else s

/-! ### ATTENTION -/

/-- The mask bits that a unit's latches light: bits 0 to 25 for the per-bay kinds of either bay, bits 26 to 30 for the unit
kinds (section 11.6). -/
def State.latchedKinds (s : State) : BitVec 31 :=
  (s.bayA.latches.events ||| s.bayB.latches.events).setWidth 31 ||| (s.events.setWidth 31 <<< 26)

/-- Whether the unit holds the ATTENTION line low: some latched event is a member of EVENT MASK (R175). It is computed
from the latches and the mask, so it is always what the test made afresh would give. -/
def State.attention (s : State) : Bool := s.latchedKinds &&& s.settings.eventMask != 0#31

end Sys2Proof.Machine
end

