-- ==== Sys2Proof/Machine/Operands.lean ====
section
/-!
DEFINITION. The operands of messages: the bay field of a frame (R169), the geometry of the cartridge types (R1), the
addresses of logical blocks and spares (R2, R3) and the range checks (R4).
-/

namespace Sys2Proof.Machine

/-- The bay that a bay field names: 0 for A, 1 for B, no other (R169). -/
def bayOf (field : Byte) : Option BayId :=
  if field = 0#8 then some .bayA else if field = 1#8 then some .bayB else none

/-- The bay field of a unit-level message (R169), and of an item that belongs to no bay (R176). -/
def unitField : Byte := 255#8

/-- The number of a bay in a frame. -/
def BayId.number : BayId → Nat
  | .bayA => 0
  | .bayB => 1

/-- The other bay. -/
def BayId.other : BayId → BayId
  | .bayA => .bayB
  | .bayB => .bayA

/-- The cylinder count C of a type (R1); a cleaning cartridge's is its sweep range, and no other type has one. -/
def cylinders : Nat → Nat
  | 1 => 400
  | 2 => 800
  | 3 => 800
  | _ => 0

/-- The logical block count of a type (R1). -/
def blockCount : Nat → Nat
  | 1 => 18960
  | 2 => 38160
  | _ => 0

/-- The nominal speed of a type, in rpm; for code 0 the controller uses 3,600 (R1, R41). -/
def nominalSpeed : Nat → Nat
  | 3 => 1200
  | _ => 3600

/-- Whether a type code is a data cartridge (R1). -/
def isData (typeCode : Nat) : Bool := typeCode = 1 ∨ typeCode = 2

/-- The type code of two type-sense levels (R1). -/
def typeCodeOf (sense0 sense1 : Bool) : Nat := sense0.toNat + 2 * sense1.toNat

/-- The direct physical address of a logical block (R2). -/
def directAddr (n : Nat) : PhysAddr :=
  { cylinder := 1 + n / 48, head := n % 48 / 24, sector := n % 24 }

/-- The physical address of a spare index on a cartridge of a type (R3). -/
def spareAddr (typeCode n : Nat) : PhysAddr :=
  { cylinder := cylinders typeCode - 4 + n / 48, head := n % 48 / 24, sector := n % 24 }

/-- The address of the label (R9, R116). -/
def labelAddr : PhysAddr := { cylinder := 0, head := 0, sector := 0 }

/-- The range check of a logical block (R4). -/
def blockOk (typeCode n : Nat) : Bool := n < blockCount typeCode

/-- The range check of a run of blocks: its last block passes (R4). -/
def runOk (typeCode first count : Nat) : Bool := blockOk typeCode (first + count - 1)

/-- The range check of a spare index (R4). -/
def spareOk (n : Nat) : Bool := n ≤ 191

/-- The range check of a cylinder (R4, R148). -/
def cylinderOk (typeCode c : Nat) : Bool := c < cylinders typeCode

/-- The range check of a physical address (R4). -/
def physOk (typeCode : Nat) (p : PhysAddr) : Bool := cylinderOk typeCode p.cylinder ∧ p.head ≤ 1 ∧ p.sector ≤ 23

/-- Whether a count of a READ or READ PHYS is 1 to 4 (section 11.6; log entry 8). -/
def countOk (count : Byte) : Bool := 1 ≤ count.toNat ∧ count.toNat ≤ 4

/-- The distance between two cylinders, either way (R63, R132). -/
def distanceTo (c d : Nat) : Nat := max c d - min c d

end Sys2Proof.Machine
end

