-- ==== Sys2Proof/Machine/Ops.lean ====
section
/-!
DEFINITION. The operations every block uses: the clock, the notices between blocks, the request slot, the fault list and
the reply to a message.
-/

namespace Sys2Proof.Machine

/-! ### The clock

A command that says a time has run out brings the clock at least to that time (log entry 4). -/

/-- The clock brought to a count, if it is not past it. -/
def State.clockTo (s : State) (t : Nat) : State := { s with clock := max s.clock t }

/-! ### Notices between blocks (log entry 3) -/

/-- Send a notice: it joins the notices under way. -/
def State.send (s : State) (x : Signal) : State := { s with signals := s.signals ++ [x] }

/-- A bay's request to the Supply Budget (R25). -/
def State.request (s : State) (b : BayId) (k : RequestKind) (level : Nat := 0) : State := s.send (.request b k level)
/-- A bay's release of a claim (R30). -/
def State.release (s : State) (b : BayId) (c : Consumer) : State := s.send (.release b c)
/-- A bay's withdrawal of a request (R31). -/
def State.withdraw (s : State) (b : BayId) (k : RequestKind) : State := s.send (.withdraw b k)

/-- Whether a notice goes from a bay to the Supply Budget. A bay's notices to the budget are taken in the order in which
they were sent (log entry 3). -/
def Signal.toBudgetOf (b : BayId) : Signal → Bool
  | .request c _ _ => c = b
  | .release c _ => c = b
  | .withdraw c _ => c = b
  | _ => false

/-- Whether a notice is the grant of a bay's request of a kind. -/
def Signal.isGrant (b : BayId) (k : RequestKind) : Signal → Bool
  | .grant c j _ => c = b ∧ j = k
  | _ => false

/-- Whether a notice goes to or comes from the Supply Budget. -/
def Signal.ofBudget : Signal → Bool
  | .request .. | .release .. | .withdraw .. | .grant .. => true
  | _ => false

/-- The first notice a test accepts. -/
def State.firstSignal (s : State) (p : Signal → Bool) : Option Signal := s.signals.find? p

/-- Take the first notice a test accepts off the notices under way. -/
def State.dropSignal (s : State) (p : Signal → Bool) : State := { s with signals := s.signals.eraseP p }

/-- The consumer of a claim granted to a request (R20, R22). -/
def RequestKind.consumer : RequestKind → Consumer
  | .spinUp | .recover => .spindle
  | .seek | .load | .recalibrate => .actuator
  | .solenoid => .solenoid

/-- Whether an owner has a withdrawal of a kind under way to the budget. -/
def State.withdrawing (s : State) (b : BayId) (k : RequestKind) : Bool := s.signals.contains (.withdraw b k)

/-- The first withdrawal of a kind under way becomes the release of the claim granted meanwhile. -/
def withdrawalToRelease (b : BayId) (k : RequestKind) : List Signal → List Signal
  | [] => []
  | x :: rest => if x = .withdraw b k then .release b k.consumer :: rest else x :: withdrawalToRelease b k rest

/-- A grant reaches an owner that no longer wants it: the claim is released at once, without the load being started. A
withdrawal still under way is that release (R31). -/
def State.releaseUnwanted (s : State) (b : BayId) (k : RequestKind) : State :=
  if s.withdrawing b k then { s with signals := withdrawalToRelease b k s.signals } else s.release b k.consumer

/-! ### The request slot (section 11.2) -/

/-- A long request takes the slot (R170). -/
def State.occupySlot (s : State) (b : BayId) (r : LongRequest) : State :=
  (s.modSlot b fun _ => { state := .inProgress, request := some r }).modMedia b fun m => { m with slotFailures := 0 }

/-- The request's owner completes it; the result waits and RESULT READY is latched (R170). A completion that finds no
request in progress has no effect (R172). -/
def State.completeSlot (s : State) (b : BayId) (r : ResultStatus) : State :=
  if (s.bay b).slot.state = .inProgress then
    (s.modSlot b fun x => { x with state := .done, result := r, next := 1 }).latch b .resultReady
  else s

/-- A fault, a cartridge loss or a supply loss ends a request in progress; its staging is emptied (R14, R15, R151). -/
def State.endSlot (s : State) (b : BayId) (r : ResultStatus) : State :=
  if (s.bay b).slot.state = .inProgress then
    (s.modSlot b fun x => { x with state := .done, result := r, staged := 0, next := 1 }).latch b .resultReady
  else s

/-- The slot becomes FREE, its staging emptied and its request progress returned to 1 (R170). -/
def State.freeSlot (s : State) (b : BayId) : State :=
  (s.modSlot b fun _ => {}).modMedia b fun m => { m with slotFailures := 0 }

/-- Whether a request gives the Media Engine work (chapter 9): FLUSH and EJECT do not. -/
def LongRequest.isMedia : LongRequest → Bool
  | .eject | .flush => false
  | _ => true

/-- The request of a slot IN PROGRESS. -/
def Slot.active (x : Slot) : Option LongRequest := if x.state = .inProgress then x.request else none

/-- Whether a slot IN PROGRESS has media work still to do (R141, R158). -/
def Slot.mediaWork (x : Slot) : Bool := x.active.any LongRequest.isMedia

/-- Whether a slot holds an EJECT in progress (R159). -/
def Slot.ejecting (x : Slot) : Bool := x.active = some .eject

/-! ### The fault list (R138) -/

/-- Append a fault record: it joins the tail, and FAULT LIST is latched if the list was empty; with eight records held it
is dropped and the overflow count rises, up to 255. -/
def State.appendFault (s : State) (r : FaultRecord) : State :=
  if s.faults.records.length < Config.maxFaults then
    let t := { s with faults := { s.faults with records := s.faults.records ++ [r] } }
    if s.faults.records = [] then t.latchUnit .faultList else t
  else { s with faults := { s.faults with overflow := min 255 (s.faults.overflow + 1) } }

/-! ### Replies -/

/-- The reply to a message: its status, the code and bay field echoed, and a body (R169). -/
def State.respond (s : State) (code bay : Byte) (status : ReplyStatus) (body : List Byte := []) : State :=
  { s with link := { s.link with reply := some { status, code, bay, body } } }

/-- Whether the unit receives: it does not while it sends the reply to an accepted RESET, which ends with the soft reset
(R167, R178; log entry 9). -/
def State.receives (s : State) : Bool := s.link.resetPending.isNone

/-- The Decoder takes a complete frame, the receive assembly being idle then (R167, R169); a frame sent while the unit does
not receive is lost. -/
def State.takeMessage (s : State) (act : State → State) : State :=
  if s.receives then act { s with link := { s.link with assembly := .idle } } else s

/-- A message taken is addressed to a bay: the bay field is 0 or 1, else BAD BAY (R169, step 3). -/
def State.toBay (s : State) (code field : Byte) (act : State → BayId → State) : State :=
  match bayOf field with
  | some b => act s b
  | none => s.respond code field .badBay

/-- A message addressed to a bay (R169). -/
def State.forBay (s : State) (code field : Byte) (act : State → BayId → State) : State :=
  s.takeMessage fun s => s.toBay code field act

/-- A message addressed to a bay that names a count: another count than 1 to 4 is refused BAD MESSAGE before the bay field is
looked at (R169, step 2; log entry 8). -/
def State.forBayCounted (s : State) (code field count : Byte) (act : State → BayId → State) : State :=
  s.takeMessage fun s => if countOk count then s.toBay code field act else s.respond code field .badMessage

/-- A unit-level message: the bay field is 255, else BAD BAY (R169, step 3). -/
def State.forUnit (s : State) (code field : Byte) (act : State → State) : State :=
  s.takeMessage fun s => if field = unitField then act s else s.respond code field .badBay

end Sys2Proof.Machine
end

