-- ==== Sys2Proof/Machine/Budget.lean ====
section
/-!
DEFINITION. The Supply Budget (chapter 2): fitting, the wait list, releases, withdrawals, the capacity, and the supply-good
state.
-/

namespace Sys2Proof.Machine

/-- The draw of a seek at a level (R20, R62). -/
def seekDraw : Nat → Nat
  | 0 => 12
  | 1 => 9
  | 2 => 6
  | _ => 3

/-- The draw of a request other than a seek (R20). -/
def RequestKind.draw : RequestKind → Nat
  | .spinUp | .recover => Config.spinDraw
  | .load | .recalibrate => Config.loadDraw
  | .solenoid => Config.solenoidDraw
  | .seek => seekDraw 3

/-- The sum of the draws of some claims (R22). -/
def drawSum (claims : List Claim) : Nat := (claims.map Claim.draw).sum

/-- The capacity against which grants are judged: the pending one while one is held (R22). -/
def Budget.judging (u : Budget) : Nat := u.pending.getD u.effective

/-- The free headroom; below zero while a lower capacity is pending (R22). -/
def Budget.headroom (u : Budget) : Int := u.judging - drawSum u.claims

/-- The level at which a seek of level E is granted in a headroom: the lowest-numbered from E to 3 that fits (R29). -/
def fitLevel (level : Nat) (headroom : Int) : Option Nat :=
  [0, 1, 2, 3].find? fun l => level ≤ l ∧ seekDraw l ≤ headroom

/-- The grant a request can be given in a headroom: its level, and its draw (R25, R29). -/
def Request.fit (r : Request) (headroom : Int) : Option (Nat × Nat) :=
  match r.kind with
  | .seek => (fitLevel r.level headroom).map fun l => (l, seekDraw l)
  | k => if (k.draw : Int) ≤ headroom then some (0, k.draw) else none

/-- The record of a claim is added at a grant; there is at most one record of an owner (R22). -/
def Budget.addClaim (u : Budget) (c : Claim) : Budget :=
  { u with claims := (u.claims.filter fun d => !(d.bay = c.bay ∧ d.consumer = c.consumer)) ++ [c] }

/-- A request joins the wait list at its tail; the list never holds two requests of a bay (R26). -/
def Budget.join (u : Budget) (r : Request) : Budget :=
  { u with waitList := (u.waitList.filter fun q => q.bay ≠ r.bay) ++ [r] }

/-- The claim of a request granted. -/
def Request.claim (r : Request) (draw : Nat) : Claim := { bay := r.bay, consumer := r.kind.consumer, draw }

/-- The examination of the wait list, from its head on: each head that fits is granted and leaves, and the first that does
not fit stays with all behind it (R27). It gives the budget after it and the grants made, in order. -/
def Budget.examineFrom (u : Budget) : List Request → Budget × List Signal
  | [] => ({ u with waitList := [] }, [])
  | r :: rest =>
    match r.fit u.headroom with
    | some (l, d) =>
      let (v, grants) := (u.addClaim (r.claim d)).examineFrom rest
      (v, .grant r.bay r.kind l :: grants)
    | none => ({ u with waitList := r :: rest }, [])

/-- The examination, made only in supply-good state GOOD (R27). -/
def Budget.examine (u : Budget) : Budget × List Signal :=
  if u.supply = .good then u.examineFrom u.waitList else (u, [])

/-- A pending capacity that the claims have fallen to becomes effective (R24). -/
def Budget.meetPending (u : Budget) : Budget :=
  match u.pending with
  | some p => if drawSum u.claims ≤ p then { u with effective := p, pending := none } else u
  | none => u

/-- Whether a request waits for a spin-up or a recovery, whose units are reserved while it is at the head (R28). -/
def RequestKind.reserves : RequestKind → Bool
  | .spinUp | .recover => true
  | _ => false

/-- The headroom an arriving request is fitted to at once, or none where it joins the list unjudged (R25, R28, R35). -/
def Budget.arrivalHeadroom (u : Budget) (r : Request) : Option Int :=
  if u.supply ≠ .good then none
  else match u.waitList with
    | [] => some u.headroom
    | q :: _ =>
      if r.kind = .seek ∧ q.kind.reserves ∧ q.bay ≠ r.bay then some (u.headroom - Config.spinDraw) else none

/-- A request reaches the budget: it is granted at once, or it joins the wait list (R25, R28, R29, R35). -/
def Budget.take (u : Budget) (r : Request) : Budget × List Signal :=
  match (u.arrivalHeadroom r).bind r.fit with
  | some (l, d) => (u.addClaim (r.claim d), [.grant r.bay r.kind l])
  | none => (u.join r, [])

/-- A claim is released: its record is removed, a pending capacity now met takes effect, and the head is examined
(R30). -/
def Budget.free (u : Budget) (b : BayId) (c : Consumer) : Budget × List Signal :=
  ({ u with claims := u.claims.filter fun d => !(d.bay = b ∧ d.consumer = c) }).meetPending.examine

/-- A spindle's claim is reduced to the draw of RUN, keeping its place; R24 and R27 apply (R20, R30). -/
def Budget.reduce (u : Budget) (b : BayId) : Budget × List Signal :=
  ({ u with claims := u.claims.map fun (d : Claim) =>
      if d.bay = b ∧ d.consumer = Consumer.spindle then { d with draw := min d.draw Config.runDraw } else d }).meetPending.examine

/-- A waiting request is withdrawn; the new head is examined if it was the head (R31). -/
def Budget.drop (u : Budget) (b : BayId) (k : RequestKind) : Budget × List Signal :=
  match u.waitList with
  | [] => (u, [])
  | q :: rest =>
    if q.bay = b ∧ q.kind = k then ({ u with waitList := rest }).examine
    else ({ u with waitList := q :: rest.filter fun r => !(r.bay = b ∧ r.kind = k) }, [])

/-- A capacity stored by SET takes effect at once if the claims allow, and is pending otherwise (R23). -/
def Budget.setCapacity (u : Budget) (v : Nat) : Budget × List Signal :=
  if drawSum u.claims ≤ v then ({ u with effective := v, pending := none }).examine
  else ({ u with pending := some v }, [])

/-- SUPPLY GOOD falls: LOW, claims voided, requests ended, a pending capacity effective, the timer stopped (R34). -/
def Budget.lose (u : Budget) : Budget :=
  { u with claims := [], waitList := [], effective := u.judging, pending := none, supply := .low,
           powerOnHold := false, holdTimer := none }

/-- A soft reset: requests ended, every claim voided but those of spindles in RUN, a pending capacity effective (R36). -/
def Budget.softReset (u : Budget) (running : BayId → Bool) : Budget :=
  { u with claims := u.claims.filter fun d => d.consumer == .spindle && d.draw ≤ Config.runDraw && running d.bay,
           waitList := [], effective := u.judging, pending := none }

/-- What an operation of the budget answers becomes the state's, its grants going on their way to their owners. -/
def State.putBudget (s : State) (r : Budget × List Signal) : State :=
  { s with budget := r.1, signals := s.signals ++ r.2 }

/-- All notices to and from the budget are ended (R34, R36). -/
def State.endBudgetSignals (s : State) : State := { s with signals := s.signals.filter fun x => !x.ofBudget }

/-- The spindle's transfer into RUN at the budget (R20). -/
def State.reduceClaim (s : State) (b : BayId) : State := s.putBudget (s.budget.reduce b)

/-- Whether the hardware retract takes the heads of a bay to the stop: the actuator is UNLOADED by its record, and the
retract-stop sense has not yet been seen true (R91, R93; how long the retract draws is DEDUCED, log entry 42). -/
def Bay.retracting (y : Bay) : Bool := y.act.state = .unloaded ∧ y.pins.retractStop = false

/-- Whether an unload drives the heads of a bay to the stop (R88, R89). -/
def Bay.unloading (y : Bay) : Bool := y.act.state = .unloading ∧ y.act.unloadMoving

/-- The draw on the retract reserve, outside the budget: 3 units for each bay whose heads are being unloaded or retracted
(R21). -/
def State.reserveDraw (s : State) : Nat :=
  ([s.bayA, s.bayB].filter fun y => y.unloading || y.retracting).length * Config.reservePerBay

end Sys2Proof.Machine
end

