-- ==== Sys2Proof/Machine/SeekPlan.lean ====
section
/-!
DEFINITION. The Seek Planner (chapter 4): the constants of the four levels, the plan of a seek, and its demand profile.
-/

namespace Sys2Proof.Machine

/-- The acceleration a of a level (R62). -/
def accel : Nat → Nat
  | 0 => 2
  | 1 => 2
  | _ => 1

/-- The top velocity vmax of a level (R62). -/
def topVelocity : Nat → Nat
  | 0 => 24
  | 1 => 16
  | 2 => 10
  | _ => 6

/-- The ramp length k of a level: vmax / a (R62). -/
def rampLength (l : Nat) : Nat := topVelocity l / accel l

/-- The ramp distance R of a level: a × k × (k + 1) / 2 (R62). -/
def rampDistance (l : Nat) : Nat := accel l * rampLength l * (rampLength l + 1) / 2

/-- The heat weight w of a level (R62). -/
def heatWeight : Nat → Nat
  | 0 => 8
  | 1 => 6
  | 2 => 3
  | _ => 2

/-- The largest j up to a bound with a × j × (j + 1) at most D (R68). -/
def triangleSteps (a d : Nat) : Nat → Nat
  | 0 => 0
  | j + 1 => if a * (j + 1) * (j + 2) ≤ d then j + 1 else triangleSteps a d j

/-- The form of a plan: its half ramp, and its coast-or-extra field (R66 to R68). -/
structure Shape where
  half : Nat
  run  : CoastOrExtra
deriving DecidableEq, Repr

/-- The form a distance takes at a level (R66, R67, R68). A triangle's j is below the ramp length of its level. -/
def shapeOf (d l : Nat) : Shape :=
  if d = 0 then { half := 0, run := .absent }
  else if 2 * rampDistance l ≤ d then
    { half := rampLength l, run := .coast (ceilDiv (d - 2 * rampDistance l) (topVelocity l)) }
  else
    let j := triangleSteps (accel l) d (rampLength l)
    { half := j, run := .extra (ceilDiv (d - accel l * j * (j + 1)) (accel l * (j + 1))) }

/-- The samples of a coast-or-extra field. -/
def CoastOrExtra.samples : CoastOrExtra → Nat
  | .absent => 0
  | .coast n => n
  | .extra n => n

/-- The plan of a seek: to a cylinder and head, over a distance in a direction, asked for at E and granted at L (R66 to
R70), with outcome IN FORCE (R63). -/
def makePlan (cylinder head d : Nat) (dir : Direction) (e l : Nat) : Plan :=
  let shape := shapeOf d l
  let ramp := 2 * shape.half
  let moving := ramp + shape.run.samples
  let settle := if d = 0 then 0 else 4
  { targetCylinder := cylinder, targetHead := head, distance := d, direction := dir, requested := e, level := l
    ramp, coastOrExtra := shape.run, moving, settle, timeout := 2 * (moving + settle) + 24
    draw := if d = 0 then 0 else seekDraw l
    heatAdd := heatWeight l * ramp, outcome := .inForce }

/-- The velocity between the two ramps: vmax in a coast, the next step of the ramp in the extra samples of a triangle
(R71). -/
def Plan.runVelocity (p : Plan) : Nat :=
  match p.coastOrExtra with
  | .coast _ => topVelocity p.level
  | _ => accel p.level * (p.ramp / 2 + 1)

/-- The distance left to the samples between the two ramps (R67, R68). -/
def Plan.runDistance (p : Plan) : Nat := p.distance - accel p.level * (p.ramp / 2) * (p.ramp / 2 + 1)

/-- The size of the velocity demanded in a sample of the seek, numbered from 1, in cylinders per sample (R71). -/
def Plan.demand (p : Plan) (sample : Nat) : Nat :=
  let half := p.ramp / 2
  let run := p.coastOrExtra.samples
  if sample = 0 ∨ p.moving < sample then 0
  else if sample ≤ half then accel p.level * sample
  else if sample < half + run then p.runVelocity
  else if sample = half + run then p.runDistance - p.runVelocity * (run - 1)
  else accel p.level * (2 * half + run + 1 - sample)

/-- The sign a direction gives a velocity: cylinder numbers rise inward, so UP is positive (R71, section 5). -/
def Direction.sign : Direction → Int
  | .up => 1
  | .down => -1
  | .none => 0

/-- The velocity demanded in a sample of a seek, its sign given by the direction of the plan. A plan whose seek has ended
demands none: the heads follow a cylinder, or leave the medium (R71). -/
def Plan.velocity (p : Plan) (sample : Nat) : Int :=
  if p.outcome = .inForce then p.direction.sign * p.demand sample else 0

/-- Whether the completion condition of a plan can be met in a sample: the target's ID has been read in S consecutive
samples after at least M, one sufficing for distance 0, and the timeout has not passed (R69). -/
def Plan.mayComplete (p : Plan) (sample : Nat) : Bool :=
  max 1 (p.moving + p.settle) ≤ sample ∧ sample ≤ p.timeout

end Sys2Proof.Machine
end

