-- ==== Sys2Proof/Machine/Heat.lean ====
section
/-!
DEFINITION. The Coil Heat Monitor (chapter 6): the heat estimate and one evaluation.
-/

namespace Sys2Proof.Machine

/-- The heat add of a seek that starts, the sum held at 65,535 (R94). -/
def Heat.add (h : Heat) (n : Nat) : Heat := { h with estimate := min Config.max16 (h.estimate + n) }

/-- Step 1 and 2 of an evaluation: the decay and the delay (R95, R97). -/
def Heat.decay (h : Heat) : Heat :=
  { h with estimate := h.estimate - h.estimate / 16, delay := h.delay - 1 }

/-- Whether a decayed monitor raises its offset (R98). -/
def Heat.stepsUp (h : Heat) (top : Nat) : Bool := top < h.estimate ∧ h.overTop ∧ h.offset < 3 ∧ h.delay = 0

/-- Whether a decayed monitor lowers its offset (R99). -/
def Heat.stepsDown (h : Heat) (rel : Nat) : Bool := h.estimate < rel ∧ 0 < h.offset ∧ h.delay = 0

/-- Whether a decayed monitor sets its flag (R101). -/
def Heat.trips (h : Heat) (trip : Nat) : Bool := h.hot = false ∧ trip < h.estimate ∧ h.overTrip

/-- Whether a decayed monitor clears its flag (R102). -/
def Heat.cools (h : Heat) (top : Nat) : Bool := h.hot ∧ h.estimate ≤ top

/-- The evaluations a minute of HEAT ADJUST DELAY counts for (R97). -/
def delayLoad (minutes : Nat) : Nat := 120 * minutes

/-- One evaluation of a monitor: decay, delay, offset test, flag test and markers (R95, R97 to R102). -/
def Heat.evaluate (h : Heat) (c : Settings) : Heat :=
  let d := h.decay
  let up := d.stepsUp c.heatTop
  let down := d.stepsDown c.heatRelease
  { d with
    offset := if up then d.offset + 1 else if down then d.offset - 1 else d.offset
    delay := if up ∨ down then delayLoad c.adjustDelay else d.delay
    hot := if d.hot then !d.cools c.heatTop else d.trips c.heatTrip
    overTop := c.heatTop < d.estimate
    overTrip := c.heatTrip < d.estimate }

/-- The monitor after a soft reset: H is kept, all else is at its start (R104). -/
def Heat.softReset (h : Heat) : Heat := { estimate := h.estimate }

/-- The effective level E = min(3, O + F) (R64). -/
def Bay.effectiveLevel (y : Bay) : Nat := min 3 (y.heat.offset + y.act.downshift)

end Sys2Proof.Machine
end

