-- ==== Sys2Proof/Machine/Actuator.lean ====
section
/-!
DEFINITION. The Actuator Controller (chapter 5): seeks in hand, recalibration, load and unload. What its reports lead to at
the Bay Controller and the Media Engine is in Machine/Bay.lean and Machine/Media.lean.
-/

namespace Sys2Proof.Machine

/-! ### Seeks -/

/-- The direction from a cylinder to another (R63). -/
def directionTo (src dst : Nat) : Direction := if src < dst then .up else if dst < src then .down else .none

/-- The level E a seek asks for: the bay's effective level, or 3 for a sweep seek (R64). -/
def Bay.seekLevel (y : Bay) : Requester → Nat
  | .media => y.effectiveLevel
  | .sweep => 3

/-- The head select output of a bay selects a surface (R63, R78). -/
def State.selectHead (s : State) (b : BayId) (head : Nat) : State := s.modPins b fun p => { p with headSelect := head }

/-- A seek starts at a level: its plan is made and in force, the actuator is SEEKING, its head is selected, and its heat add
is handed over (R63, R84, R94). -/
def State.startSeek (s : State) (b : BayId) (q : SeekInHand) (l : Nat) : State :=
  let p := makePlan q.cylinder q.head q.distance q.direction q.level l
  ((s.modAct b fun x =>
    { x with state := .seeking, seek := some { q with standing := .running }, plan := some p }).selectHead b q.head).modHeat b
      fun h => h.add p.heatAdd

/-- A seek in hand is taken for planning: D, direction and E are fixed, and the request is sent, or for distance 0 the
plan is made at once with L equal to E (R63, R64). -/
def State.planSeek (s : State) (b : BayId) (q : SeekInHand) : State :=
  match (s.bay b).act.cylinder with
  | none => s
  | some c =>
    let e := (s.bay b).seekLevel q.requester
    let q := { q with distance := distanceTo c q.cylinder, direction := directionTo c q.cylinder, level := e }
    if q.distance = 0 then s.startSeek b q e
    else (s.modAct b fun x => { x with seek := some { q with standing := .requested } }).request b .seek e

/-- A seek in hand is held back, or taken for planning, as the coil-hot flag directs (R81, R82, R86). -/
def State.takeSeek (s : State) (b : BayId) (q : SeekInHand) : State :=
  if (s.bay b).heat.hot then s.modAct b fun x => { x with seek := some { q with standing := .held } }
  else s.planSeek b q

/-- How a seek need is answered (R81). -/
inductive NeedAnswer where
  | taken | notLoaded | busy
deriving DecidableEq, Repr

/-- A seek need is given to the actuator (R81). -/
def State.seekNeed (s : State) (b : BayId) (r : Requester) (cylinder head : Nat) : State × NeedAnswer :=
  if (s.bay b).act.state ≠ .tracking then (s, .notLoaded)
  else if (s.bay b).act.seek.isSome then (s, .busy)
  else
    (s.takeSeek b { requester := r, cylinder, head, attempt := 1, standing := .held, distance := 0, direction := .none,
                    level := 0 }, .taken)

/-- The plan in force ends with an outcome (R72). -/
def Actuator.endPlan (x : Actuator) (o : PlanOutcome) : Actuator :=
  { x with plan := x.plan.map fun p => if p.outcome = .inForce then { p with outcome := o } else p }

/-- Whether the seek that runs holds a claim: it does unless its distance is 0 (R66). -/
def Actuator.seekHoldsClaim (x : Actuator) : Bool := x.plan.any fun p => p.distance ≠ 0

/-- The seek's claim is released, unless its distance was 0 (R84, R85, R88). -/
def State.releaseSeek (s : State) (b : BayId) : State :=
  if (s.bay b).act.seekHoldsClaim then s.release b .actuator else s

/-- A RECALIBRATE request is made: RECALIBRATING with the request waiting and the current cylinder UNKNOWN (R78). -/
def State.askRecal (s : State) (b : BayId) : State :=
  (s.modAct b fun x => { x with state := .recalibrating, cylinder := none, recal := .waiting, recalForLoad := false }).request
    b .recalibrate

/-- The upshift test of R84. -/
def State.upshiftTest (s : State) (b : BayId) : State :=
  let x := (s.bay b).act
  if s.settings.upshiftRun ≤ x.upshiftRun ∧ 0 < x.downshift then
    (s.modAct b fun x => { x with downshift := x.downshift - 1, upshiftRun := 0 }).latch b .upshift
  else s

/-- The downshift test of R85. -/
def State.downshiftTest (s : State) (b : BayId) : State :=
  let x := (s.bay b).act
  if s.settings.downshiftThreshold ≤ x.failures then
    if x.downshift < 3 then
      (s.modAct b fun x => { x with failures := 0, downshift := x.downshift + 1 }).latch b .downshift
    else s.modAct b fun x => { x with failures := 0 }
  else s

/-- A seek completes: steps 1 to 6 of R84 but the report. -/
def State.seekSucceeds (s : State) (b : BayId) (q : SeekInHand) : State :=
  ((s.releaseSeek b).modAct b fun x =>
    { x.endPlan .completed with
      state := .tracking, cylinder := some q.cylinder, head := q.head, seek := none, failures := 0
      upshiftRun := min 1024 (x.upshiftRun + 1) }).upshiftTest b

/-- An attempt of a seek fails: steps 1 to 6 of R85. -/
def State.seekFails (s : State) (b : BayId) (q : SeekInHand) (o : PlanOutcome) : State :=
  let s := (s.releaseSeek b).modAct b fun x => { x.endPlan o with cylinder := none }
  let s := (s.raise b .seekRetries 1).modAct b fun x => { x with failures := min 8 (x.failures + 1), upshiftRun := 0 }
  ((s.downshiftTest b).modAct b fun x => { x with seek := some { q with standing := .retrying } }).askRecal b

/-! ### The coil-hot flag (R82, R83) -/

/-- The flag is set: a seek that stands REQUESTED is withdrawn and HELD (R83). -/
def State.holdSeek (s : State) (b : BayId) : State :=
  match (s.bay b).act.seek with
  | some q =>
    if q.standing = .requested then
      (s.modAct b fun x => { x with seek := some { q with standing := .held } }).withdraw b .seek
    else s
  | none => s

/-- A HELD seek is taken for planning when the actuator is TRACKING and the flag is off (R78, R82). -/
def State.takeHeld (s : State) (b : BayId) : State :=
  match (s.bay b).act.seek with
  | some q =>
    if q.standing = .held ∧ (s.bay b).act.state = .tracking ∧ (s.bay b).heat.hot = false then s.planSeek b q else s
  | none => s

/-! ### The drive (R71, R74, R76, R78) -/

/-- What the Actuator Controller demands of the heads in a sample: nothing; a velocity in cylinders per sample, positive
inward, 0 being to follow the present cylinder; or the move to the retract stop, for which the spec gives no velocity (R89). -/
inductive ActuatorDrive where
  | none
  | velocity (v : Int)
  | toStop
deriving DecidableEq, Repr

/-- The velocity demanded in a sample of a load: inward, and no more than the top velocity of level 3 (R74, R76). The profile
is a free value (log entry 39). -/
def Actuator.loadVelocity (x : Actuator) (sample : Nat) : Int :=
  max 0 (min (topVelocity 3) (Config.loadVelocity x.move sample))

/-- The sample in which a recalibration reads an OUTER GUARD ID, the last of its outward part: the first after a load, whose heads
stand on the guard, and otherwise a free value (R78; log entry 39). -/
def Actuator.recalGuard (x : Actuator) : Nat := if x.recalForLoad then 1 else max 1 (Config.guardSample x.move)

/-- The velocity demanded in a sample of a recalibration that runs: outward until the guard is read, and then inward, and no more
than the top velocity of level 3 (R74, R78). The profile is a free value (log entry 39). -/
def Actuator.recalVelocity (x : Actuator) (sample : Nat) : Int :=
  let v := Config.recalVelocity x.move sample
  if sample ≤ x.recalGuard then max (-topVelocity 3) (min 0 v) else max 0 (min (topVelocity 3) v)

/-- The demand in a sample of the move under way, numbered from 1 at its start (R71, R76, R78, R89). -/
def Actuator.drive (x : Actuator) (sample : Nat) : ActuatorDrive :=
  match x.state with
  | .unloaded => .none
  | .loading => .velocity (x.loadVelocity sample)
  | .recalibrating => if x.recal = .running then .velocity (x.recalVelocity sample) else .none
  | .tracking => .velocity 0
  | .seeking => .velocity (x.plan.elim 0 fun p => p.velocity sample)
  | .unloading => if x.unloadMoving then .toStop else .none

/-- A load or recalibration that starts takes a free profile of its own (log entry 39). -/
def State.newMove (s : State) (b : BayId) : State :=
  { s.modAct b fun x => { x with move := s.freeIndex } with freeIndex := s.freeIndex + 1 }

/-! ### Load and unload -/

/-- A head-load request (R76). With the spindle not in RUN it is answered NO SPEED, and in a state other than UNLOADED it
has no effect. -/
def State.askLoad (s : State) (b : BayId) : State :=
  if (s.bay b).act.state = .unloaded ∧ (s.bay b).spindle.state = .run then
    (s.modAct b fun x => { x with loadAttempt := some 1 }).request b .load
  else s

/-- An unload starts: UNLOADING under the reserve, the current cylinder UNKNOWN. With the retract-stop sense already true it
is complete at once, by a notice of its own (R88, R89). -/
def State.startUnload (s : State) (b : BayId) : State :=
  let s := s.modAct b fun x =>
    { x with state := .unloading, cylinder := none, seek := none, recal := .idle, recalForLoad := false,
             unloadMoving := true, unloadAt := s.clock }
  if (s.bay b).pins.retractStop then s.send (.atStop b) else s

/-- A seek that stands REQUESTED has its request withdrawn (R80, R88, R90). -/
def State.withdrawSeek (s : State) (b : BayId) : State :=
  if (s.bay b).act.seek.any fun q => q.standing = .requested then s.withdraw b .seek else s

/-- An unload request, or a speed loss, takes the heads off the medium: the tables of R88 and R90, which agree. It tells
whether the request is answered as complete at once. In UNLOADING with an unload moving it starts none, and the unload-failed
marker of an earlier failure stays on until that unload ends, although the row of the marker fits too (DESIGN CHOICE, log
entry 35). -/
def State.askUnload (s : State) (b : BayId) : State × Bool :=
  let x := (s.bay b).act
  let t := s.modAct b fun x => { x with loadAttempt := none }
  match x.state with
  | .unloaded => (if x.loadAttempt.isSome then t.withdraw b .load else t, true)
  | .loading => ((t.release b .actuator).startUnload b, false)
  | .recalibrating =>
    let u := match x.recal with
      | .running => t.release b .actuator
      | .waiting => t.withdraw b .recalibrate
      | .idle | .failed => t
    (u.startUnload b, false)
  | .tracking => ((t.withdrawSeek b).startUnload b, false)
  | .seeking => (((t.releaseSeek b).modAct b fun x => x.endPlan .abandoned).startUnload b, false)
  | .unloading => (if x.unloadMoving then t else t.startUnload b, false)

/-- The emergency retract at supply loss (R91). -/
def State.retract (s : State) (b : BayId) : State :=
  let x := (s.bay b).act
  let s := if x.state = .unloaded ∧ x.unloadFailed = false then s
    else s.modPins b fun p => { p with retractFired := p.retractFired + 1 }
  let s := { s with signals := s.signals.filter fun z => z ≠ Signal.atStop b }
  s.modAct b fun x =>
    { x.endPlan .abandoned with
      state := .unloaded, unloadFailed := false, unloadMoving := false, cylinder := none, loadAttempt := none
      seek := none, recal := .idle, recalForLoad := false }

/-- The actuator record at a soft reset, before the Bay Controller's unload request (R92). Its claims and requests are
ended by the budget, so that nothing is released or withdrawn: a load, recalibration or seek in progress leaves the heads
where they stand, TRACKING nothing. -/
def Actuator.softReset (x : Actuator) : Actuator :=
  { x.endPlan .abandoned with
    state := if x.state = .unloaded ∨ x.state = .unloading then x.state else .tracking
    seek := none, loadAttempt := none, recal := .idle, recalForLoad := false
    failures := 0, upshiftRun := 0, downshift := 0, cylinder := none }

end Sys2Proof.Machine
end

