-- ==== Sys2Proof/Machine/MapUnit.lean ====
section
/-!
DEFINITION. The Map Unit (chapter 7): resolution, the edits of a remap table, and the label: building, judging, and the
outcome of a save.
-/

namespace Sys2Proof.Machine

/-! ### Lookup and resolution -/

/-- The entries of a table with their indices, in index order. -/
def RemapTable.indexed (t : RemapTable) : List (Nat × Option MapEntry) := t.entries.toList.zipIdx.map fun (e, i) => (i, e)

/-- The valid entries of a table, in index order (R106). -/
def RemapTable.valid (t : RemapTable) : List MapEntry := t.entries.toList.filterMap id

/-- The valid entry of a block, with its index (R108, R110). -/
def RemapTable.find (t : RemapTable) (block : Nat) : Option (Nat × MapEntry) :=
  t.indexed.findSome? fun (i, e) => (e.filter fun m => m.block = block).map fun m => (i, m)

/-- The physical address of a block of a bay: the spare of its entry, or its direct address (R108). -/
def RemapTable.resolve (t : RemapTable) (typeCode block : Nat) : PhysAddr :=
  match t.find block with
  | some (_, m) => spareAddr typeCode m.spare
  | none => directAddr block

/-- The entry at an index. -/
def RemapTable.at (t : RemapTable) (index : Nat) : Option MapEntry := (t.entries[index]?).join

/-- Whether a valid entry, other than the one at an index, holds a block or a spare (R109, step 5). -/
def RemapTable.duplicates (t : RemapTable) (except : Option Nat) (block spare : Nat) : Bool :=
  t.indexed.any fun (i, e) => some i ≠ except ∧ e.any fun m => m.block = block ∨ m.spare = spare

/-- The lowest-numbered invalid index (R112). -/
def RemapTable.lowestInvalid (t : RemapTable) : Option Nat :=
  (t.indexed.find? fun (_, e) => e.isNone).map Prod.fst

/-! ### Edits -/

/-- An edit is accepted: the entry at an index is replaced, and the dirty flag and the marker are set on (R111 to R113,
R115). -/
def RemapTable.edit (t : RemapTable) (index : Nat) (e : Option MapEntry) : RemapTable :=
  { t with entries := t.entries.setIfInBounds index e, dirty := true, edited := true }

/-- The blocks that a MAP WRITE touches (R114). -/
def RemapTable.touchedByWrite (t : RemapTable) (index block : Nat) : List Nat :=
  block :: (t.at index).toList.map MapEntry.block

/-- The blocks that a MAP CLEAR touches (R114). -/
def RemapTable.touchedByClear (t : RemapTable) (index : Nat) : List Nat := (t.at index).toList.map MapEntry.block

/-! ### The label -/

/-- The magic words, the version, and the number of words of a label (R116, section 11.6). -/
def labelMagic0 : Nat := 0x5A3C
def labelMagic1 : Nat := 0xC3A5
def labelVersion : Nat := 1

/-- The words of the entries of a label: block, then spare with pad 0 (R116). -/
def entryWords : List MapEntry → List Nat
  | [] => []
  | m :: rest => m.block :: m.spare :: entryWords rest

/-- The check word that makes the sum of all words 0 modulo 65,536 (R116). -/
def checkWord (words : List Nat) : Nat := (65536 - words.sum % 65536) % 65536

/-- The generation a build writes: the label generation and 1, modulo 65,536 (R120). -/
def RemapTable.nextGeneration (t : RemapTable) : Nat := (t.generation + 1) % 65536

/-- The 256 words of the label built from a table (R116, R120). -/
def RemapTable.labelWords (t : RemapTable) (typeCode : Nat) : List Nat :=
  let head := [labelMagic0, labelMagic1, typeCode, labelVersion, t.valid.length, t.nextGeneration] ++ entryWords t.valid
  let body := head ++ List.replicate (255 - head.length) 0
  body ++ [checkWord body]

/-- The label built from a table, as the sector written (R120). -/
def RemapTable.labelSector (t : RemapTable) (typeCode : Nat) : Sector := sectorOf (bytesOf (t.labelWords typeCode))

/-- The Map Unit builds a label: the marker goes off, and the generation written is kept (R120). -/
def RemapTable.build (t : RemapTable) : RemapTable := { t with edited := false, built := t.nextGeneration }

/-- The first n entries of a label's words (section 11.6). -/
def labelEntries : Nat → List Nat → List MapEntry
  | n + 1, block :: spare :: rest => { block, spare := spare % 256 } :: labelEntries n rest
  | _, _ => []

/-- Whether no two of some entries hold the same block or the same spare index (R117, step 6). -/
def noDuplicates : List MapEntry → Bool
  | [] => true
  | m :: rest => rest.all (fun k => k.block ≠ m.block ∧ k.spare ≠ m.spare) && noDuplicates rest

/-- The judgement of the words of a label read (R117, steps 2 to 6): a cause, or its entries and generation. -/
def judgeWords (typeCode : Nat) (words : List Nat) : Except LabelCause (List MapEntry × Nat) :=
  let word := fun i => words.getD i 0
  let n := word 4
  let entries := labelEntries n (words.drop 6)
  if word 0 ≠ labelMagic0 ∨ word 1 ≠ labelMagic1 ∨ word 3 ≠ labelVersion then .error .badMagic
  else if words.sum % 65536 ≠ 0 then .error .badCheck
  else if word 2 ≠ typeCode then .error .typeMismatch
  else if 64 < n ∨ !entries.all (fun m => blockOk typeCode m.block && spareOk m.spare) then .error .badEntry
  else if !noDuplicates entries then .error .badEntry
  else .ok (entries, word 5)

/-- The judgement of a label read: no data when the read failed (R117). -/
def judgeLabel (typeCode : Nat) (data : Option Sector) : Except LabelCause (List MapEntry × Nat) :=
  match data with
  | none => .error .unreadable
  | some d => judgeWords typeCode (wordsOf d.toList)

/-- The table a judgement leaves: filled in label order, or empty (R118). The marker is left as it stands. -/
def RemapTable.fill (t : RemapTable) (entries : List MapEntry) (generation : Nat) : RemapTable :=
  { t with entries := Vector.ofFn fun i => entries[i.val]?, dirty := false, generation }

/-- The outcome of a save that succeeds: the generation written is the table's, and the dirty flag goes off if no edit was
accepted after the build (R121). -/
def RemapTable.saved (t : RemapTable) : RemapTable :=
  { t with generation := t.built, dirty := if t.edited then t.dirty else false }

/-- The summary every accepted map message carries: valid entries, dirty flag, generation (R109). -/
def RemapTable.summary (t : RemapTable) : List Byte :=
  byte t.valid.length ++ byteOn t.dirty ++ bytes2 t.generation

end Sys2Proof.Machine
end

