-- ==== Sys2Proof/Machine/Queue.lean ====
section
/-!
DEFINITION. The Write Queue (chapter 8): its list of entries and marks, merging, fences, the mark test, selection,
supersession and discards.
-/

namespace Sys2Proof.Machine

/-- The bay of an item. -/
def Item.bay : Item → BayId
  | .entry e => e.bay
  | .mark c _ => c

/-- The write entries of a list, in order. -/
def entriesOf : List Item → List WriteEntry
  | [] => []
  | .entry e :: rest => e :: entriesOf rest
  | .mark .. :: rest => entriesOf rest

/-- The items of a bay, in order. -/
def itemsOf (b : BayId) (items : List Item) : List Item := items.filter fun i => i.bay = b

/-- The number of write entries held (R123). -/
def WriteQueue.entryCount (q : WriteQueue) : Nat := (entriesOf q.items).length
/-- The number of marks held (R123). -/
def WriteQueue.markCount (q : WriteQueue) : Nat := q.items.length - q.entryCount
/-- The number of write entries of a bay (R122, R174). -/
def WriteQueue.entriesOfBay (q : WriteQueue) (b : BayId) : Nat := (entriesOf (itemsOf b q.items)).length
/-- The number of marks of a bay (R122, R174). -/
def WriteQueue.marksOfBay (q : WriteQueue) (b : BayId) : Nat := (itemsOf b q.items).length - q.entriesOfBay b
/-- Whether a bay has no item in the list: the bay is drained (R129). -/
def WriteQueue.drained (q : WriteQueue) (b : BayId) : Bool := (itemsOf b q.items).isEmpty

/-- The lowest-numbered free write slot (R123). -/
def WriteQueue.freeSlot (q : WriteQueue) : Option (Fin 16) :=
  (List.finRange 16).find? fun i => !(entriesOf q.items).any fun e => e.slot = i.val

/-! ### Fences -/

/-- The part of a list after the last mark of a bay: the last stretch (R125). -/
def lastStretch (b : BayId) (items : List Item) : List Item :=
  items.foldl (fun acc i => match i with
    | .mark c _ => if c = b then [] else acc ++ [i]
    | .entry _ => acc ++ [i]) []

/-- The part of a list before the first mark of a bay: what stands there is not fenced (R131). -/
def firstStretch (b : BayId) (items : List Item) : List Item :=
  items.takeWhile fun i => match i with
    | .mark c _ => c ≠ b
    | .entry _ => true

/-- Whether an entry is the QUEUED entry of a bay and block. -/
def WriteEntry.queuedFor (e : WriteEntry) (b : BayId) (block : Nat) : Bool :=
  e.bay = b ∧ e.block = block ∧ e.writing = false

/-- The entry that a WRITE of a bay and block merges into (R125, case 1). -/
def WriteQueue.mergeTarget (q : WriteQueue) (b : BayId) (block : Nat) : Option WriteEntry :=
  (entriesOf (lastStretch b q.items)).find? fun e => e.queuedFor b block

/-- The eligible QUEUED entries of a bay, in list order (R131). -/
def WriteQueue.eligible (q : WriteQueue) (b : BayId) : List WriteEntry :=
  (entriesOf (firstStretch b q.items)).filter fun e => e.bay = b ∧ e.writing = false

/-- The WRITING entry of a bay, if it has one (R131). -/
def WriteQueue.writingOf (q : WriteQueue) (b : BayId) : Option WriteEntry :=
  (entriesOf q.items).find? fun e => e.bay = b ∧ e.writing

/-- Whether the list holds a WRITING entry of a bay and block (R114). -/
def WriteQueue.writingBlock (q : WriteQueue) (b : BayId) (block : Nat) : Bool :=
  (entriesOf q.items).any fun e => e.bay = b ∧ e.block = block ∧ e.writing

/-- The newest entry of a bay and block: the one standing last in the list (R136). -/
def WriteQueue.newest (q : WriteQueue) (b : BayId) (block : Nat) : Option WriteEntry :=
  ((entriesOf q.items).filter fun e => e.bay = b ∧ e.block = block).getLast?

/-- The contents of the write slot of an entry. -/
def WriteQueue.dataOf (q : WriteQueue) (e : WriteEntry) : Sector := q.slots[e.slot]?.getD Sector.zero

/-! ### Changes -/

/-- Put data into a write slot. -/
def WriteQueue.putData (q : WriteQueue) (slot : Nat) (d : Sector) : WriteQueue :=
  { q with slots := q.slots.setIfInBounds slot d }

/-- What the Write Queue does with a WRITE it can take (R125). -/
inductive Placed where
  | merged (arrival : Nat)
  | appended (arrival : Nat)
  | full
deriving DecidableEq, Repr

/-- A WRITE that has passed its checks is placed: merged, appended, or refused (R125). -/
def WriteQueue.place (q : WriteQueue) (b : BayId) (block : Nat) (d : Sector) : WriteQueue × Placed :=
  match q.mergeTarget b block with
  | some e => (q.putData e.slot d, .merged e.arrival)
  | none =>
    match q.freeSlot with
    | some i =>
      let e : WriteEntry := { bay := b, block, slot := i.val, writing := false, attempts := 0, arrival := q.nextArrival }
      ({ (q.putData i.val d) with items := q.items ++ [.entry e], nextArrival := (q.nextArrival + 1) % 65536 },
        .appended q.nextArrival)
    | none => (q, .full)

/-- What the Write Queue does with an ORDER (R127): whether it is refused, and the list after it. -/
def WriteQueue.order (q : WriteQueue) (b : BayId) : WriteQueue × Bool :=
  match (itemsOf b q.items).getLast? with
  | some (.entry _) =>
    if q.markCount < Config.maxMarks then ({ q with items := q.items ++ [.mark b .order] }, true) else (q, false)
  | _ => (q, true)

/-- The mark test's removal: the marks of a bay that stand before its first entry, and whether a FLUSH was among them
(R129). -/
def dropMarks (b : BayId) : List Item → List Item × Bool
  | [] => ([], false)
  | .mark c k :: rest =>
    let (kept, flushed) := dropMarks b rest
    if c = b then (kept, flushed || k = .flush) else (.mark c k :: kept, flushed)
  | .entry e :: rest =>
    if e.bay = b then (.entry e :: rest, false)
    else
      let (kept, flushed) := dropMarks b rest
      (.entry e :: kept, flushed)

/-- The mark test of a bay (R129): marks performed are removed, and a FLUSH among them completes its slot. -/
def State.markTest (s : State) (b : BayId) : State :=
  let (kept, flushed) := dropMarks b s.queue.items
  let t := { s with queue := { s.queue with items := kept } }
  if flushed ∧ (s.bay b).slot.active = some .flush then t.completeSlot b .done else t

/-- Change the WRITING entry of a bay and arrival number. -/
def changeWriting (b : BayId) (arrival : Nat) (f : WriteEntry → WriteEntry) (items : List Item) : List Item :=
  items.map fun i => match i with
    | .entry e => if e.bay = b ∧ e.arrival = arrival ∧ e.writing then .entry (f e) else i
    | .mark .. => i

/-- Remove the WRITING entry of a bay and arrival number (R133, R134). -/
def removeWriting (b : BayId) (arrival : Nat) (items : List Item) : List Item :=
  items.filter fun i => match i with
    | .entry e => !(e.bay = b ∧ e.arrival = arrival ∧ e.writing)
    | .mark .. => true

/-- An entry becomes WRITING (R132). -/
def markWriting (e : WriteEntry) : List Item → List Item
  | [] => []
  | i :: rest => if i = .entry e then .entry { e with writing := true } :: rest else i :: markWriting e rest

/-- What stands after the WRITING entry of a bay and arrival number. -/
def afterWriting (b : BayId) (arrival : Nat) : List Item → List Item
  | [] => []
  | .entry e :: rest => if e.bay = b ∧ e.arrival = arrival ∧ e.writing then rest else afterWriting b arrival rest
  | .mark .. :: rest => afterWriting b arrival rest

/-- Whether a WRITING entry is superseded: a QUEUED entry of its bay and block stands after it with no mark of the bay
between (R134, case 1). -/
def WriteQueue.superseded (q : WriteQueue) (e : WriteEntry) : Bool :=
  (entriesOf (firstStretch e.bay (afterWriting e.bay e.arrival q.items))).any fun f => f.queuedFor e.bay e.block

/-- The WRITING entry an outcome names, if it is still in the list (R135). -/
def WriteQueue.outcomeEntry (q : WriteQueue) (b : BayId) (arrival : Nat) : Option WriteEntry :=
  (entriesOf q.items).find? fun e => e.bay = b ∧ e.arrival = arrival ∧ e.writing

/-- An entry leaves the list and the mark test follows (R133, R134). -/
def State.removeEntry (s : State) (b : BayId) (arrival : Nat) : State :=
  ({ s with queue := { s.queue with items := removeWriting b arrival s.queue.items } }).markTest b

/-- An entry returns to QUEUED in its place (R134, R135). -/
def State.requeue (s : State) (b : BayId) (arrival attempts : Nat) : State :=
  { s with queue := { s.queue with
      items := changeWriting b arrival (fun e => { e with writing := false, attempts }) s.queue.items } }

/-- A FLUSH mark of a bay becomes an ORDER mark (R130). -/
def flushToOrder (b : BayId) (items : List Item) : List Item :=
  items.map fun i => match i with
    | .mark c .flush => if c = b then .mark c .order else i
    | _ => i

/-- A discard of a bay (R137): its items leave, the entries are added to LOST WRITES, and if there was one a record is
appended and WRITES DISCARDED latched. -/
def State.discard (s : State) (b : BayId) : State :=
  let n := s.queue.entriesOfBay b
  let t := { s with queue := { s.queue with items := s.queue.items.filter fun i => i.bay ≠ b } }
  if n = 0 then t
  else ((t.raise b .lostWrites n).appendFault (.writesDiscarded b n)).latch b .writesDiscarded

end Sys2Proof.Machine
end

