-- ==== Sys2Proof/Machine/Spindle.lean ====
section
/-!
DEFINITION. The Spindle Controller (chapter 3): windows, targets and classes, and what it does on the requests of its Bay
Controller. What its reports lead to is in Machine/Bay.lean.
-/

namespace Sys2Proof.Machine

/-! ### Windows, targets and classes -/

/-- The edge count of a window: the setting, but 9 for 17 while the bay holds a cleaning cartridge (R40). -/
def windowEdges (setting typeCode : Nat) : Nat := if setting = 17 ∧ typeCode = 3 then 9 else setting

/-- The target T of a window with E edges at a speed in rpm (R41). -/
def speedTarget (edges rpm : Nat) : Nat := (60000000 * (edges - 1) + 4 * rpm) / (8 * rpm)

/-- The half-width w of a speed window (R42). -/
def speedHalfWidth (target tolerance : Nat) : Nat := target * tolerance / 1024

/-- The raw outcome of a measurement: a count that reaches 65,534 before edge E is FEW EDGES (R39). -/
def rawOutcome : RawOutcome → RawOutcome
  | .counted n => if n.toNat < Config.counterLimit then .counted n else .fewEdges
  | r => r

/-- The class of a raw outcome against a target and half-width (R43). -/
def classify (raw : RawOutcome) (target w : Nat) : SpeedClass :=
  match raw with
  | .counted n => if n.toNat < target - w then .over else if target + w < n.toNat then .under else .on
  | .fewEdges => .slow
  | .noEdge => .stall

/-- The reading reported for a raw outcome (R39). -/
def reportedReading (raw : RawOutcome) (slowMark : Bool) : Nat :=
  match raw with
  | .counted n => n.toNat
  | .fewEdges => if slowMark then 65534 else 65535
  | .noEdge => 65535

/-- The counts from a window's start to the completion of its measurement (R39): the wait for the first edge, a free value (log
entry 44), and then the counts to edge E or to the limit; without an edge the limit of the wait. -/
def State.measureCounts (s : State) (raw : RawOutcome) : Nat :=
  let wait := min Config.counterLimit (Config.edgeWait s.freeIndex)
  match raw with
  | .counted n => wait + n.toNat
  | .fewEdges => wait + Config.counterLimit
  | .noEdge => Config.counterLimit

/-- The class of a measurement of a bay's window at a speed (R41 to R43). -/
def State.classAt (s : State) (w : Window) (raw : RawOutcome) (rpm : Nat) : SpeedClass :=
  let t := speedTarget w.edges rpm
  classify raw t (speedHalfWidth t s.settings.speedTolerance)

/-! ### Entering states -/

/-- A spindle state that counts readings is entered: the count is 0, and the window in progress is passed over (R45). -/
def Spindle.enter (x : Spindle) (st : SpindleState) : Spindle :=
  { x with state := st, count := 0, countsStall := false, window := x.window.map fun w => { w with stale := true } }

/-- STOPPING is entered; no timer runs and no request stands in it (R56, R58). -/
def Spindle.brake (x : Spindle) : Spindle := { x.enter .stopping with timer := none, recoverAsked := false }

/-- RUN is entered: the timer stops, and the demand starts at the level that held the disc, a free value (R48, R51). -/
def Spindle.regulate (x : Spindle) (free : Nat) : Spindle :=
  { x.enter .run with timer := none, recoverAsked := false, demand := Config.holdDemand free }

/-- The drive demand after a reading counted in RUN (R51). -/
def regulated (demand : Int) (c : SpeedClass) (free : Nat) : Int :=
  match c with
  | .on => demand
  | .over => demand - 1 - Config.lowerExtra free
  | _ => demand + 1 + Config.raiseExtra free

/-- What the spindle drive does (section 3.4). -/
inductive SpindleDrive where
  | atRest | full | regulated | coasting | braking
deriving DecidableEq, Repr

/-- The drive of a spindle state (section 3.4). -/
def SpindleState.drive : SpindleState → SpindleDrive
  | .off | .waiting => .atRest
  | .accel | .recover => .full
  | .run => .regulated
  | .recoverWait => .coasting
  | .stopping => .braking

/-! ### Requests of the Bay Controller -/

/-- A spin-up request: from OFF the spindle enters WAITING and asks for its claim; in STOPPING it is kept pending; it has no
effect elsewhere (R46). -/
def State.spinUp (s : State) (b : BayId) : State :=
  let rpm := nominalSpeed (s.bay b).record.typeCode
  match (s.bay b).spindle.state with
  | .off => (s.modSpindle b fun x => { x with state := .waiting, nominal := rpm }).request b .spinUp
  | .stopping => s.modSpindle b fun x => { x with pendingSpinUp := true, nominal := rpm }
  | _ => s

/-- A stop request, and whether the stop is confirmed at once (R47, R56). -/
def State.askStop (s : State) (b : BayId) : State × Bool :=
  match (s.bay b).spindle.state with
  | .off => (s, true)
  | .waiting => ((s.modSpindle b fun x => { x with state := .off }).withdraw b .spinUp, true)
  | .accel | .run | .recover => ((s.modSpindle b Spindle.brake).release b .spindle, false)
  | .recoverWait =>
    let t := s.modSpindle b Spindle.brake
    (if (s.bay b).spindle.recoverAsked then t.withdraw b .recover else t, false)
  | .stopping => (s.modSpindle b fun x => { x with pendingSpinUp := false }, false)

/-- The Actuator Controller's answer to a loss report: in RECOVER_WAIT the RECOVER request is made (R53). -/
def State.answerSpindle (s : State) (b : BayId) : State :=
  let x := (s.bay b).spindle
  if x.state = .recoverWait ∧ x.recoverAsked = false then
    (s.modSpindle b fun x => { x with recoverAsked := true }).request b .recover
  else s

/-- The spindle at supply loss: STOPPING from every state but OFF, its markers cleared (R58). -/
def Spindle.loseSupply (x : Spindle) : Spindle :=
  let y := { x with attemptEnd := false, pendingSpinUp := false }
  if x.state = .off ∨ x.state = .stopping then y else y.brake

/-- The spindle at a soft reset (R59). -/
def Spindle.softReset (x : Spindle) : Spindle :=
  let y := { x with attemptEnd := false, pendingSpinUp := false }
  match x.state with
  | .waiting => { y with state := .off, count := 0 }
  | .accel | .recoverWait | .recover => y.brake
  | _ => y

/-- A spin-up attempt ends: the claim is released, the timer stops, the attempt-end marker is set, and the spindle brakes
(R49). -/
def State.endAttempt (s : State) (b : BayId) : State :=
  (s.modSpindle b fun x => { x.brake with attemptEnd := true }).release b .spindle

end Sys2Proof.Machine
end

