-- ==== Sys2Proof/Machine/Bay.lean ====
section
/-!
DEFINITION. The Bay Controller (chapters 1 and 10): the bay state machine, the steps of PARKING, the eject phases, faults and
loss, on the reports of its neighbours. Each operation is one report, or one thing the Bay Controller does, and stands after
those it leads to.
-/

namespace Sys2Proof.Machine

/-! ### States of the bay -/

/-- The bay enters a state; every entry to READY latches event READY (R9). -/
def State.enterReady (s : State) (b : BayId) : State :=
  (s.modRecord b fun r => { r with state := .ready, phase := .none }).latch b .ready

/-- The bay enters RAW, which latches event READY too (R9). -/
def State.enterRaw (s : State) (b : BayId) : State :=
  (s.modRecord b fun r => { r with state := .raw, phase := .none }).latch b .ready

/-- The insertion debounce starts (R7). -/
def State.startDebounce (s : State) (b : BayId) : State :=
  s.modRecord b fun r => { r with debouncing := true, debounceAt := s.clock }

/-- The bay becomes EMPTY, its record at its EMPTY values (R5). With the present sense true the debounce begins afresh
(R14, R19). -/
def State.becomeEmpty (s : State) (b : BayId) : State :=
  let s := s.modRecord b fun _ => {}
  if (s.bay b).pins.present then s.startDebounce b else s

/-- The Media Engine drops what it has, without report (R151, R157). -/
def State.dropMedia (s : State) (b : BayId) : State :=
  s.modMedia b fun m => { m with state := .idle, op := none, custody := none, saveFailures := 0 }

/-- The event a fault cause latches (R14). -/
def FaultCause.event : FaultCause → Option BayEvent
  | .spinFail => some .spinFail
  | .positionLost => some .positionLost
  | .unloadFault => some .unloadFault
  | .cartridgeLost => some .cartridgeLost
  | .ejectJam => some .ejectJam
  | .speedLost | .none => Option.none

/-- The result with which a fault ends a request in progress (R14). -/
def FaultCause.result : FaultCause → ResultStatus
  | .cartridgeLost => .removed
  | _ => .bayFault

/-- A solenoid request of RELEASE is withdrawn, or a pulse under way is cut off and its claim released (R164). -/
def State.stopSolenoid (s : State) (b : BayId) : State :=
  let r := (s.bay b).record
  if r.pulsing then s.release b .solenoid
  else if r.state = .ejecting ∧ r.phase = .release then s.withdraw b .solenoid
  else s

/-- What every entry to FAULT brings: the cause and its event, the discard of the bay's queue, the end of its request, the
drop of its media work, and the end of an eject (R14, R137, R151, R164). It keeps the lock, that of a bay in the PARKING of a
soft reset too (DESIGN CHOICE, log entry 38). -/
def State.faultBasic (s : State) (b : BayId) (c : FaultCause) : State :=
  let s := s.stopSolenoid b
  let s := s.modRecord b fun r =>
    { r with state := .fault, phase := .none, cause := c, eject := none, parkStep := .drain, resetPark := false,
             pulsing := false, debouncing := false }
  let s := match c.event with
    | some e => s.latch b e
    | none => s
  ((s.dropMedia b).discard b).endSlot b c.result

/-! ### Stops -/

/-- The eject phase RELEASE: the Bay Controller asks for its SOLENOID claim (R162). -/
def State.enterRelease (s : State) (b : BayId) : State :=
  (s.modRecord b fun r => { r with state := .ejecting, phase := .release, pulsing := false }).request b .solenoid

/-- A spin-up attempt has ended and the stop is confirmed (R8): the attempt is counted, and the bay asks again or enters
FAULT with cause SPIN FAIL. -/
def State.attemptCounted (s : State) (b : BayId) : State :=
  let s := s.modRecord b fun r => { r with attempts := min 8 (r.attempts + 1) }
  let s := s.raise b .spinAttempts 1
  if (s.bay b).record.attempts < s.settings.attemptsLimit then (s.latch b .spinRetry).spinUp b
  else s.faultBasic b .spinFail

/-- The spindle reports its stop confirmed, and whether an attempt ended with it (R50, R57): the bay goes on as its state
says. -/
def State.stopConfirmed (s : State) (b : BayId) (ended : Bool) : State :=
  let r := (s.bay b).record
  match r.state with
  | .spinning | .cleaning => if ended then s.attemptCounted b else s
  | .parking =>
    if r.parkStep = .spindown then
      if r.resetPark then s.becomeEmpty b
      else
        let s := (s.modRecord b fun r => { r with state := .parked, parkStep := .drain }).latch b .parked
        if r.eject.isSome then s.enterRelease b else s
    else s
  | .ejecting => if r.phase = .spindown then s.enterRelease b else s
  | .fault => if r.cause = .cartridgeLost then s.becomeEmpty b else s
  | .halted => if r.resetPark then s.becomeEmpty b else s
  | _ => s

/-- The Bay Controller sends a stop request, and takes a confirmation given at once (R56). -/
def State.stopSpindle (s : State) (b : BayId) : State :=
  match s.askStop b with
  | (t, true) => t.stopConfirmed b false
  | (t, false) => t

/-- The eject phase SPINDOWN (R161). -/
def State.enterSpindown (s : State) (b : BayId) : State :=
  (s.modRecord b fun r => { r with state := .ejecting, phase := .spindown }).stopSpindle b

/-! ### Unloads -/

/-- The actuator reports UNLOADED (R89): an eject goes on to SPINDOWN (R160), PARKING to its spin-down step (R11), and a
fault to its stop (R14). -/
def State.unloadedReport (s : State) (b : BayId) : State :=
  let r := (s.bay b).record
  match r.state with
  | .ejecting => if r.phase = .unload then s.enterSpindown b else s
  | .parking =>
    if r.parkStep = .unload then (s.modRecord b fun r => { r with parkStep := .spindown }).stopSpindle b else s
  | .fault =>
    match r.cause with
    | .unloadFault =>
      let c := if (s.bay b).pins.present then FaultCause.positionLost else .cartridgeLost
      (s.modRecord b fun r => { r with cause := c }).stopSpindle b
    | .positionLost => s.stopSpindle b
    | _ => s
  | _ => s

/-- The Bay Controller sends an unload request, and takes a completion answered at once (R88). -/
def State.unloadHeads (s : State) (b : BayId) : State :=
  match s.askUnload b with
  | (t, true) => t.unloadedReport b
  | (t, false) => t

/-- The eject phase UNLOAD (R160). -/
def State.enterUnload (s : State) (b : BayId) : State :=
  (s.modRecord b fun r => { r with state := .ejecting, phase := .unload }).unloadHeads b

/-! ### Faults -/

/-- The bay enters FAULT: heads and spindle are brought to rest as the cause asks (R14, R164). -/
def State.enterFault (s : State) (b : BayId) (c : FaultCause) : State :=
  let s := s.faultBasic b c
  match c with
  | .positionLost => s.unloadHeads b
  | .cartridgeLost => (s.unloadHeads b).stopSpindle b
  | _ => s

/-- A report that sends a bay to FAULT. In a bay already in FAULT only CARTRIDGE LOST and UNLOAD FAULT replace the cause
(R14). -/
def State.faultReport (s : State) (b : BayId) (c : FaultCause) : State :=
  if (s.bay b).record.state = .fault ∧ c ≠ .cartridgeLost ∧ c ≠ .unloadFault then s else s.enterFault b c

/-! ### The eject sequence -/

/-- The drain of PARKING, or of an EJECTING bay, ends when the bay's queue is empty and its slot has no media work left,
nor the engine an operation in flight (R11, R158). PARKING unloads; an eject saves a dirty table first. -/
def State.checkDrain (s : State) (b : BayId) : State :=
  let y := s.bay b
  if s.queue.drained b ∧ y.slot.mediaWork = false ∧ y.media.op = none then
    match y.record.state with
    | .parking =>
      if y.record.parkStep = .drain then (s.modRecord b fun r => { r with parkStep := .unload }).unloadHeads b else s
    | .ejecting =>
      if y.record.phase = .drain ∧ y.record.eject.any (fun e => e.saveMarker) = false then
        if y.map.dirty then
          (s.modRecord b fun r => { r with eject := r.eject.map fun e => { e with saveMarker := true } }).modMedia b
            fun m => { m with custody := some .labelSave, saveFailures := 0 }
        else s.enterUnload b
      else s
    | _ => s
  else s

/-- The eject of a bay whose spindle is on its way up (R157): RELEASE from WAITING, else SPINDOWN. -/
def State.ejectSpinning (s : State) (b : BayId) : State :=
  if (s.bay b).spindle.state = .waiting then (s.stopSpindle b).enterRelease b else s.enterSpindown b

/-- An eject starts: the eject record is set up, and the entry phase chosen (R157). The lock is kept, that of a bay HALTED out
of the PARKING of a soft reset too (DESIGN CHOICE, log entry 38). -/
def State.startEject (s : State) (b : BayId) (o : EjectOrigin) : State :=
  let s := s.modRecord b fun r =>
    { r with eject := some { origin := o, pulse := 1, saveMarker := false }, resetPark := false }
  let y := s.bay b
  match y.record.state with
  | .ready | .raw => (s.modRecord b fun r => { r with state := .ejecting, phase := .drain }).checkDrain b
  | .inserted | .parked => s.enterRelease b
  | .spinning => s.ejectSpinning b
  | .loading | .mounting => (s.dropMedia b).enterUnload b
  | .cleaning =>
    if y.spindle.state = .waiting ∨ y.spindle.state = .accel ∨ y.spindle.state = .stopping then s.ejectSpinning b
    else s.enterUnload b
  | .halted => s.enterSpindown b
  | .fault =>
    let s := s.modRecord b fun r => { r with cause := .none }
    if y.act.state ≠ .unloaded then s.enterUnload b
    else if y.spindle.state ≠ .off then s.enterSpindown b
    else s.enterRelease b
  | .empty | .parking | .ejecting => s

/-! ### Loading, the label, and the sweep -/

/-- The next sweep seek of a CLEANING bay is asked for, when the heads track with no seek in hand (R17, R18). -/
def State.sweepNext (s : State) (b : BayId) : State :=
  if (s.bay b).record.state = .cleaning then
    (s.seekNeed b .sweep (if (s.bay b).record.sweepOut then 0 else 799) (s.bay b).act.head).1
  else s

/-- A sweep seek has ended, or has failed and is not retried: the outward one ends a trip, and the sixteenth trip ends the
cycle (R17, R18). -/
def State.sweepEnded (s : State) (b : BayId) : State :=
  let r := (s.bay b).record
  if r.state = .cleaning then
    let trips := if r.sweepOut then min 16 (r.trips + 1) else r.trips
    let s := s.modRecord b fun r => { r with trips, sweepOut := !r.sweepOut }
    if r.sweepOut ∧ 16 ≤ trips then
      ((s.latch b .cleanDone).modRecord b fun r =>
        { r with eject := some { origin := .device, pulse := 1, saveMarker := false } }).enterUnload b
    else s.sweepNext b
  else s

/-- The actuator reports TRACKING at cylinder 0, head 0 (R9, R17). -/
def State.trackingReport (s : State) (b : BayId) : State :=
  let r := (s.bay b).record
  match r.state with
  | .loading =>
    match r.standing with
    | .none => (s.modRecord b fun r => { r with state := .mounting }).modMedia b fun m =>
        { m with custody := some .labelRead }
    | .labelled => s.enterReady b
    | .unlabelled => s.enterRaw b
  | .cleaning => s.sweepNext b
  | _ => s

/-- The actuator reports POSITION LOST (R14); in CLEANING the cycle ends and the bay ejects (R18). -/
def State.positionLost (s : State) (b : BayId) : State :=
  match (s.bay b).record.state with
  | .loading | .mounting | .ready | .raw | .parking | .ejecting => s.faultReport b .positionLost
  | .cleaning =>
    ((s.latch b .positionLost).modRecord b fun r =>
      { r with eject := some { origin := .device, pulse := 1, saveMarker := false } }).enterUnload b
  | .empty | .inserted | .spinning | .parked | .halted | .fault => s

/-- The Map Unit reports its verdict on a label read (R9, R118): the table is filled or emptied, and the MOUNTING bay enters
READY or RAW. A bay no longer MOUNTING is given no verdict (R117, R157). -/
def State.labelVerdict (s : State) (b : BayId) (data : Option Sector) : State :=
  if (s.bay b).record.state ≠ .mounting then s else
  match judgeLabel (s.bay b).record.typeCode data with
  | .ok (entries, generation) =>
    ((s.modMap b fun t => t.fill entries generation).modRecord b fun r => { r with standing := .labelled }).enterReady b
  | .error c =>
    (((s.modMap b fun t => t.fill [] 0).modRecord b fun r => { r with standing := .unlabelled }).latchLabelInvalid b
      c).enterRaw b

/-- The Map Unit reports a save performed (R12, R121): the standing becomes LABELLED, and a RAW bay enters READY. -/
def State.saveSucceeded (s : State) (b : BayId) : State :=
  let s := (s.modMap b fun t => t.saved).modRecord b fun r => { r with standing := .labelled }
  if (s.bay b).record.state = .raw then s.enterReady b else s

/-- The outcome of a custody save reaches the Bay Controller, which acts on it only while the save marker is on (R158). -/
def State.custodySaved (s : State) (b : BayId) (ok : Bool) : State :=
  if (s.bay b).record.eject.any (fun e => e.saveMarker) then
    let s := s.modRecord b fun r => { r with eject := r.eject.map fun e => { e with saveMarker := false } }
    let s := if ok then s else s.latch b .labelSaveFailed
    if (s.bay b).record.state = .ejecting ∧ (s.bay b).record.phase = .drain then s.enterUnload b else s
  else s

/-! ### The spindle's reports -/

/-- The spindle reports RUN reached, after an attempt or a recovery: the bay asks for a head load (R8, R13, R17). -/
def State.runReport (s : State) (b : BayId) : State :=
  let r := (s.bay b).record
  match r.state with
  | .spinning => (s.modRecord b fun r => { r with state := .loading }).askLoad b
  | .loading | .mounting | .ready | .raw | .cleaning => s.askLoad b
  | .parking => if r.parkStep = .drain then s.askLoad b else s
  | .ejecting => if r.phase = .drain then s.askLoad b else s
  | .empty | .inserted | .parked | .halted | .fault => s

/-- The Bay Controller's answer to a speed loss (R54); in the unload of a soft reset the stop request waits for the unload
(R59). -/
def State.answerLoss (s : State) (b : BayId) : State :=
  let r := (s.bay b).record
  match r.state with
  | .parking =>
    match r.parkStep with
    | .drain => s
    | .unload => if r.resetPark then s else s.stopSpindle b
    | .spindown => s.stopSpindle b
  | .ejecting => if r.phase = .unload ∨ r.phase = .spindown then s.stopSpindle b else s
  | .fault => if r.cause = .unloadFault then s else s.stopSpindle b
  | _ => s

/-! ### Supply loss and the end of the hold -/

/-- Whether supply loss sends a bay to HALTED (R15). -/
def BayRecord.halts (r : BayRecord) : Bool :=
  match r.state with
  | .spinning | .loading | .mounting | .ready | .raw | .cleaning | .parking => true
  | .ejecting => r.phase = .drain ∨ r.phase = .unload ∨ r.phase = .spindown
  | _ => false

/-- A bay at supply loss (R15, R151, R165). A bay that halts has its queue discarded and its request ended; an eject keeps
its record, with phase SPINDOWN, and one pending in PARKING is forgotten. In RELEASE a pulse is cut off and the claim is
asked for again. -/
def State.haltBay (s : State) (b : BayId) : State :=
  let r := (s.bay b).record
  let s := s.dropMedia b
  if r.halts then
    let ejecting : Bool := r.state = .ejecting
    let s := s.modRecord b fun r =>
      { r with state := .halted, phase := if ejecting then .spindown else .none, parkStep := .drain,
               eject := if ejecting then r.eject else none }
    (s.discard b).endSlot b .supplyLoss
  else if r.state = .ejecting ∧ r.phase = .release then s.enterRelease b
  else s

/-- A bay starts to spin up, or is HALTED while the budget is LOW (R7, R10, R15); `next` is SPINNING or CLEANING. -/
def State.startSpinning (s : State) (b : BayId) (next : BayState) : State :=
  if s.budget.supply = .low then s.modRecord b fun r => { r with state := .halted, phase := .none }
  else (s.modRecord b fun r => { r with state := next, trips := 0, sweepOut := false }).spinUp b

/-- A HALTED bay at the end of the hold (R16). A bay that supply loss took out of the PARKING of a soft reset has its
standing set to NONE, so that its label is read again (R118), and keeps its lock (DESIGN CHOICE, log entries 19 and 38). -/
def State.leaveHalted (s : State) (b : BayId) : State :=
  let r := (s.bay b).record
  if r.state = .halted then
    if r.phase = .spindown then s.enterSpindown b
    else
      let s := s.modRecord b fun r =>
        { r with attempts := 0, resetPark := false, standing := if r.resetPark then .none else r.standing }
      s.startSpinning b (if r.typeCode = 3 then .cleaning else .spinning)
  else s

end Sys2Proof.Machine
end

