-- ==== Sys2Proof/Machine/Media.lean ====
section
/-!
DEFINITION. The Media Engine (chapter 9): how it chooses, the sector procedures, and how each operation ends.
-/

namespace Sys2Proof.Machine

/-! ### Kinds of operations -/

/-- Whether an operation reads a sector (R143). -/
def OpKind.isRead : OpKind → Bool
  | .labelRead | .slotRead | .slotReadPhys => true
  | _ => false

/-- Whether an operation is a sector write attempt (R144). -/
def OpKind.isWrite : OpKind → Bool
  | .labelSave | .slotWritePhys | .slotMapSave | .drainWrite => true
  | _ => false

/-- Whether an operation serves the request slot (R140). -/
def OpKind.isSlot : OpKind → Bool
  | .slotRead | .slotReadPhys | .slotWritePhys | .slotSeek | .slotMapSave => true
  | _ => false

/-! ### Positioning (R142) -/

/-- Change the operation in flight. -/
def State.modOp (s : State) (b : BayId) (f : MediaOp → MediaOp) : State :=
  s.modMedia b fun m => { m with op := m.op.map f }

/-- The stage of an operation whose seek need was answered. -/
def NeedAnswer.stage : NeedAnswer → OpStage
  | .taken => .seeking
  | .notLoaded | .busy => .askAgain

/-- The operation in flight gives a seek need for its target (R142). -/
def State.askSeek (s : State) (b : BayId) (op : MediaOp) : State :=
  match s.seekNeed b .media op.target.cylinder op.target.head with
  | (t, answer) => t.modOp b fun o => { o with stage := answer.stage }

/-- The operation in flight is positioned: a SEEK request always gives a seek need (R148); any other operation asks for no
seek when the heads already stand on its target (R142). -/
def State.position (s : State) (b : BayId) (op : MediaOp) : State :=
  let x := (s.bay b).act
  if op.kind ≠ .slotSeek ∧ x.state = .tracking ∧ x.cylinder = some op.target.cylinder ∧ x.head = op.target.head then
    s.modOp b fun o => { o with stage := .atSector }
  else s.askSeek b op

/-- An operation is taken: the engine is WORKING on it (R140, R141). -/
def State.beginOp (s : State) (b : BayId) (op : MediaOp) : State :=
  (s.modMedia b fun m => { m with state := .working, op := some op }).position b op

/-- The operation in flight has ended: the engine is IDLE, and chooses again (R141). -/
def State.endOp (s : State) (b : BayId) : State := s.modMedia b fun m => { m with state := .idle, op := none }

/-! ### Reads -/

/-- The number of sectors a READ or READ PHYS asks for. -/
def LongRequest.sectors : LongRequest → Nat
  | .read _ n => n
  | .readPhys _ n => n
  | _ => 0

/-- A sector is staged for the host in the next staging slot (R145). -/
def State.stage (s : State) (b : BayId) (data : Sector) : State :=
  let n := (s.bay b).slot.staged
  (s.modMedia b fun m => { m with staging := m.staging.setIfInBounds n data }).modSlot b fun x => { x with staged := n + 1 }

/-- A READ or READ PHYS whose sectors are all staged completes with DONE (R145, R146). -/
def State.completeRead (s : State) (b : BayId) : State :=
  match (s.bay b).slot.active with
  | some r => if r.sectors ≤ (s.bay b).slot.staged then s.completeSlot b .done else s
  | none => s

/-- A sector read ends GOOD (R143, R145). -/
def State.readGood (s : State) (b : BayId) (op : MediaOp) (data : Sector) : State :=
  let s := if 0 < op.passes then s.raise b .softReadErrors 1 else s
  let s := s.endOp b
  if op.kind = .labelRead then s.labelVerdict b (some data)
  else if op.orphan then s.checkDrain b
  else ((s.stage b data).completeRead b).checkDrain b

/-- A sector read ends with a failure, HARD ERROR or SEEK FAULT (R143, R145). -/
def State.readBad (s : State) (b : BayId) (op : MediaOp) (r : ResultStatus) : State :=
  let s := s.endOp b
  if op.kind = .labelRead then s.labelVerdict b none
  else if op.orphan then s.checkDrain b
  else (s.completeSlot b r).checkDrain b

/-- A pass of a sector read fails (R143): a reread follows, but the ninth failed pass has the actuator recalibrate and the
seventeenth ends the read in HARD ERROR. -/
def State.passFails (s : State) (b : BayId) (op : MediaOp) : State :=
  let n := op.passes + 1
  if 17 ≤ n then (s.raise b .hardReadErrors 1).readBad b op .hardError
  else if n = 9 then (s.modOp b fun o => { o with passes := n, stage := .awaitRecal }).askRecal b
  else s.modOp b fun o => { o with passes := n }

/-! ### Writes -/

/-- The 512 bytes of the source slot of a write operation (R144): the label held for a save (R120), the first staging slot
for a WRITE PHYS (R147), and the write slot of its WRITING entry for a drain write (R132). -/
def State.source (s : State) (b : BayId) (op : MediaOp) : Option Sector :=
  match op.kind with
  | .labelSave | .slotMapSave => some (s.bay b).media.label
  | .slotWritePhys => some (s.bay b).media.staging[0]
  | .drainWrite => (op.arrival.bind (s.queue.outcomeEntry b)).map s.queue.dataOf
  | .labelRead | .slotRead | .slotReadPhys | .slotSeek => none

/-- The sector of a write attempt that succeeds has been written: the bytes of its source slot, at its target (R144; log
entry 41). -/
def State.performWrite (s : State) (b : BayId) (op : MediaOp) : State :=
  match s.source b op with
  | some d => s.modMedia b fun m => { m with written := some (op.target, d) }
  | none => s

/-- A sector write attempt succeeds: the sector is performed, and its owner is told (R144): the Write Queue by a notice, the
Map Unit and the Bay Controller at once, the slot by its completion. -/
def State.writeGood (s : State) (b : BayId) (op : MediaOp) : State :=
  let s := (s.performWrite b op).endOp b
  match op.kind with
  | .drainWrite => match op.arrival with
    | some n => s.send (.performed b n)
    | none => s
  | .labelSave => ((s.saveSucceeded b).custodySaved b true).checkDrain b
  | .slotMapSave =>
    let s := s.saveSucceeded b
    (if op.orphan then s else s.completeSlot b .done).checkDrain b
  | _ => (if op.orphan then s else s.completeSlot b .done).checkDrain b

/-- An attempt of a label save fails (R120): it is counted, and the third failure ends the save. One that an ABORT found in flight
is not tried again (DESIGN CHOICE, log entry 46). -/
def State.saveFails (s : State) (b : BayId) (op : MediaOp) : State :=
  let s := s.raise b .writeRetries 1
  if 3 ≤ op.attempt then (s.raise b .writeFailures 1).custodySaved b false
  else if op.orphan then s
  else s.modMedia b fun m => { m with custody := some .labelSave, saveFailures := op.attempt }

/-- An attempt of a WRITE PHYS or MAP SAVE fails (R120, R147, R148). One that an ABORT found in flight is not tried again, its
request being gone (R151; for a MAP SAVE DESIGN CHOICE, log entry 46). -/
def State.slotWriteFails (s : State) (b : BayId) (op : MediaOp) : State :=
  let s := s.raise b .writeRetries 1
  if 3 ≤ op.attempt then
    let s := s.raise b .writeFailures 1
    if op.orphan then s else s.completeSlot b .hardError
  else if op.orphan then s
  else s.modMedia b fun m => { m with slotFailures := op.attempt }

/-- A sector write attempt fails, and its owner is told (R144). -/
def State.writeBad (s : State) (b : BayId) (op : MediaOp) : State :=
  let s := s.endOp b
  match op.kind with
  | .drainWrite => match op.arrival with
    | some n => s.send (.failed b n)
    | none => s
  | .labelSave => (s.saveFails b op).checkDrain b
  | _ => (s.slotWriteFails b op).checkDrain b

/-! ### The actuator's reports to the engine -/

/-- The seek of the operation in flight is complete (R142): the operation goes on at the sector, and a SEEK request
completes (R148). -/
def State.mediaSeekDone (s : State) (b : BayId) : State :=
  match (s.bay b).media.op with
  | some op =>
    if op.kind = .slotSeek then
      let s := s.endOp b
      (if op.orphan then s else s.completeSlot b .done).checkDrain b
    else s.modOp b fun o => { o with stage := .atSector }
  | none => s

/-- The actuator reports SEEK FAULT for the operation in flight (R142 to R144, R148). -/
def State.mediaSeekFault (s : State) (b : BayId) : State :=
  match (s.bay b).media.op with
  | some op =>
    if op.kind.isRead then s.readBad b op .seekFault
    else if op.kind.isWrite then s.writeBad b op
    else
      let s := s.endOp b
      (if op.orphan then s else s.completeSlot b .seekFault).checkDrain b
  | none => s

/-- The actuator reports TRACK LOST (R149): a read on its sector waits for the recalibration, its pass not counted, and a
write attempt on its sector has failed. While the operation is being positioned the loss is the seek's concern. -/
def State.mediaTrackLost (s : State) (b : BayId) : State :=
  match (s.bay b).media.op with
  | some op =>
    if op.stage = .atSector then
      if op.kind.isRead then s.modOp b fun o => { o with stage := .awaitRecal } else s.writeBad b op
    else s
  | none => s

/-- The actuator reports TRACKING (R142, R143, R149, R150): a STALLED engine becomes IDLE, and an operation that waits for
the recalibration, or for the actuator, seeks its target again. -/
def State.mediaTracking (s : State) (b : BayId) : State :=
  let m := (s.bay b).media
  if m.state = .stalled then s.modMedia b fun m => { m with state := .idle }
  else match m.op with
    | some op => if op.stage = .awaitRecal ∨ op.stage = .askAgain then s.position b op else s
    | none => s

/-- The actuator has ended its seek in hand: an operation answered BUSY asks again (R81, R142). -/
def State.mediaAskAgain (s : State) (b : BayId) : State :=
  match (s.bay b).media.op with
  | some op => if op.stage = .askAgain then s.position b op else s
  | none => s

/-- The bay's speed loss reaches the engine (R150): the operation in flight is abandoned, to be reissued by its owner, and
the engine is STALLED. A label save or MAP SAVE whose request an ABORT has dropped has no owner left to reissue it: it is
neither reissued nor finished (DESIGN CHOICE, log entry 36). -/
def State.mediaSpeedLoss (s : State) (b : BayId) : State :=
  let op := (s.bay b).media.op
  let s := s.modMedia b fun m => { m with state := .stalled, op := none }
  match op with
  | some op =>
    match op.kind, op.arrival with
    | .drainWrite, some n => s.send (.abandoned b n)
    | .labelRead, _ => s.modMedia b fun m => { m with custody := some .labelRead }
    | .labelSave, _ => if op.orphan then s else s.modMedia b fun m => { m with custody := some .labelSave }
    | _, _ => s
  | none => s

/-! ### The choice (R141) -/

/-- The bay states in which an engine takes work (R141). -/
def BayRecord.mediaWorks (r : BayRecord) : Bool :=
  match r.state with
  | .mounting | .ready | .raw => true
  | .parking => r.parkStep = .drain
  | .ejecting => r.phase = .drain
  | _ => false

/-- Whether the outcome of a drain write of a bay is on its way to the Write Queue. -/
def Signal.isOutcome (b : BayId) : Signal → Bool
  | .performed c _ | .failed c _ | .abandoned c _ => c = b
  | _ => false

/-- Whether an engine chooses now (R141). The outcome of its last drain write may still be on its way to the Write Queue. -/
def State.mayChoose (s : State) (b : BayId) : Bool :=
  let y := s.bay b
  y.media.state = .idle && y.act.state = .tracking && y.act.seek.isNone && y.record.mediaWorks

/-- The address an entry resolves to now (R108, R132). -/
def State.resolved (s : State) (e : WriteEntry) : PhysAddr :=
  (s.bay e.bay).map.resolve (s.bay e.bay).record.typeCode e.block

/-- Of some candidates, the one nearest a cylinder, the earliest in the list among equals; the earliest when the cylinder is
UNKNOWN (R132). -/
def State.nearest (s : State) (current : Option Nat) : List WriteEntry → Option WriteEntry
  | [] => none
  | e :: rest =>
    match current, s.nearest current rest with
    | some c, some f =>
      if distanceTo (s.resolved e).cylinder c ≤ distanceTo (s.resolved f).cylinder c then some e else some f
    | _, _ => some e

/-- A drain write is taken: the entry given becomes WRITING and its address goes with it; the fairness count is 0 (R132,
R141). -/
def State.takeDrain (s : State) (b : BayId) : State :=
  match s.nearest (s.bay b).act.cylinder (s.queue.eligible b) with
  | some e =>
    let target := s.resolved e
    let s := { s with queue := { s.queue with items := markWriting e s.queue.items } }
    (s.modMedia b fun m => { m with fairness := 0 }).beginOp b
      { kind := .drainWrite, target, passes := 0, attempt := e.attempts + 1, arrival := some e.arrival, orphan := false,
        stage := .askAgain }
  | none => s

/-- The label is built and held for the attempt that writes it (R120). -/
def State.buildLabel (s : State) (b : BayId) : State :=
  let y := s.bay b
  (s.modMedia b fun m => { m with label := y.map.labelSector y.record.typeCode }).modMap b RemapTable.build

/-- Custody work is taken (R141, rule 1): the label read, or an attempt of the label save. -/
def State.takeCustody (s : State) (b : BayId) (c : Custody) : State :=
  let op : MediaOp := { kind := .labelRead, target := labelAddr, passes := 0, attempt := 1, arrival := none, orphan := false,
                        stage := .askAgain }
  let n := (s.bay b).media.saveFailures
  let s := s.modMedia b fun m => { m with custody := none }
  match c with
  | .labelRead => s.beginOp b op
  | .labelSave => (s.buildLabel b).beginOp b { op with kind := .labelSave, attempt := n + 1 }

/-- A slot operation raises the fairness count while drain work waits, and clears it otherwise (R141). -/
def State.countSlotOp (s : State) (b : BayId) : State :=
  let waiting := !(s.queue.eligible b).isEmpty
  s.modMedia b fun m => { m with fairness := if waiting then min 4 (m.fairness + 1) else 0 }

/-- The sectors of a READ that the Write Queue holds are staged at once, from the next one on, as long as there is an entry
of the block (R136, R145). `fuel` is the number of sectors left. -/
def State.serveFromQueue (s : State) (b : BayId) (first : Nat) : Nat → State
  | 0 => s
  | fuel + 1 =>
    match s.queue.newest b (first + (s.bay b).slot.staged) with
    | some e => (s.stage b (s.queue.dataOf e)).serveFromQueue b first fuel
    | none => s

/-- The next slot operation is taken (R141, rule 4; R145 to R148). R148 gives a SEEK a cylinder and the current head; the sector
of its physical address (R140) is 0 (DESIGN CHOICE, log entry 43). -/
def State.takeSlot (s : State) (b : BayId) (r : LongRequest) : State :=
  let op : MediaOp := { kind := .slotRead, target := labelAddr, passes := 0, attempt := (s.bay b).media.slotFailures + 1,
                        arrival := none, orphan := false, stage := .askAgain }
  match r with
  | .read first count =>
    let s := s.serveFromQueue b first (count - (s.bay b).slot.staged)
    let n := (s.bay b).slot.staged
    if count ≤ n then (s.completeSlot b .done).checkDrain b
    else
      (s.countSlotOp b).beginOp b
        { op with target := (s.bay b).map.resolve (s.bay b).record.typeCode (first + n), attempt := 1 }
  | .readPhys start _ =>
    (s.countSlotOp b).beginOp b
      { op with kind := .slotReadPhys, target := { start with sector := start.sector + (s.bay b).slot.staged }, attempt := 1 }
  | .writePhys target => (s.countSlotOp b).beginOp b { op with kind := .slotWritePhys, target }
  | .seek c =>
    (s.countSlotOp b).beginOp b
      { op with kind := .slotSeek, target := { cylinder := c, head := (s.bay b).act.head, sector := 0 }, attempt := 1 }
  | .mapSave => ((s.countSlotOp b).buildLabel b).beginOp b { op with kind := .slotMapSave, target := labelAddr }
  | .eject | .flush => s

/-- What an engine that chooses takes (R141, rules 1 to 6). -/
inductive Work where
  | custody (c : Custody)
  | drain
  | slot (r : LongRequest)
  | nothing
deriving DecidableEq, Repr

/-- The media work of the slot still to do, if any (R141). -/
def Slot.work (x : Slot) : Option LongRequest := x.active.filter LongRequest.isMedia

/-- A drain write is due (R141, rules 2, 3 and 5). While an entry of the bay is WRITING, its outcome not yet taken by the Write
Queue, the engine waits with it, since a bay has at most one WRITING entry (R131; log entry 3). -/
def State.drainWork (s : State) (b : BayId) : Work := if (s.queue.writingOf b).isSome then .nothing else .drain

/-- The choice of R141, by the first of its rules that applies. -/
def State.choice (s : State) (b : BayId) : Work :=
  let m := (s.bay b).media
  let drain := !(s.queue.eligible b).isEmpty
  match m.custody, (s.bay b).slot.work with
  | some c, _ => .custody c
  | none, some r =>
    if drain ∧ (s.queue.entryCount = Config.maxEntries ∨ m.fairness = 4) then s.drainWork b else .slot r
  | none, none => if drain then s.drainWork b else .nothing

/-- A Media Engine makes its choice (R141). -/
def State.choose (s : State) (b : BayId) : State :=
  if s.mayChoose b then
    match s.choice b with
    | .custody c => s.takeCustody b c
    | .drain => s.takeDrain b
    | .slot r => s.takeSlot b r
    | .nothing => s
  else s

end Sys2Proof.Machine
end

