-- ==== Sys2Proof/Machine/ActuatorCommands.lean ====
section
/-!
DEFINITION. The meanings of the actuator's events (chapter 5) and of an evaluation of the coil heat (chapter 6). An event of a
movement finds nothing to end while the actuator is in another state (log entry 7).
-/

namespace Sys2Proof.Machine

/-- The seek that runs, with the actuator SEEKING. -/
def Actuator.runningSeek (x : Actuator) : Option SeekInHand := if x.state = .seeking then x.seek else none

/-- SEEK_COMPLETE (R69, R84) in a sample of the seek, numbered from 1: the requester is told, and goes on. A sample in which
the plan's completion condition cannot be met completes nothing. -/
def execSeekComplete (b : BayId) (sample : Nat) (s : State) : Host.Outcome State Fault Refusal :=
  match (s.bay b).act.runningSeek with
  | some q =>
    if (s.bay b).act.plan.any fun p => p.mayComplete sample then
      let t := s.seekSucceeds b q
      match q.requester with
      | .media => .next (t.mediaSeekDone b)
      | .sweep => .next ((t.sweepEnded b).mediaAskAgain b)
    else .next s
  | none => .next s

/-- SEEK_TIMEOUT (R85): the attempt fails with TIMED OUT. -/
def execSeekTimeout (b : BayId) (s : State) : Host.Outcome State Fault Refusal :=
  match (s.bay b).act.runningSeek with
  | some q => .next (s.seekFails b q .timedOut)
  | none => .next s

/-- SERVO_LOSS (R85): the attempt fails with SERVO LOST. -/
def execServoLoss (b : BayId) (s : State) : Host.Outcome State Fault Refusal :=
  match (s.bay b).act.runningSeek with
  | some q => .next (s.seekFails b q .servoLost)
  | none => .next s

/-- TRACK_LOSS (R80, R149): a seek that stood REQUESTED is withdrawn and HELD, the actuator recalibrates, and the Media Engine
is told. -/
def execTrackLoss (b : BayId) (s : State) : Host.Outcome State Fault Refusal :=
  if (s.bay b).act.state = .tracking then .next (((s.holdSeek b).askRecal b).mediaTrackLost b) else .next s

/-- LOAD_GUARD_FOUND (R76, R78): the load succeeds and goes straight into recalibration under its claim, on head 0. -/
def execLoadGuardFound (b : BayId) (s : State) : Host.Outcome State Fault Refusal :=
  if (s.bay b).act.state = .loading then
    .next ((s.modAct b fun x => { x with state := .recalibrating, recal := .running, recalForLoad := true }).selectHead b 0)
  else .next s

/-- LOAD_TIMEOUT (R77): the claim is released and the heads are taken back to the stop; the load attempt stands until the
unload ends. -/
def execLoadTimeout (b : BayId) (s : State) : Host.Outcome State Fault Refusal :=
  if (s.bay b).act.state = .loading then .next ((s.release b .actuator).startUnload b) else .next s

/-- The retry of a failed seek, once the recalibration has found cylinder 0 (R86). -/
def State.retrySeek (s : State) (b : BayId) : State :=
  match (s.bay b).act.seek with
  | some q =>
    if q.standing = .retrying then
      match q.requester with
      | .media =>
        if q.attempt < 3 then s.takeSeek b { q with attempt := q.attempt + 1 }
        else (s.modAct b fun x => { x with seek := none }).mediaSeekFault b
      | .sweep => (s.modAct b fun x => { x with seek := none }).sweepEnded b
    else s.takeHeld b
  | none => s

/-- RECALIBRATION_COMPLETE (R78): the claim is released, the heads track cylinder 0 on head 0, and TRACKING is reported; a
retry or a HELD seek is taken, and the Media Engine goes on. -/
def execRecalibrationComplete (b : BayId) (s : State) : Host.Outcome State Fault Refusal :=
  let x := (s.bay b).act
  if x.state = .recalibrating ∧ x.recal = .running then
    let s := (s.release b .actuator).modAct b fun x =>
      { x with state := .tracking, cylinder := some 0, head := 0, recal := .idle, recalForLoad := false,
               loadAttempt := if x.recalForLoad then none else x.loadAttempt }
    .next (((s.trackingReport b).retrySeek b).mediaTracking b)
  else .next s

/-- RECALIBRATION_FAILED (R79): the claim is released, the seek in hand is given up, and POSITION LOST is reported. -/
def execRecalibrationFailed (b : BayId) (s : State) : Host.Outcome State Fault Refusal :=
  let x := (s.bay b).act
  if x.state = .recalibrating ∧ x.recal = .running then
    let s := (s.release b .actuator).modAct b fun x => { x with recal := .failed, seek := none, cylinder := none }
    .next (s.positionLost b)
  else .next s

/-- An unload is complete (R77, R89): a failed load is tried again or gives POSITION LOST, and any other unload is reported
to the Bay Controller and to the spindle. -/
def State.unloadEnded (s : State) (b : BayId) : State :=
  let attempt := (s.bay b).act.loadAttempt
  let s := s.modAct b fun x => { x with state := .unloaded, unloadFailed := false, unloadMoving := false }
  match attempt with
  | some n =>
    if n = 1 then (s.modAct b fun x => { x with loadAttempt := some 2 }).request b .load
    else (s.modAct b fun x => { x with loadAttempt := none }).positionLost b
  | none => (s.unloadedReport b).answerSpindle b

/-- UNLOAD_COMPLETE (R89): the retract-stop sense becomes true. With no unload under way it leaves the actuator as it
stands. -/
def execUnloadComplete (b : BayId) (s : State) : Host.Outcome State Fault Refusal :=
  let x := (s.bay b).act
  let s := (s.dropSignal fun z => z = .atStop b).modPins b fun p => { p with retractStop := true }
  if x.state = .unloading ∧ x.unloadMoving then .next (s.unloadEnded b) else .next s

/-- UNLOAD_FAILED (R89, R77): the marker is set, UNLOAD FAULT is reported to the Bay Controller, and the spindle is told that
the heads are off the retract stop. -/
def execUnloadFailed (b : BayId) (s : State) : Host.Outcome State Fault Refusal :=
  let x := (s.bay b).act
  if x.state = .unloading ∧ x.unloadMoving then
    let s := (s.clockTo (x.unloadAt + Config.unloadTime)).modAct b fun x =>
      { x with unloadFailed := true, unloadMoving := false, loadAttempt := none }
    .next ((s.faultReport b .unloadFault).answerSpindle b)
  else .next s

/-! ### Evaluations of the coil heat -/

/-- One evaluation of a bay (R95): the monitor's new state, the events of its changes, and their hand-over to the actuator,
the offset before the flag. -/
def State.evaluateBay (s : State) (b : BayId) : State :=
  let h := (s.bay b).heat
  let g := h.evaluate s.settings
  let s := s.modHeat b fun _ => g
  let s := if g.offset ≠ h.offset then s.latch b .heatStep else s
  if g.hot = h.hot then s
  else if g.hot then (s.latch b .coilHot).holdSeek b
  else (s.latch b .coilCool).takeHeld b

/-- EVALUATION (R95): each bay takes one evaluation of its own, and the next is due 500 ms later. -/
def execEvaluation (s : State) : Host.Outcome State Fault Refusal :=
  let s := { s.clockTo s.nextEval with nextEval := s.nextEval + Config.evaluationPeriod }
  .next ((s.evaluateBay .bayA).evaluateBay .bayB)

end Sys2Proof.Machine
end

