-- ==== Sys2Proof/Machine/BayCommands.lean ====
section
/-!
DEFINITION. The meanings of the events at a bay's sensors, button and solenoid (chapters 1 and 10).
-/

namespace Sys2Proof.Machine

/-- PRESENT_SENSE_RISE (R7): in EMPTY the insertion debounce starts. -/
def execPresentSenseRise (b : BayId) (s : State) : Host.Outcome State Fault Refusal :=
  let s := s.modPins b fun p => { p with present := true }
  if (s.bay b).record.state = .empty then .next (s.startDebounce b) else .next s

/-- What the neighbours of a Bay Controller reset at an insertion (R5, R93, R106). -/
def Bay.insertNeighbours (y : Bay) : Bay :=
  { y with act := { y.act with failures := 0, upshiftRun := 0, downshift := 0 }, map := {} }

/-- INSERTION (R7, R1, R5): the type code is sampled, the bay record takes its insertion values, and the bay goes on by the
code. -/
def execInsertion (b : BayId) (typeSense0 typeSense1 : Bool) (s : State) : Host.Outcome State Fault Refusal :=
  let r := (s.bay b).record
  if r.state = .empty ∧ r.debouncing ∧ (s.bay b).pins.present then
    let code := typeCodeOf typeSense0 typeSense1
    let s := (s.clockTo (r.debounceAt + Config.debounceTime)).modPins b fun p => { p with typeSense0, typeSense1 }
    let s := (s.modRecord b fun _ => { typeCode := code }).modBay b Bay.insertNeighbours
    if code = 0 then
      .next (((s.latch b .unknownCartridge).modRecord b fun r =>
        { r with eject := some { origin := .device, pulse := 1, saveMarker := false } }).enterRelease b)
    else
      let s := s.latch b .inserted
      if code = 3 then .next (s.startSpinning b .cleaning)
      else if s.settings.spinAuto then .next (s.startSpinning b .spinning)
      else .next (s.modRecord b fun r => { r with state := .inserted })
  else .next s

/-- The cartridge has been removed in AWAIT REMOVAL (R163): EJECTED is latched, an EJECT in the slot completes with DONE, and
the bay is EMPTY. -/
def State.removed (s : State) (b : BayId) : State :=
  let s := s.latch b .ejected
  (if (s.bay b).slot.ejecting then s.completeSlot b .done else s).becomeEmpty b

/-- PRESENT_SENSE_FALL (R164): it ends a debounce in EMPTY, is a removal in AWAIT REMOVAL, and is a cartridge loss anywhere
else. -/
def execPresentSenseFall (b : BayId) (s : State) : Host.Outcome State Fault Refusal :=
  let s := s.modPins b fun p => { p with present := false }
  let r := (s.bay b).record
  if r.state = .empty then .next (s.modRecord b fun r => { r with debouncing := false })
  else if r.state = .ejecting ∧ r.phase = .awaitRemoval then .next (s.removed b)
  else .next (s.faultReport b .cartridgeLost)

/-- EJECT_BUTTON_PRESS (R155). -/
def execEjectButtonPress (b : BayId) (s : State) : Host.Outcome State Fault Refusal :=
  let r := (s.bay b).record
  if r.state = .empty ∨ (r.state = .fault ∧ r.cause = .cartridgeLost) ∨ (r.state = .parking ∧ r.resetPark) then .next s
  else if r.state = .ejecting ∨ (r.state = .parking ∧ r.eject.isSome) then .next s
  else if (r.state = .fault ∧ r.cause = .unloadFault) ∨ r.lock then .next (s.latch b .ejectRefused)
  else .next (s.startEject b .button)

/-- SOLENOID_PULSE_END (R162, R163): the claim is released and AWAIT REMOVAL entered with its 2 s timer. `present` is the
level of the present sense: already false, the cartridge has been removed. -/
def execSolenoidPulseEnd (b : BayId) (present : Bool) (s : State) : Host.Outcome State Fault Refusal :=
  let r := (s.bay b).record
  if r.state = .ejecting ∧ r.phase = .release ∧ r.pulsing then
    let s := ((s.clockTo (r.pulseAt + Config.pulseTime)).release b .solenoid).modPins b fun p => { p with present }
    let s := s.modRecord b fun r => { r with phase := .awaitRemoval, pulsing := false, removalAt := s.clock }
    if present then .next s else .next (s.removed b)
  else .next s

/-- REMOVAL_TIMEOUT (R163): a second pulse, or after the second FAULT with cause EJECT JAM. -/
def execRemovalTimeout (b : BayId) (s : State) : Host.Outcome State Fault Refusal :=
  let r := (s.bay b).record
  if r.state = .ejecting ∧ r.phase = .awaitRemoval then
    let s := s.clockTo (r.removalAt + Config.removalTime)
    if (s.bay b).pins.present = false then .next (s.removed b)
    else if r.eject.any fun e => 2 ≤ e.pulse then .next (s.faultReport b .ejectJam)
    else .next ((s.modRecord b fun r => { r with eject := r.eject.map fun e => { e with pulse := 2 } }).enterRelease b)
  else .next s

end Sys2Proof.Machine
end

