-- ==== Sys2Proof/Machine/Replies.lean ====
section
/-!
DEFINITION. The bytes of replies (section 11.6): the codes of the enumerated fields, and the bodies of REPORT, GET,
COUNTERS, FAULTS, IDENTIFY and RESULT.
-/

namespace Sys2Proof.Machine

/-! ### Codes: the position of a value in the table that defines it, counting from 0 -/

/-- The code of a bay state (section 1.4). -/
def BayState.code : BayState → Nat
  | .empty => 0 | .inserted => 1 | .spinning => 2 | .loading => 3 | .mounting => 4 | .ready => 5 | .raw => 6
  | .cleaning => 7 | .parking => 8 | .parked => 9 | .ejecting => 10 | .halted => 11 | .fault => 12

/-- The code of an eject phase (R5). -/
def EjectPhase.code : EjectPhase → Nat
  | .none => 0 | .drain => 1 | .unload => 2 | .spindown => 3 | .release => 4 | .awaitRemoval => 5

/-- The code of a fault cause (R5). -/
def FaultCause.code : FaultCause → Nat
  | .none => 0 | .spinFail => 1 | .speedLost => 2 | .positionLost => 3 | .unloadFault => 4 | .cartridgeLost => 5
  | .ejectJam => 6

/-- The code of a spindle state (section 3.4). -/
def SpindleState.code : SpindleState → Nat
  | .off => 0 | .waiting => 1 | .accel => 2 | .run => 3 | .recoverWait => 4 | .recover => 5 | .stopping => 6

/-- The code of a reading class (R43). -/
def SpeedClass.code : SpeedClass → Nat
  | .on => 0 | .over => 1 | .under => 2 | .slow => 3 | .stall => 4

/-- The code of an actuator state (section 5.1). -/
def ActuatorState.code : ActuatorState → Nat
  | .unloaded => 0 | .loading => 1 | .recalibrating => 2 | .tracking => 3 | .seeking => 4 | .unloading => 5

/-- The code of a slot state: FREE, IN PROGRESS, DONE. -/
def SlotState.code : SlotState → Nat
  | .free => 0 | .inProgress => 1 | .done => 2

/-- The code of a supply-good state: LOW, HOLDING, GOOD. -/
def SupplyState.code : SupplyState → Nat
  | .low => 0 | .holding => 1 | .good => 2

/-- The code of a label cause, 1 to 5, and 0 for none. -/
def labelCauseCode : Option LabelCause → Nat
  | none => 0
  | some .unreadable => 1 | some .badMagic => 2 | some .badCheck => 3 | some .typeMismatch => 4 | some .badEntry => 5

/-- The code of a direction (R72). -/
def Direction.code : Direction → Nat
  | .up => 0 | .down => 1 | .none => 2

/-- The code of a plan outcome: NONE is 0 (R72). -/
def PlanOutcome.code : PlanOutcome → Nat
  | .inForce => 1 | .completed => 2 | .timedOut => 3 | .servoLost => 4 | .abandoned => 5

/-- The code of a reply status. -/
def ReplyStatus.code : ReplyStatus → Nat
  | .ok => 0x00 | .accepted => 0x01 | .pending => 0x02 | .noResult => 0x03 | .busy => 0x10 | .notReady => 0x11
  | .rawMedia => 0x12 | .ejecting => 0x13 | .badBay => 0x14 | .badAddress => 0x15 | .badValue => 0x16 | .queueFull => 0x17
  | .tableFull => 0x18 | .duplicate => 0x19 | .notFound => 0x1A | .fault => 0x1B | .badMessage => 0x1C

/-- The code of a result status. -/
def ResultStatus.code : ResultStatus → Nat
  | .done => 0 | .hardError => 1 | .seekFault => 2 | .bayFault => 3 | .supplyLoss => 4 | .removed => 5

/-- The message code of a long request. -/
def LongRequest.code : LongRequest → Nat
  | .eject => 0x30 | .read .. => 0x31 | .readPhys .. => 0x32 | .writePhys .. => 0x33 | .flush => 0x34 | .seek .. => 0x35
  | .mapSave => 0x36

/-! ### REPORT (R174) -/

/-- The current cylinder as reported: 65,535 for UNKNOWN. -/
def cylinderCode (c : Option Nat) : Nat := c.getD 65535

/-- The block of a bay in the REPORT body, 26 bytes. -/
def State.reportBay (s : State) (b : BayId) : List Byte :=
  let y := s.bay b
  byte y.record.state.code ++ byte y.record.phase.code ++ byte y.record.cause.code ++ byteOn y.record.lock ++
  byte y.spindle.state.code ++ bytes2 y.spindle.reading ++ byte y.spindle.speedClass.code ++
  byte y.act.state.code ++ bytes2 (cylinderCode y.act.cylinder) ++ byte y.effectiveLevel ++ byte y.heat.offset ++
  byte y.act.downshift ++ bytes2 y.heat.estimate ++ byteOn y.heat.hot ++
  byte (s.queue.entriesOfBay b) ++ byte (s.queue.marksOfBay b) ++ byte y.slot.state.code ++
  bytes4 y.latches.events.toNat ++ byte (labelCauseCode y.latches.labelCause) ++ byte y.latches.counterNames.toNat

/-- The body of a REPORT reply, 56 bytes. -/
def State.reportBody (s : State) : List Byte :=
  byte s.events.toNat ++ byte s.budget.supply.code ++ bytes2 0 ++ s.reportBay .bayA ++ s.reportBay .bayB

/-! ### The records that GET returns (R73, R122) -/

/-- The coast-or-extra field: a kind byte, 0 COAST and 1 EXTRA, and the samples; absent for distance 0 (log entry 14). -/
def CoastOrExtra.body : CoastOrExtra → List Byte
  | .absent => []
  | .coast n => byte 0 ++ byte n
  | .extra n => byte 1 ++ byte n

/-- A plan record: every field in the order of R72, or the outcome NONE alone (R73). -/
def planBody : Option Plan → List Byte
  | none => byte 0
  | some p =>
    bytes2 p.targetCylinder ++ byte p.targetHead ++ bytes2 p.distance ++ byte p.direction.code ++ byte p.requested ++
    byte p.level ++ byte p.ramp ++ p.coastOrExtra.body ++ byte p.moving ++ byte p.settle ++ bytes2 p.timeout ++
    byte p.draw ++ byte p.heatAdd ++ byte p.outcome.code

/-- An item of the Write Queue (section 11.6, WRITE QUEUE). -/
def Item.body : Item → List Byte
  | .entry e => byte 0 ++ byte e.bay.number ++ bytes2 e.block ++ byteOn e.writing ++ byte e.attempts ++ bytes2 e.arrival
  | .mark c k => byte 1 ++ byte c.number ++ byte (match k with | .order => 0 | .flush => 1)

/-- The Write Queue as GET returns it: a count of items, then each in list order. -/
def WriteQueue.body (q : WriteQueue) : List Byte := byte q.items.length ++ q.items.flatMap Item.body

/-- The capacity as GET returns it: effective, then pending or 0 (R24). -/
def Budget.capacityBody (u : Budget) : List Byte := byte u.effective ++ byte (u.pending.getD 0)

/-! ### FAULTS, COUNTERS, IDENTIFY and RESULT -/

/-- A fault record: its kind by its position in R138, the bay, and the block or count. -/
def FaultRecord.body : FaultRecord → List Byte
  | .writeFailed c block => byte 0 ++ byte c.number ++ bytes2 block
  | .writesDiscarded c n => byte 1 ++ byte c.number ++ byte n

/-- The body of a FAULTS reply: the records, preceded by their count, then the overflow count (R139). -/
def FaultList.body (f : FaultList) : List Byte :=
  byte f.records.length ++ f.records.flatMap FaultRecord.body ++ byte f.overflow

/-- The seven counters of a bay, in order (R153). -/
def Counters.body (c : Counters) : List Byte := c.counts.toList.flatMap bytes2

/-- The body of an IDENTIFY reply (R177, section 11.6). -/
def State.identity (s : State) : List Byte :=
  byte 1 ++ bytes2 420 ++ byte 1 ++ byte 2 ++ byte s.link.unitAddress.toNat ++ byte s.link.linkRate.toNat ++
  bytes2 s.link.errors ++ byte s.bayA.record.typeCode ++ byte s.bayB.record.typeCode

/-- The body of a RESULT reply that carries a result (R171, section 11.6). -/
def resultBody (code : Nat) (r : ResultStatus) (staged index : Nat) (data : List Byte) : List Byte :=
  byte code ++ byte r.code ++ byte staged ++ byte index ++ data

end Sys2Proof.Machine
end

