-- ==== Sys2Proof/Machine/Link.lean ====
section
/-!
DEFINITION. The Link Port (R166 to R169): address characters, the receive assembly, discards, and the frames of replies.
-/

namespace Sys2Proof.Machine

/-- The link rate of the strap code, in bit/s (R166). -/
def linkRate (code : BitVec 2) : Nat :=
  if code = 1#2 then 500000 else if code = 2#2 then 1000000 else 250000

/-- The low byte of an address character: the unit address, the direction, and zeros (section 11.6). -/
def addressByte (unitAddress : BitVec 2) (fromUnit : Bool) : Byte :=
  (unitAddress.setWidth 8) ||| (if fromUnit then 4#8 else 0#8)

/-- Whether a low byte is that of an address character for a unit: its address, adapter to unit, the other bits zero
(R167). -/
def namesUnit (unitAddress : BitVec 2) (low : Byte) : Bool := low = addressByte unitAddress false

/-- The length a frame's first two characters give (R167). -/
def frameLength (gathered : List Byte) : Nat := ofBytes (gathered.take 2)

/-- Whether the length is one a frame may have (R168). -/
def lengthOk (gathered : List Byte) : Bool := 2 ≤ frameLength gathered ∧ frameLength gathered ≤ 1040

/-- Whether a frame is complete: its length characters, the length's worth, and two check characters (R167). -/
def frameComplete (gathered : List Byte) : Bool := gathered.length = 2 + frameLength gathered + 2

/-- Whether the check characters match: those after the last body character (R168, section 11.6). -/
def frameGood (gathered : List Byte) : Bool :=
  let n := 2 + frameLength gathered
  gathered.drop n = checkBytes (frameCheck (gathered.take n))

/-- A discard: the assembly is idle, the link error count rises, up to 65,535, and LINK ERROR is latched (R168). -/
def State.discardFrame (s : State) : State :=
  ({ s with link := { s.link with assembly := .idle, errors := min Config.max16 (s.link.errors + 1) } }).latchUnit
    .linkError

/-- Set the receive assembly. -/
def State.setAssembly (s : State) (a : Assembly) : State := { s with link := { s.link with assembly := a } }

/-- A character whose ninth bit is 1: it ends an open assembly, which is discarded, and opens a new one if it is an address
character for this unit (R167, R168). -/
def State.takeAddress (s : State) (low : Byte) : State :=
  let t := match s.link.assembly with
    | .idle => s
    | .opened _ => s.discardFrame
  if namesUnit s.link.unitAddress low then t.setAssembly (.opened []) else t

/-- A data character: it is passed over while the assembly is idle, and gathered otherwise. A length out of range is
discarded once both length characters are in, and a complete frame whose check does not match too; a complete frame that
matches leaves the assembly idle, its message being a command of its own (R167, R168; log entry 6). -/
def State.takeData (s : State) (low : Byte) : State :=
  match s.link.assembly with
  | .idle => s
  | .opened old =>
    let gathered := old ++ [low]
    if gathered.length < 2 then s.setAssembly (.opened gathered)
    else if !lengthOk gathered then s.discardFrame
    else if frameComplete gathered then (if frameGood gathered then s.setAssembly .idle else s.discardFrame)
    else s.setAssembly (.opened gathered)

/-- A character as the Link Port takes it: one with a stop bit of 0 discards an open assembly and is passed over otherwise
(R168). -/
def State.takeChar (s : State) (c : LinkChar) : State :=
  if c.stop = false then
    match s.link.assembly with
    | .idle => s
    | .opened _ => s.discardFrame
  else if c.ninth then s.takeAddress c.low
  else s.takeData c.low

/-- The characters of a reply frame after its address character: length, status, code, bay, body and check (section
11.6). -/
def Reply.frame (r : Reply) : List Byte :=
  let counted := byte r.status.code ++ [r.code, r.bay] ++ r.body
  let covered := bytes2 counted.length ++ counted
  covered ++ checkBytes (frameCheck covered)

/-- The characters with which a unit sends a reply: the address character that opens the frame, unit to adapter, with its
ninth bit 1, and the others with theirs 0, each with a stop bit of 1 (R166, section 11.6). -/
def Reply.characters (unitAddress : BitVec 2) (r : Reply) : List LinkChar :=
  { low := addressByte unitAddress true, ninth := true, stop := true } ::
    r.frame.map fun c => { low := c, ninth := false, stop := true }

/-- The bits of a character in the order in which they stand on the line: the start bit of 0, the nine data bits, least
significant first, and the stop bit (R166; that the start bit is 0 and a good stop bit 1 is read from R168). -/
def LinkChar.lineBits (c : LinkChar) : List Bool := false :: (bitsOf c.low).reverse ++ [c.ninth, c.stop]

/-- The time a character lasts at a link rate, in nanoseconds (R166). -/
def characterTime (rate : Nat) : Nat := Config.characterBits * 1000000000 / rate

end Sys2Proof.Machine
end

