-- ==== Sys2Proof/Machine/Settings.lean ====
section
/-!
DEFINITION. SET and GET (R176): the items, their ranges, and where each value is kept.
-/

namespace Sys2Proof.Machine

/-- The counter whose threshold an item is (R176, items 20 to 26). -/
def thresholdName : Nat → Option CounterName
  | 20 => some .softReadErrors | 21 => some .hardReadErrors | 22 => some .writeRetries | 23 => some .writeFailures
  | 24 => some .seekRetries | 25 => some .spinAttempts | 26 => some .lostWrites
  | _ => none

/-- Store a threshold of a bay (R152). -/
def State.setThreshold (s : State) (b : BayId) (n : CounterName) (v : Nat) : State :=
  s.modCounters b fun c => { c with thresholds := c.thresholds.set n.index v }

/-- Whether the three heat settings are in order, strictly (R96). -/
def Settings.heatOrdered (c : Settings) : Bool := c.heatRelease < c.heatTop ∧ c.heatTop < c.heatTrip

/-- Change the settings. -/
def State.withSettings (s : State) (c : Settings) : State := { s with settings := c }

/-- The value of an on/off item: 1 for on, 0 for off, no other (section 11.6). -/
def onOff (v : Nat) : Option Bool := if v = 1 then some true else if v = 0 then some false else none

/-- The settings after a SET of an item that belongs to no bay, and the value stored; none is BAD VALUE (R176). -/
def Settings.store (c : Settings) (item v : Nat) : Option (Settings × Nat) :=
  let heat := fun (d : Settings) (w : Nat) => if d.heatOrdered then some (d, w) else none
  let h := clamp 1024 65000 v
  match item with
  | 1 => (onOff v).map fun on => ({ c with spinAuto := on }, v)
  | 2 => some ({ c with attemptsLimit := clamp 1 8 v }, clamp 1 8 v)
  | 3 => if v = 3 ∨ v = 5 ∨ v = 9 ∨ v = 17 then some ({ c with edgeCount := v }, v) else none
  | 4 => if v = 250 ∨ v = 500 ∨ v = 1000 then some ({ c with measurePeriod := v }, v) else none
  | 5 => some ({ c with speedTolerance := clamp 4 64 v }, clamp 4 64 v)
  | 6 => (onOff v).map fun on => ({ c with slowMark := on }, v)
  | 8 => some ({ c with downshiftThreshold := clamp 1 8 v }, clamp 1 8 v)
  | 9 => some ({ c with upshiftRun := clamp 16 1024 v }, clamp 16 1024 v)
  | 10 => heat { c with heatTop := h } h
  | 11 => heat { c with heatRelease := h } h
  | 12 => heat { c with heatTrip := h } h
  | 13 => some ({ c with adjustDelay := clamp 1 4 v }, clamp 1 4 v)
  | 14 => if v < 2 ^ 31 then some ({ c with eventMask := BitVec.ofNat 31 v }, v) else none
  | _ => none

/-- A SET of an item: the state after it and the value stored; none is BAD VALUE (R176). SUPPLY CAPACITY, item 7, goes to
the Supply Budget (R23); a threshold to the bays it names (R152). -/
def State.store (s : State) (item : Nat) (itemBay : Byte) (v : Nat) : Option (State × Nat) :=
  match thresholdName item with
  | some n =>
    let w := clamp 1 65535 v
    match bayOf itemBay with
    | some b => some (s.setThreshold b n w, w)
    | none =>
      if itemBay = unitField then some ((s.setThreshold .bayA n w).setThreshold .bayB n w, w) else none
  | none =>
    if itemBay ≠ unitField then none
    else if item = 7 then
      let w := clamp Config.minCapacity Config.maxCapacity v
      some (s.putBudget (s.budget.setCapacity w), w)
    else (s.settings.store item v).map fun (c, w) => (s.withSettings c, w)

/-- The value of a setting that belongs to no bay (R176). -/
def Settings.value (c : Settings) : Nat → Option Nat
  | 1 => some c.spinAuto.toNat
  | 2 => some c.attemptsLimit
  | 3 => some c.edgeCount
  | 4 => some c.measurePeriod
  | 5 => some c.speedTolerance
  | 6 => some c.slowMark.toNat
  | 8 => some c.downshiftThreshold
  | 9 => some c.upshiftRun
  | 10 => some c.heatTop
  | 11 => some c.heatRelease
  | 12 => some c.heatTrip
  | 13 => some c.adjustDelay
  | 14 => some c.eventMask.toNat
  | _ => none

/-- What GET returns for an item, after the item and the bay; none is BAD VALUE (R176, section 11.6). -/
def State.item (s : State) (item : Nat) (itemBay : Byte) : Option (List Byte) :=
  match thresholdName item with
  | some n => (bayOf itemBay).map fun b => bytes4 (s.bay b).counters.thresholds[n.index]
  | none =>
    if itemBay ≠ unitField then none
    else match item with
      | 7 => some s.budget.capacityBody
      | 40 => some (planBody s.bayA.act.plan)
      | 41 => some (planBody s.bayB.act.plan)
      | 42 => some s.queue.body
      | i => (s.settings.value i).map bytes4

end Sys2Proof.Machine
end

