-- ==== Sys2Proof/Machine/BayMessages.lean ====
section
/-!
DEFINITION. The meanings of the short messages addressed to a bay: START and STOP, the lock, writes and marks, results.
-/

namespace Sys2Proof.Machine

/-- START (R10). -/
def execStart (bay : Byte) (s : State) : Host.Outcome State Fault Refusal :=
  .next <| s.forBay 0x10 bay fun s b =>
    match (s.bay b).record.state with
    | .inserted | .parked =>
      (((s.modRecord b fun r => { r with attempts := 0 }).startSpinning b .spinning)).respond 0x10 bay .ok
    | .spinning | .loading | .mounting | .ready | .raw | .cleaning => s.respond 0x10 bay .ok
    | .empty | .parking | .ejecting | .halted | .fault => s.respond 0x10 bay .notReady

/-- STOP (R10): a READY or RAW bay enters PARKING, in its drain step (R11). -/
def execStop (bay : Byte) (s : State) : Host.Outcome State Fault Refusal :=
  .next <| s.forBay 0x11 bay fun s b =>
    match (s.bay b).record.state with
    | .ready | .raw =>
      ((s.modRecord b fun r => { r with state := .parking, parkStep := .drain }).checkDrain b).respond 0x11 bay .ok
    | .parking | .parked => s.respond 0x11 bay .ok
    | .empty | .inserted | .spinning | .loading | .mounting | .cleaning | .ejecting | .halted | .fault =>
      s.respond 0x11 bay .notReady

/-- LOCK (R154). -/
def execLock (bay : Byte) (s : State) : Host.Outcome State Fault Refusal :=
  .next <| s.forBay 0x12 bay fun s b =>
    if isData (s.bay b).record.typeCode then (s.modRecord b fun r => { r with lock := true }).respond 0x12 bay .ok
    else s.respond 0x12 bay .notReady

/-- UNLOCK (R154). -/
def execUnlock (bay : Byte) (s : State) : Host.Outcome State Fault Refusal :=
  .next <| s.forBay 0x13 bay fun s b =>
    if isData (s.bay b).record.typeCode then (s.modRecord b fun r => { r with lock := false }).respond 0x13 bay .ok
    else s.respond 0x13 bay .notReady

/-- The refusal of a message of logical data by the bay state; none in READY (R124, R127, R128, R145). -/
def BayState.refusesData : BayState → Option ReplyStatus
  | .ready => none
  | .raw => some .rawMedia
  | .ejecting => some .ejecting
  | _ => some .notReady

/-- The refusal of a physical or map message by the bay state; none in READY and RAW (R109, R119, R146). -/
def BayState.refusesMedia : BayState → Option ReplyStatus
  | .ready | .raw => none
  | .ejecting => some .ejecting
  | _ => some .notReady

/-- ORDER (R127). -/
def execOrder (bay : Byte) (s : State) : Host.Outcome State Fault Refusal :=
  .next <| s.forBay 0x14 bay fun s b =>
    match (s.bay b).record.state.refusesData with
    | some r => s.respond 0x14 bay r
    | none =>
      match s.queue.order b with
      | (q, true) => { s with queue := q }.respond 0x14 bay .ok
      | (_, false) => s.respond 0x14 bay .queueFull

/-- WRITE (R124, R125). -/
def execWrite (bay : Byte) (block : BitVec 16) (data : Sector) (s : State) : Host.Outcome State Fault Refusal :=
  .next <| s.forBay 0x15 bay fun s b =>
    match (s.bay b).record.state.refusesData with
    | some r => s.respond 0x15 bay r
    | none =>
      if blockOk (s.bay b).record.typeCode block.toNat then
        match s.queue.place b block.toNat data with
        | (q, .merged n) => { s with queue := q }.respond 0x15 bay .ok (bytes2 n ++ byte 0)
        | (q, .appended n) => { s with queue := q }.respond 0x15 bay .ok (bytes2 n ++ byte 1)
        | (_, .full) => s.respond 0x15 bay .queueFull
      else s.respond 0x15 bay .badAddress

/-- RESULT (R171). -/
def execResult (bay : Byte) (s : State) : Host.Outcome State Fault Refusal :=
  .next <| s.forBay 0x18 bay fun s b =>
    let x := (s.bay b).slot
    let code := (x.request.map LongRequest.code).getD 0
    match x.state with
    | .free => s.respond 0x18 bay .noResult
    | .inProgress => s.respond 0x18 bay .pending (byte code)
    | .done =>
      if (x.request.any fun r => 0 < r.sectors) ∧ 0 < x.staged then
        let data := ((s.bay b).media.staging[x.next - 1]?.getD Sector.zero).toList
        let t := s.respond 0x18 bay .ok (resultBody code x.result x.staged x.next data)
        if x.next = x.staged then t.freeSlot b else t.modSlot b fun x => { x with next := x.next + 1 }
      else (s.respond 0x18 bay .ok (resultBody code x.result 0 0 [])).freeSlot b

/-- The operation in flight of an aborted request finishes physically, its outcome discarded (R151, R159). -/
def State.orphanOp (s : State) (b : BayId) (p : OpKind → Bool) : State :=
  s.modOp b fun o => if p o.kind then { o with orphan := true } else o

/-- ABORT of an EJECT in DRAIN: the slot is FREE, the eject record cleared, a save not yet taken is not made, and the bay
returns to READY or RAW by its standing (R159). -/
def State.abortEject (s : State) (b : BayId) : State :=
  let s := (s.freeSlot b).modRecord b fun r => { r with eject := none }
  let s := (s.modMedia b fun m => { m with custody := none, saveFailures := 0 }).orphanOp b fun k => k = .labelSave
  if (s.bay b).record.standing = .labelled then s.enterReady b else s.enterRaw b

/-- ABORT (R172, R130, R159). -/
def execAbort (bay : Byte) (s : State) : Host.Outcome State Fault Refusal :=
  .next <| s.forBay 0x19 bay fun s b =>
    match (s.bay b).slot.state with
    | .free => s.respond 0x19 bay .ok
    | .done => (s.freeSlot b).respond 0x19 bay .ok
    | .inProgress =>
      match (s.bay b).slot.request with
      | some .eject =>
        if (s.bay b).record.state = .ejecting ∧ (s.bay b).record.phase = .drain then
          (s.abortEject b).respond 0x19 bay .ok
        else s.respond 0x19 bay .busy
      | some .flush =>
        ({ s with queue := { s.queue with items := flushToOrder b s.queue.items } }.freeSlot b).respond 0x19 bay .ok
      | _ => (((s.orphanOp b OpKind.isSlot).freeSlot b).checkDrain b).respond 0x19 bay .ok

end Sys2Proof.Machine
end

