-- ==== Sys2Proof/Machine/LinkCommands.lean ====
section
/-!
DEFINITION. The meanings of power-on, the soft reset, and the commands of the Link Port.
-/

namespace Sys2Proof.Machine

/-! ### Power-on (R179) -/

/-- A bay at power-on (R5, R60, R75, R93, R105, R106, R140, R170): a cartridge found present starts the insertion debounce
(R19), and heads off the stop fire the retract trigger once (R93). -/
def powerOnBay (present retractStop : Bool) : Bay :=
  { pins := { present, retractStop, retractFired := if retractStop then 0 else 1 }
    record := { debouncing := present } }

/-- The machine at power-on or the RESET pin (R179). -/
def powerOnState (p : PinLevels) : State :=
  { bayA := powerOnBay p.presentA p.retractStopA
    bayB := powerOnBay p.presentB p.retractStopB
    budget := if p.supplyGood then { supply := .holding, powerOnHold := true, holdTimer := some 0 } else {}
    events := BitVec.twoPow 5 UnitEvent.unitReset.bit
    link := { unitAddress := p.unitAddress, linkRate := p.linkRate }
    supplyGood := p.supplyGood }

/-- POWER_ON (R179). The queue of waiting commands is not the machine's, and stays. -/
def execPowerOn (p : PinLevels) (s : State) : Host.Outcome State Fault Refusal :=
  .next { powerOnState p with pending := s.pending, freeIndex := s.freeIndex }

/-! ### The soft reset (R178) -/

/-- The Media Engine at a soft reset (R151): no operation, no custody work, fairness 0. It is IDLE, a STALLED one too, for which
R151 names no state (DESIGN CHOICE, log entry 45). -/
def Media.softReset (m : Media) : Media :=
  { m with state := .idle, op := none, custody := none, fairness := 0, saveFailures := 0, slotFailures := 0 }

/-- The blocks of a bay at a soft reset, but its Bay Controller (R59, R92, R104, R106, R151). -/
def Bay.softReset (y : Bay) : Bay :=
  { y with spindle := y.spindle.softReset, act := y.act.softReset, heat := y.heat.softReset, media := y.media.softReset,
           map := {} }

/-- The bay enters the PARKING of a soft reset: it unloads, and then stops (R19). -/
def State.resetBay (s : State) (b : BayId) : State :=
  (s.modRecord b fun r =>
    { r with state := .parking, phase := .none, cause := .none, eject := none, pulsing := false, debouncing := false,
             parkStep := .unload, resetPark := true }).unloadHeads b

/-- What the Message Decoder does at a soft reset (R178): with FORCE both bays' items are discarded; the slots become FREE,
latches and fault list are emptied, and UNIT RESET is latched. -/
def State.resetDecoder (s : State) (force : Bool) : State :=
  let s := if force then (s.discard .bayA).discard .bayB else s
  let s := ((s.freeSlot .bayA).freeSlot .bayB).clearLatches
  { s with faults := {}, link := { s.link with resetPending := none } }.latchUnit .unitReset

/-- The soft reset of the whole unit (R178, R36, R19). -/
def State.softReset (s : State) (force : Bool) : State :=
  let s := ((s.resetDecoder force).modBay .bayA Bay.softReset).modBay .bayB Bay.softReset
  let s := { s with budget := s.budget.softReset fun b => (s.bay b).spindle.state == SpindleState.run }
  (s.endBudgetSignals.resetBay .bayA).resetBay .bayB

/-- SOFT_RESET (R178): taken when the reply to an accepted RESET has been sent. Without one there is none to take. -/
def execSoftReset (s : State) : Host.Outcome State Fault Refusal :=
  match s.link.resetPending with
  | some force => .next (s.softReset force)
  | none => .next s

/-! ### The Link Port -/

/-- FRAME_DISCARD (R168): the Link Port takes some characters, of which one spoils the assembly or ends a bad
frame. While the unit sends a reply it takes none (R167). -/
def execFrameDiscard (chars : List LinkChar) (s : State) : Host.Outcome State Fault Refusal :=
  .next (if s.receives then chars.foldl State.takeChar s else s)

/-- CHARACTER_GAP_TIMEOUT (R168): more than 1 ms passes between characters of an open assembly. -/
def execCharacterGapTimeout (s : State) : Host.Outcome State Fault Refusal :=
  match s.link.assembly with
  | .idle => .next s
  | .opened _ => .next (s.clockTo (s.clock + Config.characterGap)).discardFrame

/-- UNKNOWN_MESSAGE (R169, steps 1 and 2): a valid frame that is none of the messages is refused BAD MESSAGE. -/
def execUnknownMessage (code bay : Byte) (_body : List Byte) (s : State) : Host.Outcome State Fault Refusal :=
  .next (s.takeMessage fun s => s.respond code bay .badMessage)

/-- ADDRESS_CHARACTER (R167): a character with its ninth bit 1. While the unit sends a reply it takes none. -/
def execAddressCharacter (low : Byte) (s : State) : Host.Outcome State Fault Refusal :=
  .next (if s.receives then s.takeAddress low else s)

end Sys2Proof.Machine
end

