-- ==== Sys2Proof/Machine/LongMessages.lean ====
section
/-!
DEFINITION. The meanings of the long messages: EJECT, READ, READ PHYS, WRITE PHYS, FLUSH, SEEK and MAP SAVE.
-/

namespace Sys2Proof.Machine

/-- A long request of a bay passes its checks: the reply is ACCEPTED and the slot IN PROGRESS (R170). -/
def State.accept (s : State) (code field : Byte) (b : BayId) (r : LongRequest) : State :=
  (s.occupySlot b r).respond code field .accepted

/-- The slot check of R170. -/
def Slot.taken (x : Slot) : Bool := x.state ≠ .free

/-- The first two checks of the physical requests and MAP SAVE: the bay state, then the slot (R119, R146 to R148). -/
def State.physRefusal (s : State) (b : BayId) : Option ReplyStatus :=
  match (s.bay b).record.state.refusesMedia with
  | some r => some r
  | none => if (s.bay b).slot.taken then some .busy else none

/-- The refusal of an EJECT (R156). -/
def State.ejectRefusal (s : State) (b : BayId) : Option ReplyStatus :=
  let r := (s.bay b).record
  if r.state = .empty ∨ (r.state = .fault ∧ r.cause = .cartridgeLost) ∨ (r.state = .parking ∧ r.resetPark) then
    some .notReady
  else if r.state = .ejecting ∨ (r.state = .parking ∧ r.eject.isSome) then some .ejecting
  else if r.state = .fault ∧ r.cause = .unloadFault then some .fault
  else if (s.bay b).slot.taken then some .busy
  else none

/-- EJECT (R156, R157). -/
def execEject (bay : Byte) (s : State) : Host.Outcome State Fault Refusal :=
  .next <| s.forBay 0x30 bay fun s b =>
    match s.ejectRefusal b with
    | some r => s.respond 0x30 bay r
    | none => (s.accept 0x30 bay b .eject).startEject b .message

/-- READ (R145). -/
def execRead (bay : Byte) (block : BitVec 16) (count : Byte) (s : State) : Host.Outcome State Fault Refusal :=
  .next <| s.forBayCounted 0x31 bay count fun s b =>
    match (s.bay b).record.state.refusesData with
    | some r => s.respond 0x31 bay r
    | none =>
      if (s.bay b).slot.taken then s.respond 0x31 bay .busy
      else if runOk (s.bay b).record.typeCode block.toNat count.toNat then
        s.accept 0x31 bay b (.read block.toNat count.toNat)
      else s.respond 0x31 bay .badAddress

/-- READ PHYS (R146): the last sector is 23 or less. -/
def execReadPhys (bay : Byte) (cylinder : BitVec 16) (head sector count : Byte) (s : State) :
    Host.Outcome State Fault Refusal :=
  .next <| s.forBayCounted 0x32 bay count fun s b =>
    let p : PhysAddr := { cylinder := cylinder.toNat, head := head.toNat, sector := sector.toNat }
    match s.physRefusal b with
    | some r => s.respond 0x32 bay r
    | none =>
      if physOk (s.bay b).record.typeCode p ∧ sector.toNat + count.toNat - 1 ≤ 23 then
        s.accept 0x32 bay b (.readPhys p count.toNat)
      else s.respond 0x32 bay .badAddress

/-- WRITE PHYS (R147): the data is placed in the bay's first staging slot. -/
def execWritePhys (bay : Byte) (cylinder : BitVec 16) (head sector : Byte) (data : Sector) (s : State) :
    Host.Outcome State Fault Refusal :=
  .next <| s.forBay 0x33 bay fun s b =>
    let p : PhysAddr := { cylinder := cylinder.toNat, head := head.toNat, sector := sector.toNat }
    match s.physRefusal b with
    | some r => s.respond 0x33 bay r
    | none =>
      if physOk (s.bay b).record.typeCode p then
        if s.queue.entriesOfBay b = 0 then
          (s.accept 0x33 bay b (.writePhys p)).modMedia b fun m => { m with staging := m.staging.set 0 data }
        else s.respond 0x33 bay .busy
      else s.respond 0x33 bay .badAddress

/-- FLUSH (R128): its mark is appended, and the mark test is made (R129). -/
def execFlush (bay : Byte) (s : State) : Host.Outcome State Fault Refusal :=
  .next <| s.forBay 0x34 bay fun s b =>
    match (s.bay b).record.state.refusesData with
    | some r => s.respond 0x34 bay r
    | none =>
      if (s.bay b).slot.taken then s.respond 0x34 bay .busy
      else if s.queue.markCount < Config.maxMarks then
        let t := s.accept 0x34 bay b .flush
        { t with queue := { t.queue with items := t.queue.items ++ [Item.mark b .flush] } }.markTest b
      else s.respond 0x34 bay .queueFull

/-- SEEK (R148). -/
def execSeek (bay : Byte) (cylinder : BitVec 16) (s : State) : Host.Outcome State Fault Refusal :=
  .next <| s.forBay 0x35 bay fun s b =>
    match s.physRefusal b with
    | some r => s.respond 0x35 bay r
    | none =>
      if cylinderOk (s.bay b).record.typeCode cylinder.toNat then s.accept 0x35 bay b (.seek cylinder.toNat)
      else s.respond 0x35 bay .badAddress

/-- MAP SAVE (R119). -/
def execMapSave (bay : Byte) (s : State) : Host.Outcome State Fault Refusal :=
  .next <| s.forBay 0x36 bay fun s b =>
    match s.physRefusal b with
    | some r => s.respond 0x36 bay r
    | none => s.accept 0x36 bay b .mapSave

end Sys2Proof.Machine
end

