-- ==== Sys2Proof/Machine/MapMessages.lean ====
section
/-!
DEFINITION. The meanings of the map messages (R109 to R114).
-/

namespace Sys2Proof.Machine

/-- The checks on the figures of a map message, steps 1 to 3 of R109, each for a figure the message names. -/
def mapFigures (typeCode : Nat) (index block spare : Option Nat) : Option ReplyStatus :=
  if index.any fun i => 64 ≤ i then some .badValue
  else if block.any fun n => !blockOk typeCode n then some .badAddress
  else if spare.any fun n => !spareOk n then some .badAddress
  else none

/-- Step 4 of R109: an edit is BUSY while a block it touches is WRITING. -/
def State.mapBusy (s : State) (b : BayId) (touched : List Nat) : Bool := touched.any fun n => s.queue.writingBlock b n

/-- A map message that passes its checks has been accepted, and its reply carries its answer and the summary (R109). -/
def State.mapReply (s : State) (code field : Byte) (b : BayId) (status : ReplyStatus) (answer : List Byte) : State :=
  s.respond code field status (answer ++ (s.bay b).map.summary)

/-- A map message, judged by the bay state and the figures it names; what follows is the message's own (R109). -/
def State.mapMessage (s : State) (code field : Byte) (index block spare : Option Nat) (act : State → BayId → State) :
    State :=
  s.forBay code field fun s b =>
    match (s.bay b).record.state.refusesMedia with
    | some r => s.respond code field r
    | none =>
      match mapFigures (s.bay b).record.typeCode index block spare with
      | some r => s.respond code field r
      | none => act s b

/-- MAP PROBE (R110): NOT FOUND is an answer, and carries the summary. -/
def execMapProbe (bay : Byte) (block : BitVec 16) (s : State) : Host.Outcome State Fault Refusal :=
  .next <| s.mapMessage 0x20 bay none (some block.toNat) none fun s b =>
    match (s.bay b).map.find block.toNat with
    | some (i, m) => s.mapReply 0x20 bay b .ok (byte i ++ byte m.spare)
    | none => s.mapReply 0x20 bay b .notFound []

/-- MAP READ (R110). -/
def execMapRead (bay index : Byte) (s : State) : Host.Outcome State Fault Refusal :=
  .next <| s.mapMessage 0x21 bay (some index.toNat) none none fun s b =>
    match (s.bay b).map.at index.toNat with
    | some m => s.mapReply 0x21 bay b .ok (byte 1 ++ bytes2 m.block ++ byte m.spare)
    | none => s.mapReply 0x21 bay b .ok (byte 0)

/-- MAP WRITE (R111). -/
def execMapWrite (bay index : Byte) (block : BitVec 16) (spare : Byte) (s : State) : Host.Outcome State Fault Refusal :=
  .next <| s.mapMessage 0x22 bay (some index.toNat) (some block.toNat) (some spare.toNat) fun s b =>
    let t := (s.bay b).map
    if s.mapBusy b (t.touchedByWrite index.toNat block.toNat) then s.respond 0x22 bay .busy
    else if t.duplicates (some index.toNat) block.toNat spare.toNat then s.respond 0x22 bay .duplicate
    else
      (s.modMap b fun t => t.edit index.toNat (some { block := block.toNat, spare := spare.toNat })).mapReply 0x22 bay b .ok []

/-- MAP WRITE ANY (R112). -/
def execMapWriteAny (bay : Byte) (block : BitVec 16) (spare : Byte) (s : State) : Host.Outcome State Fault Refusal :=
  .next <| s.mapMessage 0x23 bay none (some block.toNat) (some spare.toNat) fun s b =>
    let t := (s.bay b).map
    if s.mapBusy b [block.toNat] then s.respond 0x23 bay .busy
    else if t.duplicates none block.toNat spare.toNat then s.respond 0x23 bay .duplicate
    else match t.lowestInvalid with
      | some i =>
        (s.modMap b fun t => t.edit i (some { block := block.toNat, spare := spare.toNat })).mapReply 0x23 bay b .ok (byte i)
      | none => s.respond 0x23 bay .tableFull

/-- MAP CLEAR (R113): a clear of an invalid entry changes nothing. -/
def execMapClear (bay index : Byte) (s : State) : Host.Outcome State Fault Refusal :=
  .next <| s.mapMessage 0x24 bay (some index.toNat) none none fun s b =>
    let t := (s.bay b).map
    if s.mapBusy b (t.touchedByClear index.toNat) then s.respond 0x24 bay .busy
    else if (t.at index.toNat).isSome then (s.modMap b fun t => t.edit index.toNat none).mapReply 0x24 bay b .ok []
    else s.mapReply 0x24 bay b .ok []

end Sys2Proof.Machine
end

