-- ==== Sys2Proof/Machine/MediaCommands.lean ====
section
/-!
DEFINITION. The meanings of the Media Engine's events (chapter 9) and of the outcomes the Write Queue takes (chapter 8). An
event of a pass or attempt finds nothing to end while no operation is on its sector (log entry 7).
-/

namespace Sys2Proof.Machine

/-- MEDIA_CHOICE (R141). -/
def execMediaChoice (b : BayId) (s : State) : Host.Outcome State Fault Refusal :=
  .next (s.choose b)

/-- The operation whose pass or attempt is under way on its sector. -/
def Media.atSector (m : Media) : Option MediaOp := m.op.filter fun o => o.stage = .atSector

/-- READ_PASS_END (R143): a good pass completes the read; a bad check fails the pass. -/
def execReadPassEnd (b : BayId) (result : PassResult) (s : State) : Host.Outcome State Fault Refusal :=
  match (s.bay b).media.atSector with
  | some op =>
    if op.kind.isRead then
      match result with
      | .good data => .next (s.readGood b op data)
      | .bad => .next (s.passFails b op)
    else .next s
  | none => .next s

/-- SECTOR_ID_TIMEOUT (R143, R144): it fails a pass of a read, and a write attempt. -/
def execSectorIdTimeout (b : BayId) (s : State) : Host.Outcome State Fault Refusal :=
  match (s.bay b).media.atSector with
  | some op =>
    if op.kind.isRead then .next (s.passFails b op)
    else if op.kind.isWrite then .next (s.writeBad b op)
    else .next s
  | none => .next s

/-- WRITE_ATTEMPT_DONE (R144): the attempt succeeds. -/
def execWriteAttemptDone (b : BayId) (s : State) : Host.Outcome State Fault Refusal :=
  match (s.bay b).media.atSector with
  | some op => if op.kind.isWrite then .next (s.writeGood b op) else .next s
  | none => .next s

/-- WRITE_FAULT (R144): the attempt fails. -/
def execWriteFault (b : BayId) (s : State) : Host.Outcome State Fault Refusal :=
  match (s.bay b).media.atSector with
  | some op => if op.kind.isWrite then .next (s.writeBad b op) else .next s
  | none => .next s

/-- ENTRY_PERFORMED (R133): the entry leaves the list, and the mark test follows. An outcome for an entry no longer in the list
is not acted on (R135). -/
def execEntryPerformed (b : BayId) (s : State) : Host.Outcome State Fault Refusal :=
  match s.firstSignal (Signal.isOutcome b) with
  | some (.performed _ n) =>
    let t := s.dropSignal (Signal.isOutcome b)
    match t.queue.outcomeEntry b n with
    | some _ => .next ((t.removeEntry b n).checkDrain b)
    | none => .next t
  | _ => .next s

/-- A failed attempt of an entry, by the first of the cases of R134. -/
def State.entryFails (s : State) (b : BayId) (e : WriteEntry) : State :=
  let s := s.raise b .writeRetries 1
  if s.queue.superseded e then s.removeEntry b e.arrival
  else if 3 ≤ e.attempts + 1 then
    (((s.raise b .writeFailures 1).appendFault (.writeFailed b e.block)).latch b .writeFailed).removeEntry b e.arrival
  else s.requeue b e.arrival (e.attempts + 1)

/-- ENTRY_FAILED (R134). -/
def execEntryFailed (b : BayId) (s : State) : Host.Outcome State Fault Refusal :=
  match s.firstSignal (Signal.isOutcome b) with
  | some (.failed _ n) =>
    let t := s.dropSignal (Signal.isOutcome b)
    match t.queue.outcomeEntry b n with
    | some e => .next ((t.entryFails b e).checkDrain b)
    | none => .next t
  | _ => .next s

/-- ENTRY_ABANDONED (R135): the attempt is not counted; the entry is superseded, or returns to QUEUED. -/
def execEntryAbandoned (b : BayId) (s : State) : Host.Outcome State Fault Refusal :=
  match s.firstSignal (Signal.isOutcome b) with
  | some (.abandoned _ n) =>
    let t := s.dropSignal (Signal.isOutcome b)
    match t.queue.outcomeEntry b n with
    | some e =>
      if t.queue.superseded e then .next ((t.removeEntry b n).checkDrain b)
      else .next (t.requeue b n e.attempts)
    | none => .next t
  | _ => .next s

end Sys2Proof.Machine
end

