-- ==== Sys2Proof/Machine/SpindleCommands.lean ====
section
/-!
DEFINITION. The meanings of the spindle's events: windows, measurements, and its timers (chapter 3).
-/

namespace Sys2Proof.Machine

/-- MEASUREMENT_WINDOW_START (R38, R40): the window's edge count and the next start are fixed from the settings. -/
def execMeasurementWindowStart (b : BayId) (s : State) : Host.Outcome State Fault Refusal :=
  let t := (s.bay b).spindle.nextWindow
  let edges := windowEdges s.settings.edgeCount (s.bay b).record.typeCode
  let period := s.settings.measurePeriod * Config.countsPerMs
  .next ((s.clockTo t).modSpindle b fun x =>
    { x with window := some { edges, startAt := t, stale := false }, nextWindow := t + period })

/-- The spindle reaches RUN, from ACCEL or RECOVER: its claim is reduced and it reports RUN (R48, R55). -/
def State.enterRun (s : State) (b : BayId) : State :=
  let s := { s with freeIndex := s.freeIndex + 1 }.modSpindle b fun x => x.regulate s.freeIndex
  (s.reduceClaim b).runReport b

/-- Speed is lost in RUN (R52): the drive is off, the claim released, SPEED LOSS latched, and the three neighbours told. -/
def State.speedLost (s : State) (b : BayId) : State :=
  let s := (s.modSpindle b fun x => { x with state := .recoverWait, recoverAsked := false }).release b .spindle
  let s := s.latch b .speedLoss
  let s := match s.askUnload b with
    | (t, true) => t.answerSpindle b
    | (t, false) => t
  (((s.mediaSpeedLoss b).answerLoss b).checkDrain b)

/-- The stop is confirmed in STOPPING (R57): the count has reached 2 (R45), the spindle is OFF, or WAITING for a pending
spin-up, and reports. -/
def State.spindleStopped (s : State) (b : BayId) : State :=
  let x := (s.bay b).spindle
  let s := s.modSpindle b fun x => { x with state := .off, count := 2, attemptEnd := false, pendingSpinUp := false }
  let s := if x.pendingSpinUp then
      (s.modSpindle b fun x => { x with state := .waiting }).request b .spinUp
    else s
  s.stopConfirmed b x.attemptEnd

/-- Set the successive-count and the kind of run it counts. -/
def Spindle.counting (x : Spindle) (n : Nat) (stall : Bool := false) : Spindle := { x with count := n, countsStall := stall }

/-- A reading counted in ACCEL (R45, R48, R49). `late` says that its window started at least 2 s after ACCEL was entered. -/
def State.readInAccel (s : State) (b : BayId) (c : SpeedClass) (late : Bool) : State :=
  let x := (s.bay b).spindle
  match c with
  | .on =>
    if x.count = 1 ∧ x.countsStall = false then s.enterRun b else s.modSpindle b fun x => x.counting 1
  | .stall =>
    if late then
      if x.count = 1 ∧ x.countsStall then s.endAttempt b else s.modSpindle b fun x => x.counting 1 true
    else s.modSpindle b fun x => x.counting 0
  | _ => s.modSpindle b fun x => x.counting 0

/-- A reading counted in RUN (R45, R51, R52): `drive` is its class against the speed the spindle regulates to. -/
def State.readInRun (s : State) (b : BayId) (c drive : SpeedClass) : State :=
  let s := { s with freeIndex := s.freeIndex + 1 }.modSpindle b fun x =>
    { x with demand := regulated x.demand drive s.freeIndex }
  if c = .on then s.modSpindle b fun x => x.counting 0
  else if 1 ≤ (s.bay b).spindle.count then (s.modSpindle b fun x => x.counting 2).speedLost b
  else s.modSpindle b fun x => x.counting 1

/-- A reading counted in RECOVER (R45, R55). -/
def State.readInRecover (s : State) (b : BayId) (c : SpeedClass) : State :=
  if c = .on then
    if 1 ≤ (s.bay b).spindle.count then (s.latch b .speedRecovered).enterRun b else s.modSpindle b fun x => x.counting 1
  else s.modSpindle b fun x => x.counting 0

/-- A reading counted in STOPPING (R45, R57). -/
def State.readInStopping (s : State) (b : BayId) (c : SpeedClass) : State :=
  if c = .stall then
    if 1 ≤ (s.bay b).spindle.count then s.spindleStopped b else s.modSpindle b fun x => x.counting 1
  else s.modSpindle b fun x => x.counting 0

/-- A measurement of a window is recorded, at the count of its completion (R39, R44; log entries 4, 44). -/
def State.recordReading (s : State) (b : BayId) (w : Window) (raw : RawOutcome) (c : SpeedClass) : State :=
  { s.clockTo (w.startAt + s.measureCounts raw) with freeIndex := s.freeIndex + 1 }.modSpindle b fun x =>
    { x with reading := reportedReading raw s.settings.slowMark, speedClass := c, raw, window := none }

/-- MEASUREMENT_COMPLETE (R39, R41 to R45): the reading is classed and recorded, and counted by the spindle state unless its
window is passed over. -/
def execMeasurementComplete (b : BayId) (raw : RawOutcome) (s : State) : Host.Outcome State Fault Refusal :=
  let x := (s.bay b).spindle
  match x.window with
  | none => .next s
  | some w =>
    let raw := rawOutcome raw
    let c := s.classAt w raw (nominalSpeed (s.bay b).record.typeCode)
    let t := s.recordReading b w raw c
    if w.stale then .next t
    else match x.state with
      | .accel => .next (t.readInAccel b c (x.timer.any fun z => z + Config.jamTime ≤ w.startAt))
      | .run => .next (t.readInRun b c (s.classAt w raw x.nominal))
      | .recover => .next (t.readInRecover b c)
      | .stopping => .next (t.readInStopping b c)
      | .off | .waiting | .recoverWait => .next t

/-- ATTEMPT_TIMEOUT (R49): the attempt timer reaches 15 s in ACCEL. -/
def execAttemptTimeout (b : BayId) (s : State) : Host.Outcome State Fault Refusal :=
  let x := (s.bay b).spindle
  if x.state = .accel then .next ((s.clockTo ((x.timer.getD s.clock) + Config.attemptTime)).endAttempt b) else .next s

/-- RECOVERY_TIMEOUT (R55): the recovery has failed. With the heads on the retract stop the spindle brakes and the bay enters
FAULT; with the heads off it the spindle asks again. -/
def execRecoveryTimeout (b : BayId) (s : State) : Host.Outcome State Fault Refusal :=
  let x := (s.bay b).spindle
  if x.state = .recover then
    let s := (s.clockTo ((x.timer.getD s.clock) + Config.attemptTime)).release b .spindle
    let s := if (s.bay b).act.state = .unloaded then s.modSpindle b Spindle.brake
      else (s.modSpindle b fun x => { x with state := .recoverWait, timer := none, recoverAsked := true }).request b .recover
    .next (s.faultReport b .speedLost)
  else .next s

end Sys2Proof.Machine
end

