-- ==== Sys2Proof/Machine/SupplyCommands.lean ====
section
/-!
DEFINITION. The meanings of the supply events and of the steps of the Supply Budget: requests, releases, withdrawals and
grants. A notice is taken by the command of its kind; without one under way the command finds nothing to take (log entry 3).
-/

namespace Sys2Proof.Machine

/-! ### The +12 V supply -/

/-- SUPPLY_GOOD_RISES (R32): in LOW a hold of the full 2.0 s starts, and it is not the power-on hold. -/
def execSupplyGoodRises (s : State) : Host.Outcome State Fault Refusal :=
  if s.budget.supply = .low then
    .next { s with
      supplyGood := true
      budget := { s.budget with supply := .holding, powerOnHold := false, holdTimer := some s.clock } }
  else .next s

/-- HOLD_END (R33, R16): the budget is GOOD, SUPPLY RESTORED is latched unless the hold was the power-on hold, the HALTED bays
leave HALTED, and the head of the wait list is examined. -/
def execHoldEnd (s : State) : Host.Outcome State Fault Refusal :=
  if s.budget.supply = .holding then
    let s := s.clockTo ((s.budget.holdTimer.getD s.clock) + Config.holdTime)
    let t := if s.budget.powerOnHold then s else s.latchUnit .supplyRestored
    let t := { t with budget := { t.budget with supply := .good, powerOnHold := false, holdTimer := none } }
    let t := (t.leaveHalted .bayA).leaveHalted .bayB
    .next (t.putBudget t.budget.examine)
  else .next s

/-- What supply loss does in a bay (R91, R58, R15). -/
def State.loseSupplyIn (s : State) (b : BayId) : State :=
  ((s.retract b).modSpindle b Spindle.loseSupply).haltBay b

/-- SUPPLY_LOSS (R34): the budget is LOW, claims and requests are ended, SUPPLY LOSS is latched, and each bay's heads,
spindle and state follow. A fall in LOW cannot occur. -/
def execSupplyLoss (s : State) : Host.Outcome State Fault Refusal :=
  if s.budget.supply = .low then .next s
  else
    let t := { s with supplyGood := false, budget := s.budget.lose }.endBudgetSignals.latchUnit .supplyLoss
    .next ((t.loseSupplyIn .bayA).loseSupplyIn .bayB)

/-! ### Requests, releases and withdrawals at the budget -/

/-- BUDGET_REQUEST (R25): the bay's next notice to the budget, a request of this kind, is taken: granted at once, or it joins
the wait list. -/
def execBudgetRequest (b : BayId) (k : RequestKind) (s : State) : Host.Outcome State Fault Refusal :=
  match s.firstSignal (Signal.toBudgetOf b) with
  | some (.request _ j level) =>
    if j = k then
      let t := s.dropSignal (Signal.toBudgetOf b)
      .next (t.putBudget (t.budget.take { bay := b, kind := k, level }))
    else .next s
  | _ => .next s

/-- CLAIM_RELEASE (R30): the bay's next notice to the budget, a release of this consumer's claim, is taken. -/
def execClaimRelease (b : BayId) (c : Consumer) (s : State) : Host.Outcome State Fault Refusal :=
  match s.firstSignal (Signal.toBudgetOf b) with
  | some (.release _ d) =>
    if d = c then
      let t := s.dropSignal (Signal.toBudgetOf b)
      .next (t.putBudget (t.budget.free b c))
    else .next s
  | _ => .next s

/-- Whether a request of a bay and kind stands in the wait list. -/
def Budget.waits (u : Budget) (b : BayId) (k : RequestKind) : Bool := u.waitList.any fun r => r.bay = b ∧ r.kind = k

/-- WITHDRAWAL (R31): the bay's next notice to the budget, a withdrawal of this kind, is taken: the request leaves the list,
or, where it was granted meanwhile and the grant has not reached its owner, the claim is released. -/
def execWithdrawal (b : BayId) (k : RequestKind) (s : State) : Host.Outcome State Fault Refusal :=
  match s.firstSignal (Signal.toBudgetOf b) with
  | some (.withdraw _ j) =>
    if j = k then
      let t := s.dropSignal (Signal.toBudgetOf b)
      if t.budget.waits b k then .next (t.putBudget (t.budget.drop b k))
      else if (t.firstSignal (Signal.isGrant b k)).isSome then
        let t := t.dropSignal (Signal.isGrant b k)
        .next (t.putBudget (t.budget.free b k.consumer))
      else .next t
    else .next s
  | _ => .next s

/-! ### Grants at their owners -/

/-- A grant is taken by its owner (R31): wanted, the load starts; no longer wanted, the claim is released at once. -/
def State.takeGrant (s : State) (b : BayId) (k : RequestKind) (wanted : Bool) (act : State → Nat → State) : State :=
  match s.firstSignal (Signal.isGrant b k) with
  | some (.grant _ _ level) =>
    let t := s.dropSignal (Signal.isGrant b k)
    if wanted ∧ s.withdrawing b k = false then act t level else t.releaseUnwanted b k
  | _ => s

/-- SPIN_UP_GRANT (R47, R48): from WAITING the spindle enters ACCEL, and the attempt timer starts. -/
def execSpinUpGrant (b : BayId) (s : State) : Host.Outcome State Fault Refusal :=
  .next <| s.takeGrant b .spinUp ((s.bay b).spindle.state = .waiting) fun t _ =>
    t.modSpindle b fun x => { x.enter .accel with timer := some t.clock }

/-- RECOVER_GRANT (R55): from RECOVER_WAIT the spindle enters RECOVER, and the recovery timer starts. -/
def execRecoverGrant (b : BayId) (s : State) : Host.Outcome State Fault Refusal :=
  .next <| s.takeGrant b .recover ((s.bay b).spindle.state = .recoverWait ∧ (s.bay b).spindle.recoverAsked) fun t _ =>
    t.modSpindle b fun x => { x.enter .recover with timer := some t.clock, recoverAsked := false }

/-- The seek in hand that stands REQUESTED on a TRACKING actuator. -/
def Actuator.requestedSeek (x : Actuator) : Option SeekInHand :=
  if x.state = .tracking then x.seek.filter fun q => q.standing = .requested else none

/-- SEEK_GRANT (R63): the plan is made at the granted level, the seek starts, and its heat add is handed over, as one
step. -/
def execSeekGrant (b : BayId) (s : State) : Host.Outcome State Fault Refusal :=
  .next <| s.takeGrant b .seek (s.bay b).act.requestedSeek.isSome fun t level =>
    match (s.bay b).act.requestedSeek with
    | some q => t.startSeek b q level
    | none => t

/-- LOAD_GRANT (R76): the actuator enters LOADING and drives the heads off the stop. -/
def execLoadGrant (b : BayId) (s : State) : Host.Outcome State Fault Refusal :=
  .next <| s.takeGrant b .load ((s.bay b).act.state = .unloaded ∧ (s.bay b).act.loadAttempt.isSome) fun t _ =>
    ((t.newMove b).modAct b fun x => { x with state := .loading, cylinder := none }).modPins b
      fun p => { p with retractStop := false }

/-- RECALIBRATE_GRANT (R78): the motion and the limit start at the grant, and head 0 is selected (log entry 40). -/
def execRecalibrateGrant (b : BayId) (s : State) : Host.Outcome State Fault Refusal :=
  .next <| s.takeGrant b .recalibrate ((s.bay b).act.state = .recalibrating ∧ (s.bay b).act.recal = .waiting) fun t _ =>
    ((t.newMove b).modAct b fun x => { x with recal := .running }).selectHead b 0

/-- SOLENOID_GRANT (R162): the three conditions are checked again; the pulse starts, or the claim is released and the bay goes
back to the first phase that still has work. -/
def execSolenoidGrant (b : BayId) (s : State) : Host.Outcome State Fault Refusal :=
  .next <| s.takeGrant b .solenoid
    ((s.bay b).record.state = .ejecting ∧ (s.bay b).record.phase = .release ∧ (s.bay b).record.pulsing = false)
    fun t _ =>
      if (t.bay b).act.state ≠ .unloaded then (t.release b .solenoid).enterUnload b
      else if (t.bay b).spindle.state ≠ .off ∨ t.queue.drained b = false then (t.release b .solenoid).enterSpindown b
      else t.modRecord b fun r => { r with pulsing := true, pulseAt := t.clock }

end Sys2Proof.Machine
end

