-- ==== Sys2Proof/Machine/UnitMessages.lean ====
section
/-!
DEFINITION. The meanings of the unit-level messages.
-/

namespace Sys2Proof.Machine

/-- IDENTIFY (R177): the identity; with CLEAR the link error count is then 0. -/
def execIdentify (bay : Byte) (clear : Bool) (s : State) : Host.Outcome State Fault Refusal :=
  .next <| s.forUnit 0x01 bay fun s =>
    let t := s.respond 0x01 bay .ok s.identity
    if clear then { t with link := { t.link with errors := 0 } } else t

/-- REPORT (R174): status and latches; without PEEK every latch is then cleared, with its data. -/
def execReport (bay : Byte) (peek : Bool) (s : State) : Host.Outcome State Fault Refusal :=
  .next <| s.forUnit 0x02 bay fun s =>
    let t := s.respond 0x02 bay .ok s.reportBody
    if peek then t else t.clearLatches

/-- FAULTS (R139): the fault list and its overflow count, which are then empty. -/
def execFaults (bay : Byte) (s : State) : Host.Outcome State Fault Refusal :=
  .next <| s.forUnit 0x03 bay fun s => { s.respond 0x03 bay .ok s.faults.body with faults := {} }

/-- SET (R176): the value is stored, and the reply carries the item and the value stored; a SET refused BAD VALUE echoes its
item (R169). -/
def execSet (bay item itemBay : Byte) (value : BitVec 32) (s : State) : Host.Outcome State Fault Refusal :=
  .next <| s.forUnit 0x04 bay fun s =>
    match s.store item.toNat itemBay value.toNat with
    | some (t, v) => t.respond 0x04 bay .ok (item :: bytes4 v)
    | none => s.respond 0x04 bay .badValue [item]

/-- GET (R176): the item, the bay and the value, or the record of a read-only item. -/
def execGet (bay item itemBay : Byte) (s : State) : Host.Outcome State Fault Refusal :=
  .next <| s.forUnit 0x05 bay fun s =>
    match s.item item.toNat itemBay with
    | some body => s.respond 0x05 bay .ok (item :: itemBay :: body)
    | none => s.respond 0x05 bay .badValue

/-- COUNTERS (R153): the fourteen counters; with the clear option they are then 0. -/
def execCounters (bay : Byte) (clear : Bool) (s : State) : Host.Outcome State Fault Refusal :=
  .next <| s.forUnit 0x06 bay fun s =>
    let t := s.respond 0x06 bay .ok (s.bayA.counters.body ++ s.bayB.counters.body)
    let zero := fun (c : Counters) => { c with counts := Vector.replicate 7 0 }
    if clear then (t.modCounters .bayA zero).modCounters .bayB zero else t

/-- RESET (R178): refused BUSY while the Write Queue holds a write entry, unless FORCE is set; otherwise OK, and the soft
reset is taken when the reply has been sent. -/
def execReset (bay : Byte) (force : Bool) (s : State) : Host.Outcome State Fault Refusal :=
  .next <| s.forUnit 0x07 bay fun s =>
    if force = false ∧ s.queue.entryCount ≠ 0 then s.respond 0x07 bay .busy
    else
      let t := s.respond 0x07 bay .ok
      { t with link := { t.link with resetPending := some force } }

end Sys2Proof.Machine
end

