-- ==== Sys2Proof/Machine/Dispatch.lean ====
section
/-! DEFINITION. The meaning of every command: one arm for each row of spec/opcode_table.json. -/

namespace Sys2Proof.Machine

/-- The effect of a command on everything but the queue of waiting commands. -/
def exec (i : Instr) (s : State) : Host.Outcome State Fault Refusal :=
  match i with
  | .powerOn pins => Sys2Proof.Machine.execPowerOn pins s
  | .softReset => Sys2Proof.Machine.execSoftReset s
  | .frameDiscard chars => Sys2Proof.Machine.execFrameDiscard chars s
  | .characterGapTimeout => Sys2Proof.Machine.execCharacterGapTimeout s
  | .unknownMessage code bay body => Sys2Proof.Machine.execUnknownMessage code bay body s
  | .identify bay clear => Sys2Proof.Machine.execIdentify bay clear s
  | .report bay peek => Sys2Proof.Machine.execReport bay peek s
  | .faults bay => Sys2Proof.Machine.execFaults bay s
  | .set bay item itemBay value => Sys2Proof.Machine.execSet bay item itemBay value s
  | .get bay item itemBay => Sys2Proof.Machine.execGet bay item itemBay s
  | .counters bay clear => Sys2Proof.Machine.execCounters bay clear s
  | .reset bay force => Sys2Proof.Machine.execReset bay force s
  | .start bay => Sys2Proof.Machine.execStart bay s
  | .stop bay => Sys2Proof.Machine.execStop bay s
  | .lock bay => Sys2Proof.Machine.execLock bay s
  | .unlock bay => Sys2Proof.Machine.execUnlock bay s
  | .order bay => Sys2Proof.Machine.execOrder bay s
  | .write bay block data => Sys2Proof.Machine.execWrite bay block data s
  | .result bay => Sys2Proof.Machine.execResult bay s
  | .abort bay => Sys2Proof.Machine.execAbort bay s
  | .mapProbe bay block => Sys2Proof.Machine.execMapProbe bay block s
  | .mapRead bay index => Sys2Proof.Machine.execMapRead bay index s
  | .mapWrite bay index block spare => Sys2Proof.Machine.execMapWrite bay index block spare s
  | .mapWriteAny bay block spare => Sys2Proof.Machine.execMapWriteAny bay block spare s
  | .mapClear bay index => Sys2Proof.Machine.execMapClear bay index s
  | .eject bay => Sys2Proof.Machine.execEject bay s
  | .read bay block count => Sys2Proof.Machine.execRead bay block count s
  | .readPhys bay cylinder head sector count => Sys2Proof.Machine.execReadPhys bay cylinder head sector count s
  | .writePhys bay cylinder head sector data => Sys2Proof.Machine.execWritePhys bay cylinder head sector data s
  | .flush bay => Sys2Proof.Machine.execFlush bay s
  | .seek bay cylinder => Sys2Proof.Machine.execSeek bay cylinder s
  | .mapSave bay => Sys2Proof.Machine.execMapSave bay s
  | .supplyGoodRises => Sys2Proof.Machine.execSupplyGoodRises s
  | .holdEnd => Sys2Proof.Machine.execHoldEnd s
  | .supplyLoss => Sys2Proof.Machine.execSupplyLoss s
  | .presentSenseRise bay => Sys2Proof.Machine.execPresentSenseRise bay s
  | .insertion bay typeSense0 typeSense1 => Sys2Proof.Machine.execInsertion bay typeSense0 typeSense1 s
  | .presentSenseFall bay => Sys2Proof.Machine.execPresentSenseFall bay s
  | .ejectButtonPress bay => Sys2Proof.Machine.execEjectButtonPress bay s
  | .solenoidPulseEnd bay present => Sys2Proof.Machine.execSolenoidPulseEnd bay present s
  | .removalTimeout bay => Sys2Proof.Machine.execRemovalTimeout bay s
  | .measurementWindowStart bay => Sys2Proof.Machine.execMeasurementWindowStart bay s
  | .measurementComplete bay raw => Sys2Proof.Machine.execMeasurementComplete bay raw s
  | .attemptTimeout bay => Sys2Proof.Machine.execAttemptTimeout bay s
  | .recoveryTimeout bay => Sys2Proof.Machine.execRecoveryTimeout bay s
  | .budgetRequest bay kind => Sys2Proof.Machine.execBudgetRequest bay kind s
  | .claimRelease bay consumer => Sys2Proof.Machine.execClaimRelease bay consumer s
  | .withdrawal bay kind => Sys2Proof.Machine.execWithdrawal bay kind s
  | .spinUpGrant bay => Sys2Proof.Machine.execSpinUpGrant bay s
  | .recoverGrant bay => Sys2Proof.Machine.execRecoverGrant bay s
  | .seekGrant bay => Sys2Proof.Machine.execSeekGrant bay s
  | .loadGrant bay => Sys2Proof.Machine.execLoadGrant bay s
  | .recalibrateGrant bay => Sys2Proof.Machine.execRecalibrateGrant bay s
  | .solenoidGrant bay => Sys2Proof.Machine.execSolenoidGrant bay s
  | .seekComplete bay sample => Sys2Proof.Machine.execSeekComplete bay sample s
  | .seekTimeout bay => Sys2Proof.Machine.execSeekTimeout bay s
  | .servoLoss bay => Sys2Proof.Machine.execServoLoss bay s
  | .trackLoss bay => Sys2Proof.Machine.execTrackLoss bay s
  | .loadGuardFound bay => Sys2Proof.Machine.execLoadGuardFound bay s
  | .loadTimeout bay => Sys2Proof.Machine.execLoadTimeout bay s
  | .recalibrationComplete bay => Sys2Proof.Machine.execRecalibrationComplete bay s
  | .recalibrationFailed bay => Sys2Proof.Machine.execRecalibrationFailed bay s
  | .unloadComplete bay => Sys2Proof.Machine.execUnloadComplete bay s
  | .unloadFailed bay => Sys2Proof.Machine.execUnloadFailed bay s
  | .evaluation => Sys2Proof.Machine.execEvaluation s
  | .mediaChoice bay => Sys2Proof.Machine.execMediaChoice bay s
  | .readPassEnd bay result => Sys2Proof.Machine.execReadPassEnd bay result s
  | .sectorIdTimeout bay => Sys2Proof.Machine.execSectorIdTimeout bay s
  | .writeAttemptDone bay => Sys2Proof.Machine.execWriteAttemptDone bay s
  | .writeFault bay => Sys2Proof.Machine.execWriteFault bay s
  | .entryPerformed bay => Sys2Proof.Machine.execEntryPerformed bay s
  | .entryFailed bay => Sys2Proof.Machine.execEntryFailed bay s
  | .entryAbandoned bay => Sys2Proof.Machine.execEntryAbandoned bay s
  | .addressCharacter low => Sys2Proof.Machine.execAddressCharacter low s

end Sys2Proof.Machine
end

