-- ==== Sys2Proof/Machine/Idle.lean ====
section
/-!
DEFINITION. What the block does when no command waits (log entry 2): the command that takes the oldest notice under way, or the
choice of a Media Engine that can make one, or a tick of the clock.
-/

namespace Sys2Proof.Machine

/-- The command that takes the grant of a bay's request (R31, R48, R55, R63, R76, R78, R162). -/
def RequestKind.grantCommand (b : BayId) : RequestKind → Instr
  | .spinUp => .spinUpGrant b
  | .recover => .recoverGrant b
  | .seek => .seekGrant b
  | .load => .loadGrant b
  | .recalibrate => .recalibrateGrant b
  | .solenoid => .solenoidGrant b

/-- The command that takes a notice (log entry 3). -/
def Signal.command : Signal → Instr
  | .request b k _ => .budgetRequest b k
  | .release b c => .claimRelease b c
  | .withdraw b k => .withdrawal b k
  | .grant b k _ => k.grantCommand b
  | .performed b _ => .entryPerformed b
  | .failed b _ => .entryFailed b
  | .abandoned b _ => .entryAbandoned b
  | .atStop b => .unloadComplete b

/-- Whether a Media Engine can choose, and has work to take (R141). -/
def State.engineReady (s : State) (b : BayId) : Bool := s.mayChoose b && s.choice b ≠ Work.nothing

/-- The command an idle block gives itself: it takes the oldest notice, or makes an engine's choice. -/
def State.ownCommand (s : State) : Option Instr :=
  match s.signals with
  | x :: _ => some x.command
  | [] =>
    if s.engineReady .bayA then some (.mediaChoice .bayA)
    else if s.engineReady .bayB then some (.mediaChoice .bayB)
    else none

/-- One count of the 1 MHz clock (00_scope.md, section 4.2). -/
def State.tick (s : State) : State := { s with clock := s.clock + 1 }

end Sys2Proof.Machine
end

