-- ==== Sys2Proof/Machine/Step.lean ====
section
/-!
DEFINITION. One step of the block: the command at the front of the queue takes effect; with none waiting, the block goes on by
itself.
-/

namespace Sys2Proof.Machine

/-- The state without its waiting commands but for those given. -/
def State.withPending (s : State) (cs : List Instr) : State := { s with pending := cs }

/-- What happens on an empty queue (DESIGN CHOICE, log entry 2): a notice under way is taken, or an engine chooses, or the
clock ticks. -/
def idle (s : State) : Host.Outcome State Fault Refusal :=
  match s.ownCommand with
  | some c => exec c s
  | none => .next s.tick

/-- One step: the command at the front of the queue is taken, and runs with the rest of the queue. -/
def step (s : State) : Host.Outcome State Fault Refusal :=
  match s.pending with
  | c :: rest => exec c (s.withPending rest)
  | [] => idle s

/-- The state with the command that a table word spells at the front of its queue; unchanged where it spells none. -/
def State.withFetchWord (s : State) (nbits w : Nat) : State :=
  match decodeTableWord nbits w with
  | some c => s.withPending (c :: s.pending)
  | none => s

end Sys2Proof.Machine
end

