-- ==== Sys2Proof/Safety.lean ====
section
/-!
DEFINITION. What every step keeps true: the rules that the spec states of the whole machine, as predicates on a state, block
by block. Each is a condition that the statements of this project cite by name.
-/

namespace Sys2Proof.Machine

/-! ### The Supply Budget (R22 to R26, R34, R35) -/

/-- The owner of a claim (R22). -/
def Claim.owner (c : Claim) : BayId × Consumer := (c.bay, c.consumer)

/-- The rules of the budget: the effective capacity is 33 to 40 (R23); a pending capacity is at least 33, and is held only
while the claims exceed it (R24); the draws granted never exceed the effective capacity, with at most one record of an owner
(R22); the wait list holds at most two requests, never two of a bay (R26); and nothing is granted before GOOD (R34, R35). -/
structure Budget.Ok (u : Budget) : Prop where
  capacity  : Config.minCapacity ≤ u.effective ∧ u.effective ≤ Config.maxCapacity
  pending   : ∀ p ∈ u.pending, Config.minCapacity ≤ p ∧ p < drawSum u.claims
  sum       : drawSum u.claims ≤ u.effective
  owners    : (u.claims.map Claim.owner).Nodup
  waitCount : u.waitList.length ≤ 2
  waitBays  : (u.waitList.map Request.bay).Nodup
  good      : u.supply ≠ .good → u.claims = []

/-! ### The Write Queue (R122, R123, R125, R129, R131) -/

/-- Whether, of two entries of a bay and block in one stretch between the bay's marks, the earlier is WRITING and the later
QUEUED: so no stretch holds two QUEUED entries of one block (R125). -/
def stretchesOk (b : BayId) : List Item → Bool
  | [] => true
  | .mark .. :: rest => stretchesOk b rest
  | .entry e :: rest =>
    (decide (e.bay ≠ b) ||
      (entriesOf (firstStretch b rest)).all fun f =>
        decide (f.bay ≠ b) || decide (f.block ≠ e.block) || (e.writing && !f.writing)) && stretchesOk b rest

/-- Whether an item is not a mark. -/
def Item.isEntry : Item → Bool
  | .entry _ => true
  | .mark .. => false

/-- The rules of the list for one bay: at most one entry is WRITING, and it is not fenced (R131); no mark stands before the
bay's first entry (R129); no stretch holds two QUEUED entries of one block (R125). -/
structure ItemsOk (items : List Item) (b : BayId) : Prop where
  oneWriting : ((entriesOf items).filter fun e => decide (e.bay = b) && e.writing).length ≤ 1
  unfenced   : ∀ e ∈ entriesOf items, e.bay = b → e.writing = true → e ∈ entriesOf (firstStretch b items)
  noMarkHead : (itemsOf b items).head?.all Item.isEntry = true
  stretches  : stretchesOk b items = true

/-- The rules of the Write Queue: at most 16 entries and 8 marks, each entry with a write slot of its own (R123); the ranges of
an entry's fields (R122); and the rules of the list for each bay. -/
structure WriteQueue.Ok (q : WriteQueue) : Prop where
  entries : q.entryCount ≤ Config.maxEntries
  marks   : q.markCount ≤ Config.maxMarks
  slots   : ((entriesOf q.items).map WriteEntry.slot).Nodup
  fields  : ∀ e ∈ entriesOf q.items, e.slot < 16 ∧ e.attempts ≤ 2 ∧ e.arrival < 65536
  arrival : q.nextArrival < 65536
  bayA    : ItemsOk q.items .bayA
  bayB    : ItemsOk q.items .bayB

/-! ### The remap tables (R107) -/

/-- The rules of a remap table: no two valid entries with the same block or the same spare index, every spare index 0 to 191,
and every block in range for the cartridge type in the bay (R107). -/
structure RemapTable.Ok (t : RemapTable) (typeCode : Nat) : Prop where
  distinct : noDuplicates t.valid = true
  spares   : ∀ m ∈ t.valid, spareOk m.spare = true
  blocks   : typeCode ≠ 0 → ∀ m ∈ t.valid, blockOk typeCode m.block = true

/-! ### The settings (R176, R96) -/

/-- The ranges of the settings (R176), with the heat settings in order (R96). -/
structure Settings.Ok (c : Settings) : Prop where
  attempts  : 1 ≤ c.attemptsLimit ∧ c.attemptsLimit ≤ 8
  edges     : c.edgeCount = 3 ∨ c.edgeCount = 5 ∨ c.edgeCount = 9 ∨ c.edgeCount = 17
  period    : c.measurePeriod = 250 ∨ c.measurePeriod = 500 ∨ c.measurePeriod = 1000
  tolerance : 4 ≤ c.speedTolerance ∧ c.speedTolerance ≤ 64
  downshift : 1 ≤ c.downshiftThreshold ∧ c.downshiftThreshold ≤ 8
  upshift   : 16 ≤ c.upshiftRun ∧ c.upshiftRun ≤ 1024
  heat      : 1024 ≤ c.heatRelease ∧ c.heatRelease < c.heatTop ∧ c.heatTop < c.heatTrip ∧ c.heatTrip ≤ 65000
  delay     : 1 ≤ c.adjustDelay ∧ c.adjustDelay ≤ 4

/-! ### The ranges of a bay's figures -/

/-- The ranges of a bay's figures: attempt and trip counts (R5), successive-count (R45), actuator record (R75), heat (R94,
R97), fairness count (R140), counters and thresholds (R152). -/
structure Bay.RangesOk (y : Bay) : Prop where
  typeCode   : y.record.typeCode ≤ 3
  attempts   : y.record.attempts ≤ 8
  trips      : y.record.trips ≤ 16
  count      : y.spindle.count ≤ 2
  reading    : y.spindle.reading ≤ 65535
  failures   : y.act.failures ≤ 8
  upshift    : y.act.upshiftRun ≤ 1024
  downshift  : y.act.downshift ≤ 3
  estimate   : y.heat.estimate ≤ 65535
  offset     : y.heat.offset ≤ 3
  delay      : y.heat.delay ≤ 480
  fairness   : y.media.fairness ≤ 4
  counts     : ∀ n : CounterName, y.counters.counts[n.index] ≤ 65535
  thresholds : ∀ n : CounterName, 1 ≤ y.counters.thresholds[n.index] ∧ y.counters.thresholds[n.index] ≤ 65535

/-- The figures of the whole unit in range: the settings, both bays, the fault list (R138), the link error count (R168) and the
remap tables (R107). -/
structure State.RangesOk (s : State) : Prop where
  settings : s.settings.Ok
  bayA     : s.bayA.RangesOk
  bayB     : s.bayB.RangesOk
  records  : s.faults.records.length ≤ 8
  overflow : s.faults.overflow ≤ 255
  errors   : s.link.errors ≤ 65535
  mapA     : s.bayA.map.Ok s.bayA.record.typeCode
  mapB     : s.bayB.map.Ok s.bayB.record.typeCode

/-! ### The mechanics of a bay (R52, R131, R141, R157, R162) -/

/-- Whether the heads are on the medium or on their way there: LOADING, RECALIBRATING, TRACKING or SEEKING. -/
def ActuatorState.loaded : ActuatorState → Bool
  | .loading | .recalibrating | .tracking | .seeking => true
  | .unloaded | .unloading => false

/-- Whether the Bay Controller may want the heads loaded: LOADING to RAW, CLEANING, the drain step of PARKING, and phase
DRAIN (R9, R11, R13, R17). -/
def BayRecord.wantsHeads (r : BayRecord) : Bool :=
  match r.state with
  | .loading | .mounting | .ready | .raw | .cleaning => true
  | .parking => r.parkStep = .drain
  | .ejecting => r.phase = .drain
  | _ => false

/-- Whether the Bay Controller may leave the heads on the medium: it wants them there, or it is unloading them. -/
def BayRecord.allowsHeads (r : BayRecord) : Bool :=
  r.wantsHeads || match r.state with
    | .parking => r.parkStep = .unload
    | .ejecting => r.phase = .unload
    | _ => false

/-- Whether the disc of a bay is at rest by its state: EMPTY, INSERTED, PARKED, and phases RELEASE and AWAIT REMOVAL. -/
def BayRecord.discAtRest (r : BayRecord) : Bool :=
  match r.state with
  | .empty | .inserted | .parked => true
  | .ejecting => r.phase = .release ∨ r.phase = .awaitRemoval
  | _ => false

/-- Whether the host's writes may wait in the queue: READY, RAW, the drain step of PARKING, and phase DRAIN. -/
def BayRecord.mayHoldWrites (r : BayRecord) : Bool :=
  match r.state with
  | .ready | .raw => true
  | .parking => r.parkStep = .drain
  | .ejecting => r.phase = .drain
  | _ => false

/-- The rules of a bay's mechanics, `drained` telling whether the Write Queue holds no item of the bay. -/
structure Bay.MechanicsOk (y : Bay) (drained : Bool) : Prop where
  /-- The heads are never loaded, tracking or seeking on a disc whose spindle is not in RUN (R52). -/
  headsOnRun   : y.act.state.loaded = true → y.spindle.state = .run
  /-- Loaded heads stand only in a bay that allows them. -/
  headsAllowed : y.act.state.loaded = true → y.record.allowsHeads = true
  /-- A load is tried only while the bay wants the heads and the disc turns at speed (R76). -/
  loadWanted   : y.act.loadAttempt.isSome = true → y.record.wantsHeads = true ∧ y.spindle.state = .run
  /-- A bay whose disc is at rest has its spindle OFF (R57, R162). -/
  atRest       : y.record.discAtRest = true → y.spindle.state = .off
  /-- A spin-up is pending only in STOPPING, in a bay that spins up (R46), or that an unload fault has stopped doing so. -/
  spinPending  : y.spindle.pendingSpinUp = true →
    y.spindle.state = .stopping ∧ (y.record.state = .spinning ∨ y.record.state = .cleaning ∨
      (y.record.state = .fault ∧ y.record.cause = .unloadFault))
  /-- A bay that may hold no writes has none in the queue (R129, R137). -/
  queueEmpty   : y.record.mayHoldWrites = false → drained = true
  /-- A label save of the eject is under way only once the bay is drained (R158). -/
  saveDrained  : y.record.state = .ejecting → y.record.phase = .drain →
    (y.record.eject.any fun e => e.saveMarker) = true → drained = true
  /-- An engine has an operation in flight only in a bay where it takes work (R141). -/
  opWorks      : y.media.op.isSome = true → y.record.mediaWorks = true
  /-- A seek in hand stands only on loaded heads. -/
  seekLoaded   : y.act.seek.isSome = true → y.act.state.loaded = true
  /-- A seek in hand for the Media Engine is that of its operation, and a sweep seek that of a CLEANING bay (R75, R81). -/
  seekOwner    : ∀ q ∈ y.act.seek, match q.requester with
    | .media => (y.media.op.any fun o => o.stage = .seeking) = true
    | .sweep => y.record.state = .cleaning
  /-- An operation on its sector has the heads TRACKING (R142). -/
  sectorTracks : (y.media.op.any fun o => o.stage = .atSector) = true → y.act.state = .tracking
  /-- The solenoid is pulsed only while the actuator is UNLOADED, the spindle is OFF, and the Write Queue holds no entry or
  mark of the bay (R162). -/
  solenoid     : y.record.pulsing = true →
    y.record.state = .ejecting ∧ y.record.phase = .release ∧ y.act.state = .unloaded ∧ y.spindle.state = .off ∧
      drained = true

/-- The rules of the mechanics of both bays; and an accepted RESET without FORCE, not yet taken, finds no write entry
(R178). -/
structure State.MechanicsOk (s : State) : Prop where
  bayA  : s.bayA.MechanicsOk (s.queue.drained .bayA)
  bayB  : s.bayB.MechanicsOk (s.queue.drained .bayB)
  reset : s.link.resetPending = some false → s.queue.entryCount = 0
  queue : s.queue.Ok

/-! ### Words of the statements -/

/-- The bay field that names a bay (R169). -/
def BayId.field : BayId → Byte
  | .bayA => 0#8
  | .bayB => 1#8

/-- A state once a message has been answered: the reply is composed and the receive assembly is idle; nothing else has
changed (R167, R169). -/
def State.replied (s : State) (code field : Byte) (status : ReplyStatus) (body : List Byte := []) : State :=
  { s with link := { s.link with assembly := .idle, reply := some { status, code, bay := field, body } } }

/-- A state with the state of one bay replaced. -/
def State.withBay (s : State) (b : BayId) (y : Bay) : State := s.modBay b fun _ => y

/-- Whether a message is addressed to a bay; the others are unit-level (section 11.6, message codes). -/
def addressedToBay (code : Byte) : Bool := 0x10 ≤ code.toNat

/-- The first notice of a bay to the Supply Budget is at the place after `early` (log entry 3). -/
def State.nextNotice (s : State) (b : BayId) (early : List Signal) (x : Signal) (late : List Signal) : Prop :=
  s.signals = early ++ x :: late ∧ (∀ z ∈ early, Signal.toBudgetOf b z = false) ∧ Signal.toBudgetOf b x = true

/-- A grant of a kind is on its way to a bay, the first of its kind, and no withdrawal of it is under way (R31). -/
def State.grantUnderWay (s : State) (b : BayId) (k : RequestKind) (level : Nat) (early late : List Signal) : Prop :=
  s.signals = early ++ .grant b k level :: late ∧ (∀ z ∈ early, Signal.isGrant b k z = false) ∧
    Signal.withdraw b k ∉ s.signals

end Sys2Proof.Machine
end

