-- ==== Sys2Proof/Machine/Frames.lean ====
section
/-!
DEFINITION. The messages of the Drive Link as frames (R167 to R169, section 11.6): the code, bay and body of each message,
the frame that carries it, and the message that a valid frame is.
-/

namespace Sys2Proof.Machine

/-! ### Bodies -/

/-- A two-byte field as sent, least significant byte first (section 11.6). -/
def field2 (v : BitVec 16) : List Byte := [v.extractLsb' 0 8, v.extractLsb' 8 8]

/-- A four-byte field as sent, least significant byte first (section 11.6). -/
def field4 (v : BitVec 32) : List Byte := [v.extractLsb' 0 8, v.extractLsb' 8 8, v.extractLsb' 16 8, v.extractLsb' 24 8]

/-- An option byte: bit 0 is the option, and the others are 0 (section 11.6). -/
def optionByte (o : Bool) : Byte := if o then 1#8 else 0#8

/-- The two-byte field at an offset of a body. -/
def fieldAt2 (body : List Byte) (i : Nat) : BitVec 16 := body.getD (i + 1) 0#8 ++ body.getD i 0#8

/-- The four-byte field at an offset of a body. -/
def fieldAt4 (body : List Byte) (i : Nat) : BitVec 32 := fieldAt2 body (i + 2) ++ fieldAt2 body i

/-- Whether a body is an option byte with the bits not named 0 (R169, step 2). -/
def optionOk (body : List Byte) : Bool := body.length = 1 ∧ (body.getD 0 0#8).toNat ≤ 1

/-- Whether the count at an offset of a body is 1 to 4 (section 11.6). -/
def countAtOk (body : List Byte) (i : Nat) : Bool := 1 ≤ (body.getD i 0#8).toNat ∧ (body.getD i 0#8).toNat ≤ 4

/-- Whether a code is that of a message, and its body has the length and the option values that the code requires (R169,
steps 1 and 2, section 11.6). -/
def bodyOk (code : Byte) (body : List Byte) : Bool :=
  match code.toNat with
  | 0x01 | 0x02 | 0x06 | 0x07 => optionOk body
  | 0x04 => body.length = 6
  | 0x05 => body.length = 2
  | 0x03 | 0x10 | 0x11 | 0x12 | 0x13 | 0x14 | 0x18 | 0x19 | 0x30 | 0x34 | 0x36 => body.length = 0
  | 0x15 => body.length = 514
  | 0x20 | 0x35 => body.length = 2
  | 0x21 | 0x24 => body.length = 1
  | 0x22 => body.length = 4
  | 0x23 => body.length = 3
  | 0x31 => body.length = 3 ∧ countAtOk body 2
  | 0x32 => body.length = 5 ∧ countAtOk body 4
  | 0x33 => body.length = 516
  | _ => false

/-- The message that a code, a bay field and a body are: UNKNOWN MESSAGE where R169 refuses them BAD MESSAGE (section
11.6). -/
def parseMessage (code bay : Byte) (body : List Byte) : Instr :=
  let byteAt := fun i => body.getD i 0#8
  if bodyOk code body then
    match code.toNat with
    | 0x01 => .identify bay (byteAt 0 = 1#8)
    | 0x02 => .report bay (byteAt 0 = 1#8)
    | 0x03 => .faults bay
    | 0x04 => .set bay (byteAt 0) (byteAt 1) (fieldAt4 body 2)
    | 0x05 => .get bay (byteAt 0) (byteAt 1)
    | 0x06 => .counters bay (byteAt 0 = 1#8)
    | 0x07 => .reset bay (byteAt 0 = 1#8)
    | 0x10 => .start bay
    | 0x11 => .stop bay
    | 0x12 => .lock bay
    | 0x13 => .unlock bay
    | 0x14 => .order bay
    | 0x15 => .write bay (fieldAt2 body 0) (sectorOf (body.drop 2))
    | 0x18 => .result bay
    | 0x19 => .abort bay
    | 0x20 => .mapProbe bay (fieldAt2 body 0)
    | 0x21 => .mapRead bay (byteAt 0)
    | 0x22 => .mapWrite bay (byteAt 0) (fieldAt2 body 1) (byteAt 3)
    | 0x23 => .mapWriteAny bay (fieldAt2 body 0) (byteAt 2)
    | 0x24 => .mapClear bay (byteAt 0)
    | 0x30 => .eject bay
    | 0x31 => .read bay (fieldAt2 body 0) (byteAt 2)
    | 0x32 => .readPhys bay (fieldAt2 body 0) (byteAt 2) (byteAt 3) (byteAt 4)
    | 0x33 => .writePhys bay (fieldAt2 body 0) (byteAt 2) (byteAt 3) (sectorOf (body.drop 4))
    | 0x34 => .flush bay
    | 0x35 => .seek bay (fieldAt2 body 0)
    | 0x36 => .mapSave bay
    | _ => .unknownMessage code bay body
  else .unknownMessage code bay body

/-! ### Frames -/

/-- The characters of a command frame after its address character: length, code, bay, body and check (section 11.6). -/
def commandFrame (code bay : Byte) (body : List Byte) : List Byte :=
  let covered := bytes2 (body.length + 2) ++ (code :: bay :: body)
  covered ++ checkBytes (frameCheck covered)

/-- The message of a complete frame that passes R168: its length in range, its check matching (R167 to R169). -/
def readFrame (gathered : List Byte) : Option Instr :=
  if lengthOk gathered ∧ frameComplete gathered ∧ frameGood gathered then
    match (gathered.drop 2).take (frameLength gathered) with
    | code :: bay :: body => some (parseMessage code bay body)
    | _ => none
  else none

end Sys2Proof.Machine

namespace Sys2Proof

open Machine

/-- The code, bay field and body of a message (section 11.6); an event is no message. -/
def Instr.message : Instr → Option (Byte × Byte × List Byte)
  | .unknownMessage code bay body => some (code, bay, body)
  | .identify bay clear => some (0x01, bay, [optionByte clear])
  | .report bay peek => some (0x02, bay, [optionByte peek])
  | .faults bay => some (0x03, bay, [])
  | .set bay item itemBay value => some (0x04, bay, item :: itemBay :: field4 value)
  | .get bay item itemBay => some (0x05, bay, [item, itemBay])
  | .counters bay clear => some (0x06, bay, [optionByte clear])
  | .reset bay force => some (0x07, bay, [optionByte force])
  | .start bay => some (0x10, bay, [])
  | .stop bay => some (0x11, bay, [])
  | .lock bay => some (0x12, bay, [])
  | .unlock bay => some (0x13, bay, [])
  | .order bay => some (0x14, bay, [])
  | .write bay block data => some (0x15, bay, field2 block ++ data.toList)
  | .result bay => some (0x18, bay, [])
  | .abort bay => some (0x19, bay, [])
  | .mapProbe bay block => some (0x20, bay, field2 block)
  | .mapRead bay index => some (0x21, bay, [index])
  | .mapWrite bay index block spare => some (0x22, bay, index :: field2 block ++ [spare])
  | .mapWriteAny bay block spare => some (0x23, bay, field2 block ++ [spare])
  | .mapClear bay index => some (0x24, bay, [index])
  | .eject bay => some (0x30, bay, [])
  | .read bay block count => some (0x31, bay, field2 block ++ [count])
  | .readPhys bay cylinder head sector count => some (0x32, bay, field2 cylinder ++ [head, sector, count])
  | .writePhys bay cylinder head sector data => some (0x33, bay, field2 cylinder ++ [head, sector] ++ data.toList)
  | .flush bay => some (0x34, bay, [])
  | .seek bay cylinder => some (0x35, bay, field2 cylinder)
  | .mapSave bay => some (0x36, bay, [])
  | .powerOn _ | .softReset | .frameDiscard _ | .characterGapTimeout | .supplyGoodRises | .holdEnd | .supplyLoss
  | .presentSenseRise _ | .insertion .. | .presentSenseFall _ | .ejectButtonPress _ | .solenoidPulseEnd ..
  | .removalTimeout _ | .measurementWindowStart _ | .measurementComplete .. | .attemptTimeout _ | .recoveryTimeout _
  | .budgetRequest .. | .claimRelease .. | .withdrawal .. | .spinUpGrant _ | .recoverGrant _ | .seekGrant _
  | .loadGrant _ | .recalibrateGrant _ | .solenoidGrant _ | .seekComplete .. | .seekTimeout _ | .servoLoss _
  | .trackLoss _ | .loadGuardFound _ | .loadTimeout _ | .recalibrationComplete _ | .recalibrationFailed _
  | .unloadComplete _ | .unloadFailed _ | .evaluation | .mediaChoice _ | .readPassEnd .. | .sectorIdTimeout _
  | .writeAttemptDone _ | .writeFault _ | .entryPerformed _ | .entryFailed _ | .entryAbandoned _
  | .addressCharacter _ => none

end Sys2Proof
end

