-- ==== Sys2Proof/WellFormed.lean ====
section
/-!
DEFINITION. Which commands are well formed: what a command's arguments must satisfy for it to be the event or message its
row names.
-/

namespace Sys2Proof

open Machine

/-- Whether a raw outcome is one a window can have: a COUNTED reading is 1 to 65,533 (R39). -/
def Machine.RawOutcome.wellFormed : RawOutcome → Bool
  | .counted n => 1 ≤ n.toNat ∧ n.toNat ≤ 65533
  | .fewEdges | .noEdge => true

/-- Whether a command is well formed:
* FRAME_DISCARD is brought about by at least one character (R168);
* UNKNOWN_MESSAGE is a frame within the length limit, with a code or body that R169 refuses (steps 1 and 2);
* READ and READ PHYS name a count of 1 to 4 (section 11.6);
* MEASUREMENT_COMPLETE gives a reading that R39 allows;
* SEEK_COMPLETE names a sample of the seek, numbered from 1 (R69);
* ADDRESS_CHARACTER names a unit, from the adapter, with its other bits zero (R167). -/
def Instr.wellFormed : Instr → Bool
  | .frameDiscard chars => !chars.isEmpty
  | .unknownMessage code _ body => body.length ≤ 1038 ∧ bodyOk code body = false
  | .read _ _ count => countOk count
  | .readPhys _ _ _ _ count => countOk count
  | .measurementComplete _ raw => raw.wellFormed
  | .seekComplete _ sample => 1 ≤ sample
  | .addressCharacter low => low.toNat ≤ 3
  | .powerOn _ | .softReset | .characterGapTimeout | .identify .. | .report .. | .faults _ | .set .. | .get ..
  | .counters .. | .reset .. | .start _ | .stop _ | .lock _ | .unlock _ | .order _ | .write .. | .result _ | .abort _
  | .mapProbe .. | .mapRead .. | .mapWrite .. | .mapWriteAny .. | .mapClear .. | .eject _ | .writePhys .. | .flush _
  | .seek .. | .mapSave _ | .supplyGoodRises | .holdEnd | .supplyLoss | .presentSenseRise _ | .insertion ..
  | .presentSenseFall _ | .ejectButtonPress _ | .solenoidPulseEnd .. | .removalTimeout _ | .measurementWindowStart _
  | .attemptTimeout _ | .recoveryTimeout _ | .budgetRequest .. | .claimRelease .. | .withdrawal .. | .spinUpGrant _
  | .recoverGrant _ | .seekGrant _ | .loadGrant _ | .recalibrateGrant _ | .solenoidGrant _ | .seekTimeout _
  | .servoLoss _ | .trackLoss _ | .loadGuardFound _ | .loadTimeout _ | .recalibrationComplete _
  | .recalibrationFailed _ | .unloadComplete _ | .unloadFailed _ | .evaluation | .mediaChoice _ | .readPassEnd ..
  | .sectorIdTimeout _ | .writeAttemptDone _ | .writeFault _ | .entryPerformed _ | .entryFailed _
  | .entryAbandoned _ => true

end Sys2Proof
end

