-- ==== Sys2Proof/Certificates/Slice0/Obligations.lean ====
section
/-!
DEFINITION. The statements for the provers. A message is stated with the bay field of its bay (`BayId.field`), and its whole
next state is given with the operations of the State: what an equation does not name is unchanged.
-/

open Sys2Proof Sys2Proof.Machine

/-! ### The queue of commands -/

/-- Each step takes the command at the front of the queue and runs it with the rest of the queue (log entry 2). -/
def Obligations.StepTakesTheFrontCommand : Prop :=
  ∀ (c : Instr) (rest : List Instr) (s : State),
    step (s.withPending (c :: rest)) = exec c (s.withPending rest)

/-- With no command waiting the block goes on by itself: the oldest notice under way is taken by the command of its kind;
with none, an engine that can choose makes its choice, bay A first; and otherwise one count of the clock passes. This is the
model's choice (log entry 2). -/
def Obligations.EmptyQueueGoesOn : Prop :=
  ∀ s : State, s.pending = [] →
    (∀ x rest, s.signals = x :: rest → step s = exec x.command s) ∧
    (s.signals = [] → s.engineReady .bayA = true → step s = exec (.mediaChoice .bayA) s) ∧
    (s.signals = [] → s.engineReady .bayA = false → s.engineReady .bayB = true → step s = exec (.mediaChoice .bayB) s) ∧
    (s.signals = [] → s.engineReady .bayA = false → s.engineReady .bayB = false →
      step s = .next { s with clock := s.clock + 1 })

/-- The machine answers a next state for every command in every state, and no command changes the queue of the commands that
wait. (That a stray event is answered, with no change, is the model's choice: log entry 7; and so are the queue and that
power-on keeps it: log entries 2 and 30.) -/
def Obligations.CommandsLeaveTheQueue : Prop :=
  ∀ (c : Instr) (s : State), ∃ t, exec c s = .next t ∧ t.pending = s.pending

/-! ### Power-on and the soft reset (R178, R179) -/

/-- Power-on gives every piece of state its power-on value, whatever stood before: the values of State.reset but for the pin
levels read, the supply-good state by SUPPLY GOOD, the debounce of a bay whose cartridge is present, and the retract trigger
of a bay whose heads are off the stop. The bytes of the buffer RAM, and the figures that State.reset names where the spec
gives none, are the model's choice (log entries 1, 5, 10, 11, 34), and so is that the waiting commands stay (log entry 30). -/
def Obligations.PowerOnGivesPowerOnValues : Prop :=
  ∀ (p : PinLevels) (s : State), exec (.powerOn p) s = .next
    { State.reset with
      bayA := { pins := { present := p.presentA, retractStop := p.retractStopA, retractFired := (!p.retractStopA).toNat }
                record := { debouncing := p.presentA } }
      bayB := { pins := { present := p.presentB, retractStop := p.retractStopB, retractFired := (!p.retractStopB).toNat }
                record := { debouncing := p.presentB } }
      budget := { supply := if p.supplyGood then .holding else .low
                  powerOnHold := p.supplyGood
                  holdTimer := if p.supplyGood then some 0 else none }
      link := { unitAddress := p.unitAddress, linkRate := p.linkRate }
      supplyGood := p.supplyGood
      freeIndex := s.freeIndex
      pending := s.pending }

/-- What a soft reset leaves, whatever stood before: no request or result, no fault record, no latch but UNIT RESET (and, where
an unload at once finds a bay at rest, none of PARKED), no request at the budget, no claim but those of spindles in RUN, no
media work, remap tables empty, heat offsets 0; each bay at rest is EMPTY, and each other bay parks without its drain step. The
settings, the event mask, the link error count, the counters and their thresholds are kept. (That heads under way stand TRACKING
in between is the model's: log entry 27; so is that a bay keeps its lock while it parks, which R154 has off at a soft reset and
R19 clears at the stop: log entry 38; and that the generation written of an empty table is 0: log entry 37; and that a STALLED
engine is IDLE: log entry 45.) -/
def Obligations.SoftResetLeaves : Prop :=
  ∀ (s : State) (force : Bool), s.link.resetPending = some force →
    ∃ t, exec .softReset s = .next t ∧
      t.events = 1#5 ∧ t.faults = {} ∧ t.settings = s.settings ∧ t.link = { s.link with resetPending := none } ∧
      t.budget.waitList = [] ∧ t.budget.pending = none ∧ t.budget.effective = s.budget.pending.getD s.budget.effective ∧
      t.budget.supply = s.budget.supply ∧ t.budget.holdTimer = s.budget.holdTimer ∧
      t.queue.items = (if force then [] else s.queue.items) ∧ t.queue.slots = s.queue.slots ∧
      (∀ c ∈ t.budget.claims, c ∈ s.budget.claims ∧ c.consumer = .spindle ∧ c.draw ≤ 5 ∧
        (s.bay c.bay).spindle.state = .run) ∧
      ∀ b : BayId,
        (t.bay b).slot = {} ∧ (t.bay b).latches = {} ∧ (t.bay b).map = {} ∧
        (t.bay b).heat = { estimate := (s.bay b).heat.estimate } ∧
        (t.bay b).media.state = .idle ∧ (t.bay b).media.op = none ∧ (t.bay b).media.custody = none ∧
        (t.bay b).media.fairness = 0 ∧ (t.bay b).act.seek = none ∧ (t.bay b).act.downshift = 0 ∧
        (t.bay b).act.failures = 0 ∧ (t.bay b).act.upshiftRun = 0 ∧ (t.bay b).act.cylinder = none ∧
        (t.bay b).counters.thresholds = (s.bay b).counters.thresholds ∧
        (force = false → (t.bay b).counters = (s.bay b).counters) ∧
        (t.bay b).record.lock = ((t.bay b).record.resetPark && (s.bay b).record.lock) ∧
        ((s.bay b).act.state = .unloaded → (s.bay b).spindle.state = .off →
          (t.bay b).record = { debouncing := (s.bay b).pins.present,
                               debounceAt := if (s.bay b).pins.present then s.clock else 0 }) ∧
        ((s.bay b).act.state ≠ .unloaded → (t.bay b).record.state = .parking ∧ (t.bay b).record.resetPark = true ∧
          (t.bay b).record.parkStep = .unload ∧ (t.bay b).act.state = .unloading) ∧
        ((s.bay b).act.state = .unloaded → (s.bay b).spindle.state = .run →
          (t.bay b).record.state = .parking ∧ (t.bay b).record.parkStep = .spindown ∧ (t.bay b).spindle.state = .stopping)

/-! ### The Link Port (R166 to R169) -/

/-- A discard leaves the assembly idle, raises the link error count by 1, holding at 65,535, and latches LINK ERROR; nothing
else changes but the clock at a gap, which it brings on by 1 ms (the model's choice: log entry 4). An open assembly, or the
frame it has just completed, is discarded at a character with a stop bit of 0; at one with its ninth bit 1 that is no address
character of the unit; at the second length character of a length below 2 or above 1,040; at the last check character of a frame
check that does not match; and at a gap of more than 1 ms, which with the assembly idle does nothing (R168). An address
character of the unit opens an empty assembly, any other character with its ninth bit 1 leaves it idle, and an open assembly
that such a character ends is discarded (R167). An idle assembly passes over every data character, and every character with a
stop bit of 0 (R167, R168). Several characters are taken one after another. -/
def Obligations.AssemblyOpensAndDiscards : Prop :=
  (∀ (s : State) (gathered : List Byte) (c : LinkChar), s.receives = true → s.link.assembly = .opened gathered →
    (c.stop = false ∨
      (c.stop = true ∧ c.ninth = true ∧ c.low ≠ addressByte s.link.unitAddress false) ∨
      (c.stop = true ∧ c.ninth = false ∧ gathered.length = 1 ∧
        (ofBytes (gathered ++ [c.low]) < 2 ∨ 1040 < ofBytes (gathered ++ [c.low]))) ∨
      (c.stop = true ∧ c.ninth = false ∧ 1 ≤ gathered.length ∧ frameComplete (gathered ++ [c.low]) = true ∧
        frameGood (gathered ++ [c.low]) = false)) →
    exec (.frameDiscard [c]) s = .next
      { s with
        link := { s.link with assembly := .idle, errors := min 65535 (s.link.errors + 1) }
        events := s.events ||| 8#5 }) ∧
  (∀ (s : State) (c : LinkChar), s.link.assembly = .idle → c.stop = false ∨ c.ninth = false →
    exec (.frameDiscard [c]) s = .next s) ∧
  (∀ s : State,
    (∀ gathered, s.link.assembly = .opened gathered →
      exec .characterGapTimeout s = .next
        { s with
          link := { s.link with assembly := .idle, errors := min 65535 (s.link.errors + 1) }
          events := s.events ||| 8#5
          clock := s.clock + 1000 }) ∧
    (s.link.assembly = .idle → exec .characterGapTimeout s = .next s)) ∧
  ∀ (s : State) (low : Byte), s.receives = true →
    let opens := low = s.link.unitAddress.setWidth 8
    let next : Assembly := if opens then .opened [] else .idle
    (s.link.assembly = .idle → exec (.addressCharacter low) s = .next { s with link := { s.link with assembly := next } }) ∧
    (∀ gathered, s.link.assembly = .opened gathered →
      exec (.addressCharacter low) s = .next
        { s with
          link := { s.link with assembly := next, errors := min 65535 (s.link.errors + 1) }
          events := s.events ||| 8#5 }) ∧
    ∀ (c : LinkChar) (rest : List LinkChar), ∃ t, exec (.frameDiscard [c]) s = .next t ∧
      exec (.frameDiscard (c :: rest)) s = exec (.frameDiscard rest) t

/-- Every well-formed message, sent as its frame, is read back as itself: its code, its bay field and every field of its
body. -/
def Obligations.FrameReadsBack : Prop :=
  ∀ (i : Instr) (code bay : Byte) (body : List Byte), i.wellFormed = true → i.message = some (code, bay, body) →
    readFrame (commandFrame code bay body) = some i

/-- The frame of every well-formed message is gathered without an error by the unit it is addressed to: its address character
opens the assembly, and its last character leaves it idle with nothing discarded. (That its message is then a command of its
own is the model's reading: log entry 6.) A reply is sent as the address character that opens its frame, with its ninth data
bit 1 and the direction unit to adapter, and then the length, status, code, bay, body and check, with theirs 0; an idle
assembly, this unit's own among them, passes all of it over (R166, R167, section 11.6). A character stands on the line as a
start bit, nine data bits, the least significant first, and a stop bit, at the rate of the two straps: 44 µs at 250,000
bit/s. -/
def Obligations.FrameIsGathered : Prop :=
  (∀ (i : Instr) (code bay : Byte) (body : List Byte) (s : State),
    i.wellFormed = true → i.message = some (code, bay, body) → s.link.assembly = .idle →
    ((commandFrame code bay body).map fun c => ({ low := c, ninth := false, stop := true } : LinkChar)).foldl
      State.takeChar (s.takeChar { low := addressByte s.link.unitAddress false, ninth := true, stop := true }) = s) ∧
  (∀ (r : Reply) (s : State), s.link.assembly = .idle →
    let n := 3 + r.body.length
    let covered : List Byte := [BitVec.ofNat 8 n, BitVec.ofNat 8 (n / 256), BitVec.ofNat 8 r.status.code, r.code, r.bay] ++ r.body
    let check := frameCheck covered
    let low := s.link.unitAddress.setWidth 8 ||| 4#8
    let line := r.characters s.link.unitAddress
    line = { low, ninth := true, stop := true } ::
      (covered ++ [check.extractLsb' 8 8, check.extractLsb' 0 8]).map (fun c => { low := c, ninth := false, stop := true }) ∧
    line.foldl State.takeChar s = s) ∧
  (∀ c : LinkChar, c.lineBits = [false, c.low.getLsbD 0, c.low.getLsbD 1, c.low.getLsbD 2, c.low.getLsbD 3, c.low.getLsbD 4,
    c.low.getLsbD 5, c.low.getLsbD 6, c.low.getLsbD 7, c.ninth, c.stop]) ∧
  [0#2, 1#2, 2#2, 3#2].map (fun code => (linkRate code, characterTime (linkRate code))) =
    [(250000, 44000), (500000, 22000), (1000000, 11000), (250000, 44000)]

/-- A complete frame that is none of the messages of section 11.6 is answered BAD MESSAGE, and a message whose bay field does
not suit it BAD BAY: the field must be 0 or 1 for a message addressed to a bay, and 255 for a unit-level one. Code and bay are
echoed, and nothing else changes (R169, steps 1 to 3). (A count outside 1..4 is part of the body check: log entry 8.) -/
def Obligations.BadMessagesAndBays : Prop :=
  (∀ (code bay : Byte) (body : List Byte) (s : State), s.receives = true →
    exec (.unknownMessage code bay body) s = .next (s.replied code bay .badMessage)) ∧
  ∀ (i : Instr) (code bay : Byte) (body : List Byte) (s : State), s.receives = true → i.wellFormed = true →
    i.message = some (code, bay, body) → bodyOk code body = true →
    (if addressedToBay code then bay ≠ 0#8 ∧ bay ≠ 1#8 else bay ≠ 255#8) →
    exec i s = .next (s.replied code bay .badBay)

/-- A refused message changes no state but the reply (R169): whatever message draws a reply with a status of 10 (hexadecimal)
or above, the state is as it was. -/
def Obligations.RefusalsChangeNothing : Prop :=
  ∀ (i : Instr) (code bay : Byte) (body : List Byte) (s t : State) (r : Reply), s.receives = true →
    i.message = some (code, bay, body) → exec i s = .next t → t.link.reply = some r → 0x10 ≤ r.status.code →
    t = s.replied code bay r.status r.body

/-! ### Unit-level messages (R139, R152, R153, R173 to R178) -/

/-- IDENTIFY carries the part's identity, the straps, the link error count and the type codes, and changes nothing unless its
CLEAR option is set, which sets the link error count to 0 after the reply is composed. -/
def Obligations.IdentifyAnswers : Prop :=
  ∀ (s : State) (clear : Bool), s.receives = true →
    let body : List Byte :=
      [1#8, 0xA4#8, 0x01#8, 1#8, 2#8, s.link.unitAddress.setWidth 8, s.link.linkRate.setWidth 8,
        BitVec.ofNat 8 s.link.errors, BitVec.ofNat 8 (s.link.errors / 256), BitVec.ofNat 8 s.bayA.record.typeCode,
        BitVec.ofNat 8 s.bayB.record.typeCode]
    let t := s.replied 0x01 255#8 .ok body
    exec (.identify 255#8 clear) s = .next (if clear then { t with link := { t.link with errors := 0 } } else t)

/-- REPORT answers with a body of 56 bytes: the unit's own figures first, and each bay's at their offsets, as they stand
(section 11.6). It then clears every latch with its data unless PEEK is set, and changes nothing else. -/
def Obligations.ReportAnswers : Prop :=
  (∀ (s : State) (peek : Bool), s.receives = true →
    let t := s.replied 0x02 255#8 .ok s.reportBody
    exec (.report 255#8 peek) s = .next
      (if peek then t
       else { t with events := 0#5, bayA := { t.bayA with latches := {} }, bayB := { t.bayB with latches := {} } })) ∧
  ∀ (s : State) (b : BayId),
    let r := s.reportBody
    let y := s.bay b
    let base := match b with
      | .bayA => 4
      | .bayB => 30
    let at1 := fun i (n : Nat) => r[base + i]? = some (BitVec.ofNat 8 n)
    let at2 := fun i (n : Nat) => at1 i n ∧ at1 (i + 1) (n / 256)
    r.length = 56 ∧ r[0]? = some (s.events.setWidth 8) ∧
    r[1]? = some (match s.budget.supply with | .low => 0#8 | .holding => 1#8 | .good => 2#8) ∧
    r[2]? = some 0#8 ∧ r[3]? = some 0#8 ∧
    at1 0 y.record.state.code ∧ at1 1 y.record.phase.code ∧ at1 2 y.record.cause.code ∧ at1 3 y.record.lock.toNat ∧
    at1 4 y.spindle.state.code ∧ at2 5 y.spindle.reading ∧ at1 7 y.spindle.speedClass.code ∧ at1 8 y.act.state.code ∧
    at2 9 (match y.act.cylinder with | some c => c | none => 65535) ∧
    at1 11 (min 3 (y.heat.offset + y.act.downshift)) ∧ at1 12 y.heat.offset ∧ at1 13 y.act.downshift ∧
    at2 14 y.heat.estimate ∧ at1 16 y.heat.hot.toNat ∧ at1 17 (s.queue.entriesOfBay b) ∧
    at1 18 (s.queue.marksOfBay b) ∧ at1 19 y.slot.state.code ∧ at2 20 y.latches.events.toNat ∧
    at2 22 (y.latches.events.toNat / 65536) ∧
    at1 24 (match y.latches.labelCause with
      | none => 0 | some .unreadable => 1 | some .badMagic => 2 | some .badCheck => 3 | some .typeMismatch => 4
      | some .badEntry => 5) ∧
    at1 25 y.latches.counterNames.toNat

/-- A signal sets the latch of its event and no other, and a latch already set stays set (R173). The ATTENTION line is held low
while some latched event is a member of EVENT MASK: a per-bay kind covers both bays, and the unit kinds follow at bit 26; an
ordinary REPORT therefore releases it (R175). -/
def Obligations.LatchesAndAttention : Prop :=
  (∀ (s : State) (b c : BayId) (e f : BayEvent) (u v : UnitEvent),
    ((s.latch b e).latched c f = (decide (b = c ∧ e = f) || s.latched c f)) ∧
    ((s.latchUnit u).unitLatched v = (decide (u = v) || s.unitLatched v)) ∧
    (s.latch b e).unitLatched v = s.unitLatched v ∧ (s.latchUnit u).latched c f = s.latched c f) ∧
  (∀ s : State, s.attention = true ↔
    (∃ (b : BayId) (e : BayEvent), s.latched b e = true ∧ s.settings.eventMask.getLsbD e.bit = true) ∨
    ∃ u : UnitEvent, s.unitLatched u = true ∧ s.settings.eventMask.getLsbD (26 + u.bit) = true) ∧
  ∀ s t : State, s.receives = true → exec (.report 255#8 false) s = .next t → t.attention = false

/-- A fault record joins the tail of the list, and FAULT LIST is latched when the list was empty; with eight records held it
is dropped and the overflow count rises by 1, holding at 255 (R138). FAULTS returns the list, preceded by its count, and the
overflow count, and empties both (R139). (The bytes of a record are read from section 11.6 and R138: log entry 15.) -/
def Obligations.FaultListAndFaults : Prop :=
  (∀ (s : State) (r : FaultRecord),
    (s.faults.records = [] →
      s.appendFault r = { s with faults := { s.faults with records := [r] }, events := s.events ||| 16#5 }) ∧
    (s.faults.records ≠ [] → s.faults.records.length < 8 →
      s.appendFault r = { s with faults := { s.faults with records := s.faults.records ++ [r] } }) ∧
    (8 ≤ s.faults.records.length →
      s.appendFault r = { s with faults := { s.faults with overflow := min 255 (s.faults.overflow + 1) } })) ∧
  ∀ s : State, s.receives = true →
    exec (.faults 255#8) s = .next
      { s.replied 0x03 255#8 .ok
          (BitVec.ofNat 8 s.faults.records.length :: (s.faults.records.flatMap fun r => match r with
            | .writeFailed b block => [0#8, b.field, BitVec.ofNat 8 block, BitVec.ofNat 8 (block / 256)]
            | .writesDiscarded b n => [1#8, b.field, BitVec.ofNat 8 n]) ++ [BitVec.ofNat 8 s.faults.overflow])
        with faults := {} }

/-- A counter rises and holds at 65,535; an increase that takes it from below its threshold to the threshold or above latches
COUNTER THRESHOLD with its name, and no other increase latches anything; no other counter changes (R152). COUNTERS returns the
seven counters of bay A and then of bay B, and with the CLEAR option sets all to 0; the thresholds stand (R153). -/
def Obligations.CountersRiseAndAnswer : Prop :=
  (∀ (s : State) (b : BayId) (n : CounterName) (amount : Nat),
    let old := (s.bay b).counters.counts[n.index]
    let threshold := (s.bay b).counters.thresholds[n.index]
    let new := min 65535 (old + amount)
    let t := s.modCounters b fun c => { c with counts := c.counts.set n.index new }
    (old < threshold → threshold ≤ new →
      s.raise b n amount = t.modLatches b fun l =>
        { l with events := l.events ||| BitVec.twoPow 26 25, counterNames := l.counterNames ||| BitVec.twoPow 7 n.index }) ∧
    (¬ (old < threshold ∧ threshold ≤ new) → s.raise b n amount = t)) ∧
  ∀ (s : State) (clear : Bool), s.receives = true →
    let t := s.replied 0x06 255#8 .ok
      ((s.bayA.counters.counts.toList ++ s.bayB.counters.counts.toList).flatMap fun n =>
        [BitVec.ofNat 8 n, BitVec.ofNat 8 (n / 256)])
    let zero := Vector.replicate 7 0
    exec (.counters 255#8 clear) s = .next
      (if clear then
        { t with
          bayA := { t.bayA with counters := { t.bayA.counters with counts := zero } }
          bayB := { t.bayB with counters := { t.bayB.counters with counts := zero } } }
       else t)

/-- SET of a setting that belongs to no bay: a numeric value is clamped to its range, a value outside the set of an enumerated
item is refused BAD VALUE, and the three heat settings must be in strict order once the value is clamped (R176, R96). The
reply carries the item and the value stored; a refusal echoes the item and stores nothing. (The value of an OK reply in four
bytes is read from the layout of SET: log entry 15.) -/
def Obligations.SetStoresASetting : Prop :=
  ∀ (s : State) (value : BitVec 32), s.receives = true →
    let v := value.toNat
    let c := s.settings
    let heat := max 1024 (min 65000 v)
    let set := fun (item : Byte) => exec (.set 255#8 item 255#8 value) s
    let stored := fun (item : Byte) (d : Settings) (n : Nat) =>
      set item = .next ({ s with settings := d }.replied 0x04 255#8 .ok
        [item, BitVec.ofNat 8 n, BitVec.ofNat 8 (n / 256), BitVec.ofNat 8 (n / 65536), BitVec.ofNat 8 (n / 16777216)])
    let refused := fun (item : Byte) => set item = .next (s.replied 0x04 255#8 .badValue [item])
    (if v ≤ 1 then stored 1 { c with spinAuto := v = 1 } v else refused 1) ∧
    stored 2 { c with attemptsLimit := max 1 (min 8 v) } (max 1 (min 8 v)) ∧
    (if v ∈ [3, 5, 9, 17] then stored 3 { c with edgeCount := v } v else refused 3) ∧
    (if v ∈ [250, 500, 1000] then stored 4 { c with measurePeriod := v } v else refused 4) ∧
    stored 5 { c with speedTolerance := max 4 (min 64 v) } (max 4 (min 64 v)) ∧
    (if v ≤ 1 then stored 6 { c with slowMark := v = 1 } v else refused 6) ∧
    stored 8 { c with downshiftThreshold := max 1 (min 8 v) } (max 1 (min 8 v)) ∧
    stored 9 { c with upshiftRun := max 16 (min 1024 v) } (max 16 (min 1024 v)) ∧
    (if c.heatRelease < heat ∧ heat < c.heatTrip then stored 10 { c with heatTop := heat } heat else refused 10) ∧
    (if heat < c.heatTop ∧ c.heatTop < c.heatTrip then stored 11 { c with heatRelease := heat } heat else refused 11) ∧
    (if c.heatRelease < c.heatTop ∧ c.heatTop < heat then stored 12 { c with heatTrip := heat } heat else refused 12) ∧
    stored 13 { c with adjustDelay := max 1 (min 4 v) } (max 1 (min 4 v)) ∧
    (if v < 2 ^ 31 then stored 14 { c with eventMask := value.setWidth 31 } v else refused 14)

/-- SET of a threshold stores it, clamped to 1..65,535, for the bay it names or, with bay 255, for both (R152, R176); another
bay, a bay for an item that has none, an unknown item and a read-only item are refused BAD VALUE. (The value of an OK reply in
four bytes: log entry 15.) -/
def Obligations.SetThresholdAndRefusals : Prop :=
  ∀ (s : State) (item itemBay : Byte) (value : BitVec 32), s.receives = true →
    let n := max 1 (min 65535 value.toNat)
    let set := exec (.set 255#8 item itemBay value) s
    let body : List Byte := [item, BitVec.ofNat 8 n, BitVec.ofNat 8 (n / 256), 0#8, 0#8]
    (∀ name : CounterName, item.toNat = 20 + name.index.val →
      let store := fun (y : Bay) =>
        { y with counters := { y.counters with thresholds := y.counters.thresholds.set name.index n } }
      (∀ b : BayId, itemBay = b.field → set = .next ((s.modBay b store).replied 0x04 255#8 .ok body)) ∧
      (itemBay = 255#8 → set = .next (((s.modBay .bayA store).modBay .bayB store).replied 0x04 255#8 .ok body)) ∧
      (1 < itemBay.toNat → itemBay ≠ 255#8 → set = .next (s.replied 0x04 255#8 .badValue [item]))) ∧
    ((item.toNat = 0 ∨ (14 < item.toNat ∧ item.toNat < 20) ∨ 26 < item.toNat ∨ (item.toNat ≤ 14 ∧ itemBay ≠ 255#8)) →
      set = .next (s.replied 0x04 255#8 .badValue [item]))

/-- GET returns the item, the bay and the value: a setting, the effective and the pending capacity, a threshold of the bay it
names, or a read-only record; anything else is refused BAD VALUE. It changes nothing (R176, R73, R122). WRITE QUEUE carries the
number of items, then each in list order: a write entry as 0, bay, block, state, attempts and arrival number, a mark as 1, bay
and kind (section 11.6). LAST PLAN carries the fields of R72, or the outcome NONE alone with no plan made. (The bytes of a plan
record's coast-or-extra field and of a direction are the model's choice: log entry 14.) -/
def Obligations.GetAnswers : Prop :=
  ∀ (s : State) (item itemBay : Byte), s.receives = true →
    let c := s.settings
    let get := exec (.get 255#8 item itemBay) s
    let answer := fun (body : List Byte) => get = .next (s.replied 0x05 255#8 .ok (item :: itemBay :: body))
    let number := fun (n : Nat) =>
      answer [BitVec.ofNat 8 n, BitVec.ofNat 8 (n / 256), BitVec.ofNat 8 (n / 65536), BitVec.ofNat 8 (n / 16777216)]
    let lo := fun (n : Nat) => (BitVec.ofNat 8 n : Byte)
    let hi := fun (n : Nat) => (BitVec.ofNat 8 (n / 256) : Byte)
    let plan := fun (b : BayId) => match (s.bay b).act.plan with
      | none => [0#8]
      | some p =>
        [lo p.targetCylinder, hi p.targetCylinder, lo p.targetHead, lo p.distance, hi p.distance,
          (match p.direction with | .up => 0#8 | .down => 1#8 | .none => 2#8), lo p.requested, lo p.level, lo p.ramp] ++
        (match p.coastOrExtra with | .absent => [] | .coast n => [0#8, lo n] | .extra n => [1#8, lo n]) ++
        [lo p.moving, lo p.settle, lo p.timeout, hi p.timeout, lo p.draw, lo p.heatAdd,
          (match p.outcome with
            | .inForce => 1#8 | .completed => 2#8 | .timedOut => 3#8 | .servoLost => 4#8 | .abandoned => 5#8)]
    let record := fun (i : Item) => match i with
      | .entry e => [0#8, e.bay.field, lo e.block, hi e.block, if e.writing then 1#8 else 0#8, lo e.attempts, lo e.arrival,
          hi e.arrival]
      | .mark b k => [1#8, b.field, match k with | .order => 0#8 | .flush => 1#8]
    (itemBay = 255#8 →
      (item = 1#8 → number c.spinAuto.toNat) ∧ (item = 2#8 → number c.attemptsLimit) ∧
      (item = 3#8 → number c.edgeCount) ∧ (item = 4#8 → number c.measurePeriod) ∧
      (item = 5#8 → number c.speedTolerance) ∧ (item = 6#8 → number c.slowMark.toNat) ∧
      (item = 7#8 → answer [BitVec.ofNat 8 s.budget.effective, BitVec.ofNat 8 (s.budget.pending.getD 0)]) ∧
      (item = 8#8 → number c.downshiftThreshold) ∧ (item = 9#8 → number c.upshiftRun) ∧
      (item = 10#8 → number c.heatTop) ∧ (item = 11#8 → number c.heatRelease) ∧ (item = 12#8 → number c.heatTrip) ∧
      (item = 13#8 → number c.adjustDelay) ∧ (item = 14#8 → number c.eventMask.toNat) ∧
      (item = 40#8 → answer (plan .bayA)) ∧ (item = 41#8 → answer (plan .bayB)) ∧
      (item = 42#8 → answer (lo s.queue.items.length :: s.queue.items.flatMap record))) ∧
    (∀ (b : BayId) (name : CounterName), itemBay = b.field → item.toNat = 20 + name.index.val →
      number (s.bay b).counters.thresholds[name.index]) ∧
    ((item.toNat = 0 ∨ (14 < item.toNat ∧ item.toNat < 20) ∨ (26 < item.toNat ∧ item.toNat < 40) ∨ 42 < item.toNat ∨
        (item.toNat < 20 ∧ itemBay ≠ 255#8) ∨ (26 < item.toNat ∧ itemBay ≠ 255#8) ∨
        (20 ≤ item.toNat ∧ item.toNat ≤ 26 ∧ 1 < itemBay.toNat)) →
      get = .next (s.replied 0x05 255#8 .badValue))

/-- RESET is answered OK, the soft reset then waiting for the end of the reply; without FORCE it is refused BUSY while the
Write Queue holds a write entry of either bay (R178). Until the soft reset is taken, a frame or a character is lost and nothing
is counted (R167; which commands fall in that time is the model's choice, log entry 9). -/
def Obligations.ResetIsJudged : Prop :=
  (∀ (s : State) (force : Bool), s.receives = true →
    ((force = true ∨ entriesOf s.queue.items = []) →
      exec (.reset 255#8 force) s = .next
        (let t := s.replied 0x07 255#8 .ok
         { t with link := { t.link with resetPending := some force } })) ∧
    (force = false → entriesOf s.queue.items ≠ [] →
      exec (.reset 255#8 force) s = .next (s.replied 0x07 255#8 .busy))) ∧
  ∀ (i : Instr) (s : State), s.link.resetPending ≠ none →
    (i.message ≠ none ∨ (∃ low, i = .addressCharacter low) ∨ ∃ chars, i = .frameDiscard chars) → exec i s = .next s

/-! ### The bay: insertion, START and STOP, the lock (R7, R10, R154, R164) -/

/-- START in INSERTED or PARKED has the bay spin up, or halts it while SUPPLY GOOD is low; further on it is OK with no effect.
STOP in READY or RAW has the bay enter PARKING, which waits for the drain while the queue or the slot has work of the bay; in
PARKING and PARKED it is OK with no effect. In every other state both are refused NOT READY. (A READY or RAW bay's spindle is in
RUN, or on its way back to it, so that PARKING has a stop to wait for.) -/
def Obligations.StartAndStop : Prop :=
  ∀ (s : State) (b : BayId), s.receives = true →
    let y := s.bay b
    let start := exec (.start b.field) s
    let stop := exec (.stop b.field) s
    let fresh := s.modRecord b fun r => { r with attempts := 0 }
    (y.record.state ∈ [BayState.inserted, .parked] → s.budget.supply ≠ .low → y.spindle.state = .off →
      start = .next ((((fresh.modRecord b fun r => { r with state := .spinning, trips := 0, sweepOut := false }).modSpindle b
        fun x => { x with state := .waiting, nominal := nominalSpeed y.record.typeCode }).request b .spinUp).replied
          0x10 b.field .ok)) ∧
    (y.record.state ∈ [BayState.inserted, .parked] → s.budget.supply ≠ .low →
      ∃ t, start = .next t ∧ (t.bay b).record.state = .spinning ∧ (t.bay b).record.attempts = 0 ∧
        (t.bay b).record.standing = y.record.standing) ∧
    (y.record.state ∈ [BayState.inserted, .parked] → s.budget.supply = .low →
      start = .next ((fresh.modRecord b fun r => { r with state := .halted, phase := .none }).replied 0x10 b.field .ok)) ∧
    (y.record.state ∈ [BayState.spinning, .loading, .mounting, .ready, .raw, .cleaning] →
      start = .next (s.replied 0x10 b.field .ok)) ∧
    (y.record.state ∈ [BayState.empty, .parking, .ejecting, .halted, .fault] →
      start = .next (s.replied 0x10 b.field .notReady)) ∧
    (y.record.state ∈ [BayState.ready, .raw] →
      s.queue.drained b = false ∨ y.slot.mediaWork = true →
      stop = .next ((s.modRecord b fun r => { r with state := .parking, parkStep := .drain }).replied 0x11 b.field .ok)) ∧
    (y.record.state ∈ [BayState.ready, .raw] → y.spindle.state ≠ .off → y.spindle.state ≠ .waiting →
      ∃ t, stop = .next t ∧ (t.bay b).record.state = .parking ∧ t.queue = s.queue ∧ (t.bay b).slot = y.slot ∧
        (t.bay b).map = y.map ∧ t.bay b.other = s.bay b.other ∧
        t.link.reply = some { status := .ok, code := 0x11, bay := b.field, body := [] }) ∧
    (y.record.state ∈ [BayState.parking, .parked] → stop = .next (s.replied 0x11 b.field .ok)) ∧
    (y.record.state ∈ [BayState.empty, .inserted, .spinning, .loading, .mounting, .cleaning, .ejecting, .halted, .fault] →
      stop = .next (s.replied 0x11 b.field .notReady))

/-- LOCK and UNLOCK are taken when the bay's type code is 1 or 2, whatever the bay state, and change the lock flag alone; with
another type code they are refused NOT READY. -/
def Obligations.LockAndUnlock : Prop :=
  ∀ (s : State) (b : BayId), s.receives = true →
    let code := (s.bay b).record.typeCode
    ((code = 1 ∨ code = 2) →
      exec (.lock b.field) s = .next ((s.modRecord b fun r => { r with lock := true }).replied 0x12 b.field .ok) ∧
      exec (.unlock b.field) s = .next ((s.modRecord b fun r => { r with lock := false }).replied 0x13 b.field .ok)) ∧
    (code ≠ 1 → code ≠ 2 →
      exec (.lock b.field) s = .next (s.replied 0x12 b.field .notReady) ∧
      exec (.unlock b.field) s = .next (s.replied 0x13 b.field .notReady))

/-- A rise of the present sense starts the insertion debounce of an EMPTY bay, and a fall ends it (R7). A fall in AWAIT REMOVAL
is a removal: EJECTED is latched, an EJECT in the slot completes with DONE, and the bay is EMPTY (R163). A fall anywhere else is
a cartridge loss (R164): CARTRIDGE LOST is latched, the queue's items of the bay leave, a request in progress ends with REMOVED,
the media work is dropped, heads and spindle are sent to rest, a solenoid request or pulse is ended, and the bay is in FAULT
with cause CARTRIDGE LOST, or EMPTY at once where its spindle was at rest. The discard raises LOST WRITES by the number of the
write entries that leave, and if there is one appends a WRITES DISCARDED record with their number to the fault list, or with
eight records held raises the overflow count, and latches WRITES DISCARDED (R137, R138). -/
def Obligations.PresenceRisesAndFalls : Prop :=
  ∀ (s : State) (b : BayId),
    let y := s.bay b
    let seen := fun v => s.modPins b fun p => { p with present := v }
    let lost := ((entriesOf s.queue.items).filter fun e => e.bay = b).length
    let risen := min 65535 (y.counters.counts[CounterName.lostWrites.index] + lost)
    let fall := exec (.presentSenseFall b) s
    exec (.presentSenseRise b) s = .next
      (if y.record.state = .empty then
        (seen true).modRecord b fun r => { r with debouncing := true, debounceAt := s.clock }
       else seen true) ∧
    (y.record.state = .empty → fall = .next ((seen false).modRecord b fun r => { r with debouncing := false })) ∧
    (y.record.state = .ejecting → y.record.phase = .awaitRemoval →
      fall = .next (((if y.slot.state = .inProgress ∧ y.slot.request = some .eject then
          ((seen false).modSlot b fun x => { x with state := .done, result := .done, next := 1 }).latch b .resultReady
        else seen false).latch b .ejected).modRecord b fun _ => {})) ∧
    (y.record.state ≠ .empty → ¬ (y.record.state = .ejecting ∧ y.record.phase = .awaitRemoval) →
      ∃ t, fall = .next t ∧ t.latched b .cartridgeLost = true ∧ (t.bay b).pins.present = false ∧
        t.bay b.other = s.bay b.other ∧ (t.bay b).map = y.map ∧ t.budget = s.budget ∧
        t.queue = { s.queue with items := s.queue.items.filter fun i => i.bay ≠ b } ∧
        (lost = 0 → (t.bay b).counters = y.counters ∧ t.faults = s.faults ∧
          t.latched b .writesDiscarded = s.latched b .writesDiscarded) ∧
        (0 < lost →
          (t.bay b).counters = { y.counters with counts := y.counters.counts.set CounterName.lostWrites.index risen } ∧
          t.latched b .writesDiscarded = true ∧ (s.faults.records = [] → t.unitLatched .faultList = true) ∧
          t.faults = (if s.faults.records.length < 8 then
              { s.faults with records := s.faults.records ++ [.writesDiscarded b lost] }
            else { s.faults with overflow := min 255 (s.faults.overflow + 1) })) ∧
        (t.bay b).media.op = none ∧ (t.bay b).media.custody = none ∧
        (t.bay b).slot = (if y.slot.state = .inProgress then
          { y.slot with state := .done, result := .removed, staged := 0, next := 1 } else y.slot) ∧
        (t.bay b).act.state = (if y.act.state = .unloaded then .unloaded else .unloading) ∧
        (y.record.pulsing = true → Signal.release b .solenoid ∈ t.signals) ∧
        (y.record.state = .ejecting → y.record.phase = .release → y.record.pulsing = false →
          Signal.withdraw b .solenoid ∈ t.signals) ∧
        (if y.spindle.state = .off ∨ y.spindle.state = .waiting then
          (t.bay b).record = {} ∧ (t.bay b).spindle.state = .off
         else
          (t.bay b).record.state = .fault ∧ (t.bay b).record.cause = .cartridgeLost ∧ (t.bay b).record.eject = none ∧
          (t.bay b).record.pulsing = false ∧ (t.bay b).spindle.state = .stopping))

/-- An insertion taken samples the type code and sets the bay record to its insertion values; the seek counters start at 0 and
the remap table is empty, while the heat is left as it stands. A code-0 shell is released at once with UNKNOWN CARTRIDGE
latched. Any other latches INSERTED and waits for START (SPIN AUTO off), or spins up, a cleaning cartridge always, or is HALTED
while SUPPLY GOOD is low. Out of a debounce nothing is taken (log entry 7); the clock is brought to the end of the debounce (log
entry 4). -/
def Obligations.InsertionIsTaken : Prop :=
  ∀ (s : State) (b : BayId) (sense0 sense1 : Bool),
    let y := s.bay b
    let insert := exec (.insertion b sense0 sense1) s
    let code := sense0.toNat + 2 * sense1.toNat
    let taken := fun (r : BayRecord) (x : Spindle) =>
      ({ s with clock := max s.clock (y.record.debounceAt + 200000) } : State).withBay b
        { y with
          pins := { y.pins with typeSense0 := sense0, typeSense1 := sense1 }
          record := { r with typeCode := code }
          spindle := x
          act := { y.act with failures := 0, upshiftRun := 0, downshift := 0 }
          map := {} }
    ((y.record.state ≠ .empty ∨ y.record.debouncing = false ∨ y.pins.present = false) → insert = .next s) ∧
    (y.record.state = .empty → y.record.debouncing = true → y.pins.present = true →
      (code = 0 →
        insert = .next (((taken
          { state := .ejecting, phase := .release, eject := some { origin := .device, pulse := 1, saveMarker := false } }
          y.spindle).latch b .unknownCartridge).request b .solenoid)) ∧
      (code = 1 ∨ code = 2 → s.settings.spinAuto = false →
        insert = .next ((taken { state := .inserted } y.spindle).latch b .inserted)) ∧
      (((code = 1 ∨ code = 2) ∧ s.settings.spinAuto = true) ∨ code = 3 →
        (s.budget.supply = .low → insert = .next ((taken { state := .halted } y.spindle).latch b .inserted)) ∧
        (s.budget.supply ≠ .low → y.spindle.state = .off →
          insert = .next (((taken { state := if code = 3 then .cleaning else .spinning }
            { y.spindle with state := .waiting, nominal := if code = 3 then 1200 else 3600 }).latch b .inserted).request b
              .spinUp))))

/-! ### Ejects (R155 to R157, R162, R163) -/

/-- The eject button and the EJECT message are judged in the order of their rules. A press has no effect, or latches EJECT
REFUSED, or starts an eject of origin BUTTON. An EJECT is refused, or takes the slot, is answered ACCEPTED and starts an eject
of origin MESSAGE; the lock is not consulted. -/
def Obligations.EjectsAreJudged : Prop :=
  ∀ (s : State) (b : BayId),
    let y := s.bay b
    let r := y.record
    let press := exec (.ejectButtonPress b) s
    let eject := exec (.eject b.field) s
    let refused := fun st => eject = .next (s.replied 0x30 b.field st)
    let noCartridge := r.state = .empty ∨ (r.state = .fault ∧ r.cause = .cartridgeLost) ∨
      (r.state = .parking ∧ r.resetPark = true)
    let underWay := r.state = .ejecting ∨ (r.state = .parking ∧ r.eject ≠ none)
    let stuck := r.state = .fault ∧ r.cause = .unloadFault
    (noCartridge ∨ underWay → press = .next s) ∧
    (¬ noCartridge → ¬ underWay → stuck ∨ r.lock = true → press = .next (s.latch b .ejectRefused)) ∧
    (¬ noCartridge → ¬ underWay → ¬ stuck → r.lock = false → press = .next (s.startEject b .button)) ∧
    (s.receives = true →
      (noCartridge → refused .notReady) ∧
      (¬ noCartridge → underWay → refused .ejecting) ∧
      (¬ noCartridge → ¬ underWay → stuck → refused .fault) ∧
      (¬ noCartridge → ¬ underWay → ¬ stuck → y.slot.state ≠ .free → refused .busy) ∧
      (¬ noCartridge → ¬ underWay → ¬ stuck → y.slot.state = .free →
        eject = .next ((((s.modSlot b fun _ => { state := .inProgress, request := some .eject }).modMedia b
          fun m => { m with slotFailures := 0 }).replied 0x30 b.field .accepted).startEject b .message)))

/-- Where an eject enters its sequence (R157): DRAIN from READY and RAW while the bay has items, media work or an operation in
flight, and once it has none with a dirty table, which it then saves; RELEASE from INSERTED and PARKED and from a spindle
WAITING; SPINDOWN from a spindle ACCEL or STOPPING and from HALTED; UNLOAD from LOADING, MOUNTING and CLEANING with the heads
off their stop; and from FAULT, whose cause is set to none, UNLOAD, SPINDOWN or RELEASE, by where heads and spindle stand. In
PARKING the eject is pending. The eject record names the origin, pulse 1, and the save marker off but for the save. (That
DRAIN waits for an operation in flight: log entry 16.) -/
def Obligations.EjectEntryPhases : Prop :=
  ∀ (s : State) (b : BayId) (o : EjectOrigin),
    let y := s.bay b
    let t := s.startEject b o
    let r := (t.bay b).record
    let clear : EjectRecord := { origin := o, pulse := 1, saveMarker := false }
    let enters := fun (p : EjectPhase) => r.state = .ejecting ∧ r.phase = p ∧ r.eject = some clear
    let idle := s.queue.drained b = true ∧ y.slot.mediaWork = false ∧ y.media.op = none
    (y.record.state = .ready ∨ y.record.state = .raw →
      (¬ idle → enters .drain ∧ t = s.modRecord b fun x =>
        { x with state := .ejecting, phase := .drain, eject := some clear, resetPark := false }) ∧
      (idle → y.map.dirty = true → r.state = .ejecting ∧ r.phase = .drain ∧ r.eject = some { clear with saveMarker := true } ∧
        (t.bay b).media = { y.media with custody := some .labelSave, saveFailures := 0 }) ∧
      (idle → y.map.dirty = false → y.act.state ≠ .unloaded → enters .unload ∧ (t.bay b).act.state = .unloading)) ∧
    (y.record.state = .parking → t = s.modRecord b fun x => { x with eject := some clear, resetPark := false }) ∧
    (y.record.state = .inserted ∨ y.record.state = .parked → enters .release ∧ t.signals = s.signals ++ [.request b .solenoid 0]) ∧
    (y.record.state = .spinning ∨ y.record.state = .cleaning →
      (y.spindle.state = .waiting → enters .release ∧ (t.bay b).spindle.state = .off ∧
        t.signals = s.signals ++ [.withdraw b .spinUp, .request b .solenoid 0]) ∧
      (y.spindle.state = .accel ∨ y.spindle.state = .stopping → enters .spindown ∧ (t.bay b).spindle.state = .stopping)) ∧
    (y.record.state = .loading ∨ y.record.state = .mounting → y.act.state ≠ .unloaded →
      enters .unload ∧ (t.bay b).act.state = .unloading ∧ (t.bay b).media.op = none ∧ (t.bay b).media.custody = none ∧
      r.standing = y.record.standing) ∧
    (y.record.state = .cleaning → y.spindle.state ∈ [SpindleState.run, .recoverWait, .recover] → y.act.state ≠ .unloaded →
      enters .unload ∧ (t.bay b).act.state = .unloading ∧ t.latched b .cleanDone = s.latched b .cleanDone) ∧
    (y.record.state = .halted →
      (y.spindle.state = .stopping → enters .spindown ∧ (t.bay b).spindle.state = .stopping) ∧
      (y.spindle.state = .off → enters .release)) ∧
    (y.record.state = .fault →
      r.cause = .none ∧
      (y.act.state ≠ .unloaded → enters .unload ∧ (t.bay b).act.state = .unloading) ∧
      (y.act.state = .unloaded → y.spindle.state = .stopping → enters .spindown) ∧
      (y.act.state = .unloaded → y.spindle.state = .off → enters .release))

/-- The release of a cartridge (R162, R163). On the grant the solenoid is driven if the heads are unloaded, the spindle is off
and the bay has no item in the queue; otherwise the claim is released and the bay goes back. The end of the pulse releases the
claim and starts the 2 s of AWAIT REMOVAL, a cartridge already gone being removed. The end of the 2 s with the cartridge still
there gives a second pulse, and after that FAULT with cause EJECT JAM. (The level of the sense at the end of a pulse, and
where a failed check goes back to: log entries 20, 21; the clock at the ends of the pulse and of the 2 s: log entry 4.) -/
def Obligations.ReleaseSequence : Prop :=
  ∀ (s : State) (b : BayId),
    let y := s.bay b
    let removed := fun (t : State) => ((if y.slot.state = .inProgress ∧ y.slot.request = some .eject then
          (t.modSlot b fun x => { x with state := .done, result := .done, next := 1 }).latch b .resultReady
        else t).latch b .ejected).modRecord b fun _ => {}
    (∀ level early late, s.grantUnderWay b .solenoid level early late → y.record.state = .ejecting →
      y.record.phase = .release → y.record.pulsing = false →
      let grant := exec (.solenoidGrant b) s
      (y.act.state = .unloaded → y.spindle.state = .off → s.queue.drained b = true →
        grant = .next ({ s with signals := early ++ late }.modRecord b fun r => { r with pulsing := true, pulseAt := s.clock })) ∧
      (y.act.state ≠ .unloaded → ∃ t, grant = .next t ∧ (t.bay b).record.phase = .unload ∧
        (t.bay b).record.pulsing = false ∧ Signal.release b .solenoid ∈ t.signals) ∧
      (y.act.state = .unloaded → y.spindle.state = .stopping → ∃ t, grant = .next t ∧ (t.bay b).record.phase = .spindown ∧
        (t.bay b).record.pulsing = false ∧ Signal.release b .solenoid ∈ t.signals)) ∧
    (y.record.state = .ejecting → y.record.phase = .release → y.record.pulsing = true →
      let ended := max s.clock (y.record.pulseAt + 150000)
      let t := ({ s with clock := ended, signals := s.signals ++ [.release b .solenoid] } : State)
      exec (.solenoidPulseEnd b true) s = .next ((t.modPins b fun p => { p with present := true }).modRecord b
        fun r => { r with phase := .awaitRemoval, pulsing := false, removalAt := ended }) ∧
      exec (.solenoidPulseEnd b false) s = .next (removed (t.modPins b fun p => { p with present := false }))) ∧
    (y.record.state = .ejecting → y.record.phase = .awaitRemoval →
      let t := ({ s with clock := max s.clock (y.record.removalAt + 2000000) } : State)
      let timeout := exec (.removalTimeout b) s
      (y.pins.present = false → timeout = .next (removed t)) ∧
      (y.pins.present = true → ∀ e, y.record.eject = some e → e.pulse = 1 →
        timeout = .next ((t.modRecord b fun r =>
          { r with phase := .release, pulsing := false, eject := some { e with pulse := 2 } }).request b .solenoid)) ∧
      (y.pins.present = true → ∀ e, y.record.eject = some e → e.pulse = 2 →
        ∃ u, timeout = .next u ∧ (u.bay b).record.state = .fault ∧ (u.bay b).record.cause = .ejectJam ∧
          (u.bay b).record.eject = none ∧ u.latched b .ejectJam = true ∧ u.bay b.other = s.bay b.other ∧
          (u.bay b).slot = (if y.slot.state = .inProgress then
            { y.slot with state := .done, result := .bayFault, staged := 0, next := 1 } else y.slot)))

/-! ### The +12 V supply (R32 to R34, R15, R16, R58, R91) -/

/-- A rise of SUPPLY GOOD in LOW starts a hold that is not the power-on hold. At the end of a hold the budget is GOOD, SUPPLY
RESTORED is latched unless the hold was the power-on hold, the HALTED bays leave HALTED, and the head of the wait list is
examined; the other bays stand. (That the clock is brought to the end of the hold is log entry 4, that a rise out of LOW and a
hold's end out of HOLDING change nothing log entry 7, and the attempt count 0 of a cleaning cartridge log entry 31.) -/
def Obligations.SupplyRisesAndHoldEnds : Prop :=
  ∀ s : State,
    (s.budget.supply = .low → exec .supplyGoodRises s = .next
      { s with supplyGood := true
               budget := { s.budget with supply := .holding, powerOnHold := false, holdTimer := some s.clock } }) ∧
    (s.budget.supply ≠ .low → exec .supplyGoodRises s = .next s) ∧
    (s.budget.supply ≠ .holding → exec .holdEnd s = .next s) ∧
    (s.budget.supply = .holding →
      ∃ t, exec .holdEnd s = .next t ∧
        t.budget = ({ s.budget with supply := .good, powerOnHold := false, holdTimer := none } : Budget).examine.1 ∧
        t.events = (if s.budget.powerOnHold then s.events else s.events ||| 4#5) ∧ t.queue = s.queue ∧
        (∀ start, s.budget.holdTimer = some start → t.clock = max s.clock (start + 2000000)) ∧
        ∀ b : BayId,
          let r := (s.bay b).record
          let x := (s.bay b).spindle
          let next := (t.bay b).record
          (r.state ≠ .halted → t.bay b = s.bay b) ∧
          (r.state = .halted → r.phase ≠ .spindown →
            next.state = (if r.typeCode = 3 then .cleaning else .spinning) ∧ next.attempts = 0 ∧ next.trips = 0 ∧
            next.lock = r.lock ∧ next.typeCode = r.typeCode ∧ (t.bay b).map = (s.bay b).map ∧
            (x.state = .off → (t.bay b).spindle.state = .waiting ∧ Signal.request b .spinUp 0 ∈ t.signals) ∧
            (x.state = .stopping → (t.bay b).spindle = { x with pendingSpinUp := true, nominal := nominalSpeed r.typeCode })) ∧
          (r.state = .halted → r.phase = .spindown → x.state = .stopping →
            next = { r with state := .ejecting } ∧ (t.bay b).spindle.state = .stopping) ∧
          (r.state = .halted → r.phase = .spindown → x.state = .off →
            next = { r with state := .ejecting, phase := .release, pulsing := false } ∧
            Signal.request b .solenoid 0 ∈ t.signals))

/-- When SUPPLY GOOD falls, every claim is voided and every request ended, a pending capacity is effective, and SUPPLY LOSS is
latched. The heads of both bays are off by the hardware retract, and every spindle but one that is OFF brakes. A bay that
spins, loads, mounts, works, cleans or parks, or ejects at DRAIN, UNLOAD or SPINDOWN, is HALTED: its items leave the queue and
its request ends with SUPPLY LOSS. Type code, lock, media standing and remap table are kept. (The retract-stop sense as last
seen, and the count of firings: log entry 22.) Each retract draws 3 units of the reserve, outside the budget, until the heads
are seen on the stop (R21, R91; how long: log entry 42). -/
def Obligations.SupplyLossHalts : Prop :=
  ∀ s : State, s.budget.supply ≠ .low →
    let halts := fun (r : BayRecord) =>
      r.state ∈ [BayState.spinning, .loading, .mounting, .ready, .raw, .cleaning, .parking] ∨
        (r.state = .ejecting ∧ r.phase ∈ [EjectPhase.drain, .unload, .spindown])
    ∃ t, exec .supplyLoss s = .next t ∧
      t.budget = { effective := s.budget.pending.getD s.budget.effective } ∧ t.supplyGood = false ∧
      t.unitLatched .supplyLoss = true ∧ t.queue.slots = s.queue.slots ∧
      t.reserveDraw = (if s.bayA.pins.retractStop then 0 else 3) + (if s.bayB.pins.retractStop then 0 else 3) ∧
      t.queue.items = s.queue.items.filter (fun i => decide (¬ halts (s.bay i.bay).record)) ∧
      ∀ b : BayId,
        let y := s.bay b
        let z := t.bay b
        z.act.state = .unloaded ∧ z.act.cylinder = none ∧ z.act.seek = none ∧ z.act.loadAttempt = none ∧
        z.act.unloadFailed = false ∧ z.act.failures = y.act.failures ∧ z.act.downshift = y.act.downshift ∧
        z.act.upshiftRun = y.act.upshiftRun ∧
        z.pins = (if y.act.state = .unloaded ∧ y.act.unloadFailed = false then y.pins
          else { y.pins with retractFired := y.pins.retractFired + 1 }) ∧
        z.spindle.state = (if y.spindle.state = .off then .off else .stopping) ∧ z.spindle.attemptEnd = false ∧
        z.spindle.pendingSpinUp = false ∧ z.map = y.map ∧ z.heat = y.heat ∧ z.media.op = none ∧
        z.record.typeCode = y.record.typeCode ∧ z.record.lock = y.record.lock ∧ z.record.standing = y.record.standing ∧
        (halts y.record → z.record.state = .halted ∧
          z.record.phase = (if y.record.state = .ejecting then .spindown else .none) ∧
          z.record.eject = (if y.record.state = .ejecting then y.record.eject else none) ∧
          z.slot = (if y.slot.state = .inProgress then
            { y.slot with state := .done, result := .supplyLoss, staged := 0, next := 1 } else y.slot)) ∧
        (¬ halts y.record → z.slot = y.slot ∧
          (y.record.phase ≠ .release → z.record = y.record) ∧
          (y.record.state = .ejecting → y.record.phase = .release → z.record = { y.record with pulsing := false } ∧
            Signal.request b .solenoid 0 ∈ t.signals))

/-! ### The Supply Budget (R22 to R31) -/

/-- A request that reaches the budget (R25, R28, R29, R35). Out of GOOD it joins the tail of the wait list. In GOOD with the
list empty it is granted at once if its draw fits the headroom, a seek at the lowest-numbered level from its E to 3 whose draw
fits, and joins the list otherwise. Behind a waiting spin-up or recovery a seek is fitted against the headroom less 28; any
other request joins the list. (The list holds no other request of the bay, and the owner no claim: R22, R26.) A request on its
way is a notice (log entry 3). -/
def Obligations.BudgetTakesRequests : Prop :=
  ∀ (s : State) (b : BayId) (k : RequestKind) (level : Nat) (early late : List Signal),
    s.nextNotice b early (.request b k level) late →
    (∀ q ∈ s.budget.waitList, q.bay ≠ b) → (∀ c ∈ s.budget.claims, ¬ (c.bay = b ∧ c.consumer = k.consumer)) →
    let u := s.budget
    let outcome := exec (.budgetRequest b k) s
    let headroom : Int := (u.pending.getD u.effective : Nat) - (u.claims.map Claim.draw).sum
    let draw : Nat := match k with
      | .spinUp | .recover => 28
      | .load | .recalibrate => 3
      | .solenoid => 8
      | .seek => 0
    let seekDraw : Nat → Nat := fun l => [12, 9, 6, 3].getD l 0
    let joins := outcome = .next
      { s with signals := early ++ late, budget := { u with waitList := u.waitList ++ [⟨b, k, level⟩] } }
    let granted := fun (l d : Nat) => outcome = .next
      { s with signals := early ++ late ++ [.grant b k l], budget := { u with claims := u.claims ++ [⟨b, k.consumer, d⟩] } }
    let fitted := fun (h : Int) =>
      (∀ l, level ≤ l → l ≤ 3 → (seekDraw l : Int) ≤ h → (∀ m, level ≤ m → m < l → h < (seekDraw m : Int)) →
        granted l (seekDraw l)) ∧
      ((∀ l, level ≤ l → l ≤ 3 → h < (seekDraw l : Int)) → joins)
    (u.supply ≠ .good → joins) ∧
    (u.supply = .good → u.waitList = [] → k ≠ .seek → (draw ≤ headroom → granted 0 draw) ∧ (headroom < draw → joins)) ∧
    (u.supply = .good → u.waitList = [] → k = .seek → fitted headroom) ∧
    (∀ q rest, u.supply = .good → u.waitList = q :: rest →
      (k = .seek → q.kind = .spinUp ∨ q.kind = .recover → fitted (headroom - 28)) ∧
      (¬ (k = .seek ∧ (q.kind = .spinUp ∨ q.kind = .recover)) → joins))

/-- The examination of the wait list (R27). Out of GOOD, and with nothing waiting, nothing is granted. In GOOD the head is
granted if it fits the headroom, a seek at the lowest-numbered level from its E to 3 whose draw fits (R29), any other request
at its draw (R20); it leaves the list, its claim joins the others with that draw (R22), and the rest is examined in the headroom
left. A head that does not fit stays with all behind it. So the requests granted are the first n of the list, in order, the rest
stay in order, and the claims afterwards are those before it and that of each grant. (No owner waits that holds the claim it
asks for, and no two requests of one bay: R22, R26.) -/
def Obligations.ExaminationGrantsFromTheHead : Prop :=
  ∀ u : Budget,
    let headroom : Int := (u.pending.getD u.effective : Nat) - (u.claims.map Claim.draw).sum
    let seekDraw : Nat → Nat := fun l => [12, 9, 6, 3].getD l 0
    let draw : RequestKind → Nat → Nat := fun k l => match k with
      | .spinUp | .recover => 28
      | .load | .recalibrate => 3
      | .solenoid => 8
      | .seek => seekDraw l
    (u.supply ≠ .good → u.examine = (u, [])) ∧
    (u.waitList = [] → u.examine = (u, [])) ∧
    (∀ r rest, u.supply = .good → u.waitList = r :: rest →
      (∀ c ∈ u.claims, ¬ (c.bay = r.bay ∧ c.consumer = r.kind.consumer)) →
      let granted := fun (l : Nat) =>
        let w : Budget := { u with claims := u.claims ++ [⟨r.bay, r.kind.consumer, draw r.kind l⟩], waitList := rest }
        u.examine = (w.examine.1, .grant r.bay r.kind l :: w.examine.2)
      (r.kind ≠ .seek → draw r.kind 0 ≤ headroom → granted 0) ∧
      (r.kind ≠ .seek → headroom < draw r.kind 0 → u.examine = (u, [])) ∧
      (r.kind = .seek → ∀ l, r.level ≤ l → l ≤ 3 → seekDraw l ≤ headroom →
        (∀ m, r.level ≤ m → m < l → headroom < seekDraw m) → granted l) ∧
      (r.kind = .seek → (∀ l, r.level ≤ l → l ≤ 3 → headroom < seekDraw l) → u.examine = (u, []))) ∧
    ((u.waitList.map Request.bay).Nodup →
      (∀ r ∈ u.waitList, ∀ c ∈ u.claims, ¬ (c.bay = r.bay ∧ c.consumer = r.kind.consumer)) →
      u.examine.1.claims = u.claims ++ u.examine.2.filterMap fun g => match g with
        | .grant b k l => some ⟨b, k.consumer, draw k l⟩
        | _ => none) ∧
    (u.supply = .good →
      let v := u.examine.1
      let grants := u.examine.2
      v.waitList = u.waitList.drop grants.length ∧
      grants.map (fun g => match g with
        | .grant b k _ => some (b, k)
        | _ => none) = (u.waitList.take grants.length).map (fun r => some (r.bay, r.kind)) ∧
      (∀ r ∈ v.waitList.head?, r.fit v.headroom = none) ∧
      v.effective = u.effective ∧ v.pending = u.pending ∧ v.supply = u.supply ∧
      (drawSum u.claims ≤ u.pending.getD u.effective → drawSum v.claims ≤ u.pending.getD u.effective) ∧
      ∀ r ∈ u.waitList.take grants.length, ∃ c ∈ v.claims, c.bay = r.bay ∧ c.consumer = r.kind.consumer)

/-- A release removes the owner's claim, a pending capacity that the claims have fallen to takes effect, and the head of the
wait list is examined (R30, R24, R27). A withdrawal takes the request off the list, the new head being examined only if it was
the head; a withdrawal that meets the grant still on its way releases the claim (R31). Notices of a bay are taken in order
(log entry 3). -/
def Obligations.BudgetTakesReleasesAndWithdrawals : Prop :=
  ∀ (s : State) (b : BayId) (early late : List Signal),
    let u := s.budget
    let others := fun (c : Consumer) => u.claims.filter fun d => decide (¬ (d.bay = b ∧ d.consumer = c))
    let freed := fun (c : Consumer) (sigs : List Signal) =>
      let sum := ((others c).map Claim.draw).sum
      let v : Budget := match u.pending with
        | some p => if sum ≤ p then { u with claims := others c, effective := p, pending := none }
                    else { u with claims := others c }
        | none => { u with claims := others c }
      ({ s with signals := sigs ++ v.examine.2, budget := v.examine.1 } : State)
    (∀ c, s.nextNotice b early (.release b c) late →
      exec (.claimRelease b c) s = .next (freed c (early ++ late))) ∧
    (∀ k, s.nextNotice b early (.withdraw b k) late →
      let outcome := exec (.withdrawal b k) s
      (∀ q rest, u.waitList = q :: rest → q.bay = b → q.kind = k →
        let v : Budget := { u with waitList := rest }
        outcome = .next { s with signals := early ++ late ++ v.examine.2, budget := v.examine.1 }) ∧
      (∀ q r, u.waitList = [q, r] → ¬ (q.bay = b ∧ q.kind = k) → r.bay = b → r.kind = k →
        outcome = .next { s with signals := early ++ late, budget := { u with waitList := [q] } }) ∧
      ((∀ q ∈ u.waitList, ¬ (q.bay = b ∧ q.kind = k)) →
        ((∀ z ∈ early ++ late, Signal.isGrant b k z = false) →
          outcome = .next { s with signals := early ++ late }) ∧
        (∀ first level last, early ++ late = first ++ .grant b k level :: last →
          (∀ z ∈ first, Signal.isGrant b k z = false) →
          outcome = .next (freed k.consumer (first ++ last)))))

/-- SET of SUPPLY CAPACITY (R23, R24): the value, clamped to 33..40, takes effect at once where the claims allow it, any
pending value being dropped and the head of the wait list examined, and is pending otherwise. (The value of the reply in four
bytes: log entry 15.) -/
def Obligations.CapacityIsSet : Prop :=
  ∀ (s : State) (value : BitVec 32), s.receives = true →
    let u := s.budget
    let n := max 33 (min 40 value.toNat)
    let v : Budget := { u with effective := n, pending := none }
    let body : List Byte := [7#8, BitVec.ofNat 8 n, 0#8, 0#8, 0#8]
    let set := exec (.set 255#8 7#8 255#8 value) s
    ((u.claims.map Claim.draw).sum ≤ n →
      set = .next ({ s with budget := v.examine.1, signals := s.signals ++ v.examine.2 }.replied 0x04 255#8 .ok body)) ∧
    (n < (u.claims.map Claim.draw).sum →
      set = .next ({ s with budget := { u with pending := some n } }.replied 0x04 255#8 .ok body))

/-- A grant at its owner starts the load it was asked for: the spindle enters ACCEL or RECOVER with its timer at 0, the heads
are driven off the stop, the recalibration runs, and a seek starts at the level granted, its plan in force and its heat added
(R48, R55, R76, R78, R63, R94). The seek selects its head, and the recalibration head 0 (R63, R78; log entry 40). An owner that
no longer wants it releases the claim without starting the load (R31). A grant on its way is a notice (log entry 3), a load
leaves the retract stop at its grant (log entry 22), and a load or recalibration takes a free profile of its own (log entry 39).
-/
def Obligations.GrantsStartTheirLoads : Prop :=
  ∀ (s : State) (b : BayId) (k : RequestKind) (level : Nat) (early late : List Signal),
    s.grantUnderWay b k level early late →
    let y := s.bay b
    let t : State := { s with signals := early ++ late }
    let passed := y.spindle.window.map fun w => { w with stale := true }
    let unwanted := exec (k.grantCommand b) s = .next { s with signals := early ++ late ++ [.release b k.consumer] }
    (k = .spinUp →
      (y.spindle.state = .waiting → exec (.spinUpGrant b) s = .next (t.modSpindle b fun x =>
        { x with state := .accel, count := 0, countsStall := false, window := passed, timer := some s.clock })) ∧
      (y.spindle.state ≠ .waiting → unwanted)) ∧
    (k = .recover →
      (y.spindle.state = .recoverWait → y.spindle.recoverAsked = true →
        exec (.recoverGrant b) s = .next (t.modSpindle b fun x =>
          { x with state := .recover, count := 0, countsStall := false, window := passed, timer := some s.clock,
                   recoverAsked := false })) ∧
      (y.spindle.state ≠ .recoverWait → unwanted)) ∧
    (k = .load →
      (y.act.state = .unloaded → y.act.loadAttempt ≠ none →
        exec (.loadGrant b) s = .next ((({ t with freeIndex := s.freeIndex + 1 } : State).modAct b fun x =>
          { x with state := .loading, cylinder := none, move := s.freeIndex }).modPins b
            fun p => { p with retractStop := false })) ∧
      (y.act.state ≠ .unloaded ∨ y.act.loadAttempt = none → unwanted)) ∧
    (k = .recalibrate →
      (y.act.state = .recalibrating → y.act.recal = .waiting →
        exec (.recalibrateGrant b) s = .next ((({ t with freeIndex := s.freeIndex + 1 } : State).modAct b fun x =>
          { x with recal := .running, move := s.freeIndex }).modPins b fun p => { p with headSelect := 0 })) ∧
      (y.act.state ≠ .recalibrating → unwanted)) ∧
    (k = .seek →
      (∀ q, y.act.state = .tracking → y.act.seek = some q → q.standing = .requested →
        let p := makePlan q.cylinder q.head q.distance q.direction q.level level
        exec (.seekGrant b) s = .next (((t.modAct b fun x =>
          { x with state := .seeking, seek := some { q with standing := .running }, plan := some p }).modPins b fun z =>
            { z with headSelect := q.head }).modHeat b fun h => { h with estimate := min 65535 (h.estimate + p.heatAdd) })) ∧
      (y.act.state ≠ .tracking ∨ y.act.seek = none → unwanted)) ∧
    (k = .solenoid → y.record.state ≠ .ejecting ∨ y.record.phase ≠ .release → unwanted)

/-! ### The spindle (chapter 3) -/

/-- A window starts at its scheduled count with the edge count of the setting, but 9 for 17 in a bay with a cleaning
cartridge, and the next is due one MEASURE PERIOD later (R38, R40). A measurement that completes replaces the last-reading
record (R39, R44), classed against the target T and half-width w of its window (R41 to R43); in a spindle state that counts no
readings, or for a window that started before the state was entered (R45), nothing else changes. A measurement with no window
is stray (log entry 7). A window's start brings the clock to its scheduled count, and a measurement to the count at which it
completes: 65,534 after the start with no edge, and otherwise the counts to its edge E or to 65,534 after a wait of at most
65,534 for the first edge (R39; log entry 4). The wait is a free value (log entry 44). -/
def Obligations.MeasurementsAreRecorded : Prop :=
  ∀ (s : State) (b : BayId),
    let x := (s.bay b).spindle
    let code := (s.bay b).record.typeCode
    (let edges := if s.settings.edgeCount = 17 ∧ code = 3 then 9 else s.settings.edgeCount
     exec (.measurementWindowStart b) s = .next (({ s with clock := max s.clock x.nextWindow } : State).modSpindle b fun x =>
       { x with window := some { edges, startAt := x.nextWindow, stale := false }
                nextWindow := x.nextWindow + s.settings.measurePeriod * 1000 })) ∧
    ∀ raw : RawOutcome, raw.wellFormed = true →
      let complete := exec (.measurementComplete b raw) s
      (x.window = none → complete = .next s) ∧
      ∀ w, x.window = some w →
        let rpm := if code = 3 then 1200 else 3600
        let target := (60000000 * (w.edges - 1) + 4 * rpm) / (8 * rpm)
        let half := target * s.settings.speedTolerance / 1024
        let reading := match raw with
          | .counted n => n.toNat
          | .fewEdges => if s.settings.slowMark then 65534 else 65535
          | .noEdge => 65535
        let speedClass : SpeedClass := match raw with
          | .counted n => if n.toNat + half < target then .over else if target + half < n.toNat then .under else .on
          | .fewEdges => .slow
          | .noEdge => .stall
        let least := match raw with
          | .counted n => n.toNat
          | .fewEdges | .noEdge => 65534
        let t := ({ s with clock := max s.clock (w.startAt + s.measureCounts raw), freeIndex := s.freeIndex + 1 } : State).modSpindle
          b fun x => { x with reading, speedClass, raw, window := none }
        (least ≤ s.measureCounts raw ∧ s.measureCounts raw ≤ least + (if raw = .noEdge then 0 else 65534)) ∧
        (w.stale = true ∨ x.state ∈ [SpindleState.off, .waiting, .recoverWait] → complete = .next t) ∧
        ∃ u, complete = .next u ∧ (u.bay b).spindle.reading = reading ∧ (u.bay b).spindle.speedClass = speedClass ∧
          u.clock = max s.clock (w.startAt + s.measureCounts raw)

/-- Two successive readings decide (R45), in each state that counts them. In ACCEL the first ON and the first STALL of a window
started 2 s after the entry are counted, any other reading sets the count to 0, the second such STALL ends the attempt as a jam
(R49), and the second ON brings RUN (R48). At the transfer into RUN the spindle's claim falls from 28 to 5 units in its place; a
pending capacity now met is effective, and the wait list is examined (R20, R30, R24, R27). In RUN the demand follows the
reading, a free value (R51, log entry 1), and the second non-ON loses the speed (R52). In RECOVER the second ON regains it
(R55). In STOPPING the first STALL is counted. (The reading brings the clock to its completion: log entries 4, 44.) -/
def Obligations.ReadingsAreCounted : Prop :=
  ∀ (s : State) (b : BayId) (raw : RawOutcome) (w : Window),
    let y := s.bay b
    let x := y.spindle
    raw.wellFormed = true → x.window = some w → w.stale = false →
    let rpm := if y.record.typeCode = 3 then 1200 else 3600
    let c := s.classAt w raw rpm
    let complete := exec (.measurementComplete b raw) s
    let t := ({ s with clock := max s.clock (w.startAt + s.measureCounts raw), freeIndex := s.freeIndex + 1 } : State).modSpindle
      b fun x => { x with reading := reportedReading raw s.settings.slowMark, speedClass := c, raw, window := none }
    let counts := fun (n : Nat) (stall : Bool) =>
      complete = .next (t.modSpindle b fun x => { x with count := n, countsStall := stall })
    let claims := s.budget.claims.map fun (d : Claim) =>
      if d.bay = b ∧ d.consumer = Consumer.spindle then { d with draw := min d.draw 5 } else d
    let reduced : Budget := match s.budget.pending with
      | some p => if (claims.map Claim.draw).sum ≤ p then { s.budget with claims, effective := p, pending := none }
                  else { s.budget with claims }
      | none => { s.budget with claims }
    let runs := fun (u : State) =>
      complete = .next u ∧ (u.bay b).spindle.state = .run ∧ (u.bay b).spindle.count = 0 ∧ (u.bay b).spindle.timer = none ∧
      u.budget = reduced.examine.1 ∧ (∃ more, u.signals = s.signals ++ reduced.examine.2 ++ more) ∧ u.queue = s.queue ∧
      u.bay b.other = s.bay b.other
    (x.state = .accel →
      (∀ start, x.timer = some start →
        (c = .stall → start + 2000000 ≤ w.startAt →
          (¬ (x.count = 1 ∧ x.countsStall = true) → counts 1 true) ∧
          (x.count = 1 → x.countsStall = true → complete = .next ((t.modSpindle b fun x =>
            { x with state := .stopping, count := 0, countsStall := false, timer := none, recoverAsked := false,
                     attemptEnd := true }).release b .spindle))) ∧
        (c = .stall → w.startAt < start + 2000000 → counts 0 false)) ∧
      (c ≠ .on → c ≠ .stall → counts 0 false) ∧
      (c = .on → ¬ (x.count = 1 ∧ x.countsStall = false) → counts 1 false) ∧
      (c = .on → x.count = 1 → x.countsStall = false → ∃ u, runs u ∧
        (y.record.state = .spinning → (u.bay b).record.state = .loading) ∧
        (y.record.state = .spinning ∨ y.record.state = .cleaning → y.act.state = .unloaded →
          (u.bay b).act.loadAttempt = some 1 ∧ Signal.request b .load 0 ∈ u.signals))) ∧
    (x.state = .run →
      (c = .on ∨ x.count = 0 → ∃ d : Int,
        complete = .next ((({ t with freeIndex := s.freeIndex + 2 } : State).modSpindle b fun x =>
          { x with count := if c = .on then 0 else 1, countsStall := false, demand := d })) ∧
        (s.classAt w raw x.nominal = .on → d = x.demand) ∧ (s.classAt w raw x.nominal = .over → d < x.demand) ∧
        (s.classAt w raw x.nominal ≠ .on → s.classAt w raw x.nominal ≠ .over → x.demand < d)) ∧
      (c ≠ .on → 1 ≤ x.count → ∃ u, complete = .next u ∧
        ((u.bay b).spindle.state = .recoverWait ∨ (u.bay b).spindle.state = .stopping) ∧
        (y.record.state ∈ [BayState.loading, .mounting, .ready, .raw, .cleaning] →
          (u.bay b).record.state = y.record.state ∧ (u.bay b).spindle.state = .recoverWait) ∧
        u.latched b .speedLoss = true ∧ Signal.release b .spindle ∈ u.signals ∧
        (u.bay b).act.state = (if y.act.state = .unloaded then .unloaded else .unloading) ∧
        (u.bay b).media.op = none ∧ (u.bay b).media.state = .stalled)) ∧
    (x.state = .recover →
      (c ≠ .on → counts 0 false) ∧ (c = .on → x.count = 0 → counts 1 false) ∧
      (c = .on → 1 ≤ x.count → ∃ u, runs u ∧ u.latched b .speedRecovered = true)) ∧
    (x.state = .stopping → (c ≠ .stall → counts 0 false) ∧ (c = .stall → x.count = 0 → counts 1 false))

/-- The second successive STALL in STOPPING confirms the stop (R57): the spindle is OFF, or WAITING for a pending spin-up. An
attempt that ended with it is counted, and the bay tries again below SPIN ATTEMPTS LIMIT or is in FAULT with cause SPIN FAIL
(R8, R50). Otherwise PARKING ends in PARKED, SPINDOWN in RELEASE, and a lost cartridge in EMPTY (R11, R161, R14). The STALL
completes at the 65,534th count of its window, and brings the clock there (R39; log entry 4). -/
def Obligations.StopsAreConfirmed : Prop :=
  ∀ (s : State) (b : BayId) (w : Window),
    let y := s.bay b
    let x := y.spindle
    x.window = some w → w.stale = false → x.state = .stopping → 1 ≤ x.count →
    ∃ t, exec (.measurementComplete b .noEdge) s = .next t ∧
      (t.bay b).spindle.count = 2 ∧ (t.bay b).spindle.attemptEnd = false ∧ t.bay b.other = s.bay b.other ∧
      t.clock = max s.clock (w.startAt + 65534) ∧
      (y.record.state = .spinning ∨ y.record.state = .cleaning → x.pendingSpinUp = false → x.attemptEnd = true →
        let n := min 8 (y.record.attempts + 1)
        (t.bay b).record.attempts = n ∧
        (t.bay b).counters.counts[CounterName.spinAttempts.index] =
          min 65535 (y.counters.counts[CounterName.spinAttempts.index] + 1) ∧
        (n < s.settings.attemptsLimit → (t.bay b).record.state = y.record.state ∧ t.latched b .spinRetry = true ∧
          (t.bay b).spindle.state = .waiting ∧ t.signals = s.signals ++ [.request b .spinUp 0]) ∧
        (s.settings.attemptsLimit ≤ n → (t.bay b).record.state = .fault ∧ (t.bay b).record.cause = .spinFail ∧
          t.latched b .spinFail = true ∧ (t.bay b).spindle.state = .off)) ∧
      (x.attemptEnd = false → x.pendingSpinUp = true → y.record.state = .spinning ∨ y.record.state = .cleaning →
        (t.bay b).record = y.record ∧ (t.bay b).spindle.state = .waiting ∧
        t.signals = s.signals ++ [.request b .spinUp 0]) ∧
      (x.pendingSpinUp = false →
        (y.record.state = .parking → y.record.parkStep = .spindown → y.record.resetPark = false → y.record.eject = none →
          (t.bay b).record.state = .parked ∧ t.latched b .parked = true ∧ (t.bay b).spindle.state = .off ∧
          (t.bay b).record.standing = y.record.standing ∧ (t.bay b).record.lock = y.record.lock ∧ (t.bay b).map = y.map) ∧
        (y.record.state = .parking → y.record.parkStep = .spindown → y.record.resetPark = false → y.record.eject ≠ none →
          t.latched b .parked = true ∧ (t.bay b).record.state = .ejecting ∧ (t.bay b).record.phase = .release ∧
          t.signals = s.signals ++ [.request b .solenoid 0]) ∧
        (y.record.state = .parking → y.record.parkStep = .spindown → y.record.resetPark = true →
          (t.bay b).record.state = .empty ∧ (t.bay b).record.debouncing = y.pins.present ∧
          t.latched b .parked = s.latched b .parked) ∧
        (y.record.state = .ejecting → y.record.phase = .spindown →
          (t.bay b).record.phase = .release ∧ (t.bay b).spindle.state = .off ∧
          t.signals = s.signals ++ [.request b .solenoid 0]) ∧
        (y.record.state = .fault → y.record.cause = .cartridgeLost →
          (t.bay b).record.state = .empty ∧ (t.bay b).record.debouncing = y.pins.present))

/-- The attempt timer at 15 s ends an attempt in ACCEL: the claim is released and the spindle brakes with the attempt-end marker
set (R49). The recovery timer at 15 s ends a recovery: with the heads on the retract stop the spindle brakes, and with the heads
off it the spindle asks again; the bay is in FAULT with cause SPEED LOST unless it was in FAULT already (R55). In another
spindle state neither acts (log entry 7). A time-out is taken whatever the clock, which it brings to the 15 s (log entry 4). -/
def Obligations.SpindleTimersRunOut : Prop :=
  ∀ (s : State) (b : BayId),
    let y := s.bay b
    let x := y.spindle
    let passed := x.window.map fun w => { w with stale := true }
    (x.state ≠ .accel → exec (.attemptTimeout b) s = .next s) ∧
    (x.state ≠ .recover → exec (.recoveryTimeout b) s = .next s) ∧
    (∀ start, x.timer = some start →
      let late : State := { s with clock := max s.clock (start + 15000000) }
      (x.state = .accel → exec (.attemptTimeout b) s = .next ((late.modSpindle b fun x =>
        { x with state := .stopping, count := 0, countsStall := false, window := passed, timer := none,
                 recoverAsked := false, attemptEnd := true }).release b .spindle)) ∧
      (x.state = .recover → y.record.state = .fault → y.act.state ≠ .unloaded →
        exec (.recoveryTimeout b) s = .next (((late.release b .spindle).modSpindle b fun x =>
          { x with state := .recoverWait, timer := none, recoverAsked := true }).request b .recover)) ∧
      (x.state = .recover → y.record.state ∈ [BayState.loading, .mounting, .ready, .raw, .cleaning, .parking, .ejecting] →
        y.act.state = .unloaded → ∃ t, exec (.recoveryTimeout b) s = .next t ∧ (t.bay b).spindle.state = .stopping ∧
          (t.bay b).record.state = .fault ∧ (t.bay b).record.cause = .speedLost ∧
          Signal.release b .spindle ∈ t.signals ∧
          t.queue.items = s.queue.items.filter (fun i => decide (i.bay ≠ b)) ∧
          (y.slot.state = .inProgress → (t.bay b).slot.state = .done ∧ (t.bay b).slot.result = .bayFault) ∧
          t.bay b.other = s.bay b.other))

/-! ### Seek planning (chapter 4) -/

/-- The figures of a plan (R62, R66 to R70): a null plan for distance 0; a trapezoid of two ramps of k samples and a coast for
a distance of 2R or more; and otherwise a triangle of two ramps of j samples, j the largest with a × j × (j + 1) at most D, and
the extra samples. The settle is 4 samples but for distance 0, the timeout 2 × (M + S) + 24, the draw that of the level, and
the heat add the level's weight times the ramp. -/
def Obligations.PlanFigures : Prop :=
  ∀ (cylinder head d e l : Nat) (dir : Direction), l ≤ 3 → d ≤ 799 →
    let p := makePlan cylinder head d dir e l
    let a := [2, 2, 1, 1].getD l 0
    let vmax := [24, 16, 10, 6].getD l 0
    let k := [12, 8, 10, 6].getD l 0
    let reach := [156, 72, 55, 21].getD l 0
    let weight := [8, 6, 3, 2].getD l 0
    let draw := [12, 9, 6, 3].getD l 0
    p.targetCylinder = cylinder ∧ p.targetHead = head ∧ p.distance = d ∧ p.direction = dir ∧ p.requested = e ∧
    p.level = l ∧ p.outcome = .inForce ∧ p.timeout = 2 * (p.moving + p.settle) + 24 ∧ p.heatAdd = weight * p.ramp ∧
    (d = 0 → p.ramp = 0 ∧ p.coastOrExtra = .absent ∧ p.moving = 0 ∧ p.settle = 0 ∧ p.draw = 0) ∧
    (0 < d → p.settle = 4 ∧ p.draw = draw) ∧
    (2 * reach ≤ d → ∃ n, p.ramp = 2 * k ∧ p.coastOrExtra = .coast n ∧ p.moving = p.ramp + n ∧
      d - 2 * reach ≤ n * vmax ∧ n * vmax < d - 2 * reach + vmax) ∧
    (0 < d → d < 2 * reach → ∃ j n, p.ramp = 2 * j ∧ j < k ∧ a * j * (j + 1) ≤ d ∧ d < a * (j + 1) * (j + 2) ∧
      p.coastOrExtra = .extra n ∧ p.moving = p.ramp + n ∧
      d - a * j * (j + 1) ≤ n * (a * (j + 1)) ∧ n * (a * (j + 1)) < d - a * j * (j + 1) + a * (j + 1))

/-- The demand profile of a plan (R71): the velocity rises by the level's acceleration in each sample of the up-ramp, is the top
velocity in a coast, or the next step of the ramp in the extra samples of a triangle, but in the last of them, which demands
what is left, and falls again in the down-ramp. Over the M moving samples the velocities demanded add up to the distance
exactly; none exceeds the top velocity of the level; and outside the moving samples the demand is 0. The velocity demanded has
the sign of the direction, UP being positive; and a plan whose seek has ended demands none. A load demands an inward velocity of
at most 6 cylinders per sample, and a recalibration that runs an outward one of at most 6 up to the sample in which it reads the
outer guard, which is the first where it ends a load, and then an inward one of at most 6 (R74, R76, R78); the profiles and that
sample are otherwise free values (log entry 39). A recalibration that waits, an unload that failed, and heads at rest have no
drive (R78, R89). -/
def Obligations.DemandCoversTheDistance : Prop :=
  ∀ (cylinder head d e l : Nat) (dir : Direction), l ≤ 3 →
    let p := makePlan cylinder head d dir e l
    let a := [2, 2, 1, 1].getD l 0
    let vmax := [24, 16, 10, 6].getD l 0
    let reach := [156, 72, 55, 21].getD l 0
    let half := p.ramp / 2
    let v := if 2 * reach ≤ d then vmax else a * (half + 1)
    ((List.range p.moving).map fun i => p.demand (i + 1)).sum = d ∧
    ∀ i, p.demand i ≤ vmax ∧ (p.moving < i ∨ i = 0 → p.demand i = 0) ∧
      (1 ≤ i → i ≤ half → p.demand i = a * i ∧ p.demand (p.moving + 1 - i) = a * i) ∧
      (half < i → i + half < p.moving → p.demand i = v) ∧
      (half < i → i + half = p.moving → p.demand i = d - a * half * (half + 1) - v * (i - half - 1)) ∧
      p.velocity i = (match dir with | .up => (p.demand i : Int) | .down => -(p.demand i : Int) | .none => 0) ∧
      (∀ o : PlanOutcome, o ≠ .inForce → ({ p with outcome := o } : Plan).velocity i = 0) ∧
      ∀ x : Actuator,
        (x.state = .seeking → x.plan = some p → x.drive i = .velocity (p.velocity i)) ∧
        (x.state = .loading → ∃ u : Int, x.drive i = .velocity u ∧ 0 ≤ u ∧ u ≤ 6) ∧
        (x.state = .recalibrating → x.recal = .running → ∃ guard, 1 ≤ guard ∧ (x.recalForLoad = true → guard = 1) ∧
          ∀ n, ∃ u : Int, x.drive n = .velocity u ∧ if n ≤ guard then -6 ≤ u ∧ u ≤ 0 else 0 ≤ u ∧ u ≤ 6) ∧
        (x.state = .recalibrating → x.recal ≠ .running → x.drive i = .none) ∧
        (x.state = .tracking → x.drive i = .velocity 0) ∧ (x.state = .unloaded → x.drive i = .none) ∧
        (x.state = .unloading → x.drive i = if x.unloadMoving then .toStop else .none)

/-! ### The actuator (chapter 5) -/

/-- A seek completes in a sample from M + S on (the first for distance 0) that is not past the timeout (R69), and then: its
claim is released unless its distance is 0, the actuator tracks its target, the failure count is 0 and the upshift run rises
by 1, up to 1,024; at the setting UPSHIFT RUN with F above 0, F falls by 1, the run is 0 and UPSHIFT is latched (R84). The
operation that asked for it stands on its sector. In any other sample nothing completes. The sample's number comes with the
command (log entry 28). -/
def Obligations.SeekCompletes : Prop :=
  ∀ (s : State) (b : BayId) (sample : Nat) (q : SeekInHand) (p : Plan),
    let y := s.bay b
    y.act.state = .seeking → y.act.seek = some q → y.act.plan = some p → p.outcome = .inForce →
    let complete := exec (.seekComplete b sample) s
    let can := max 1 (p.moving + p.settle) ≤ sample ∧ sample ≤ p.timeout
    let run := min 1024 (y.act.upshiftRun + 1)
    let tracks : Actuator :=
      { y.act with state := .tracking, cylinder := some q.cylinder, head := q.head, seek := none, failures := 0,
                   upshiftRun := run, plan := some { p with outcome := .completed } }
    let shifts := s.settings.upshiftRun ≤ run ∧ 0 < y.act.downshift
    let t := (if p.distance = 0 then s else s.release b .actuator).modAct b fun _ =>
      if shifts then { tracks with downshift := y.act.downshift - 1, upshiftRun := 0 } else tracks
    let u := if shifts then t.latch b .upshift else t
    (¬ can → complete = .next s) ∧
    (can → q.requester = .media → ∀ op, y.media.op = some op → op.kind ≠ .slotSeek →
      complete = .next (u.modMedia b fun m => { m with op := some { op with stage := .atSector } })) ∧
    (can → q.requester = .media → ∀ op, y.media.op = some op → op.kind = .slotSeek → op.orphan = false →
      y.slot.state = .inProgress → y.record.state = .ready ∨ y.record.state = .raw →
      complete = .next (((u.modMedia b fun m => { m with state := .idle, op := none }).modSlot b fun x =>
        { x with state := .done, result := .done, next := 1 }).latch b .resultReady)) ∧
    (can → q.requester = .sweep → y.record.state = .cleaning →
      ∃ v, complete = .next v ∧ v.queue = s.queue ∧ v.bay b.other = s.bay b.other ∧
        (y.record.sweepOut = false →
          (v.bay b).record = { y.record with sweepOut := true }) ∧
        (y.record.sweepOut = true → y.record.trips + 1 < 16 →
          (v.bay b).record = { y.record with sweepOut := false, trips := y.record.trips + 1 }) ∧
        (y.record.sweepOut = true → y.record.trips = 15 →
          v.latched b .cleanDone = true ∧ (v.bay b).record.trips = 16 ∧ (v.bay b).record.state = .ejecting ∧
          (v.bay b).record.phase = .unload ∧ (v.bay b).act.state = .unloading))

/-- An attempt of a seek that times out or loses the servo (R85): its claim is released unless its distance is 0, the plan has
the outcome, the current cylinder is UNKNOWN, SEEK RETRIES and the failure count rise, the upshift run is 0, and a recalibration
is asked for with the seek still in hand. At DOWNSHIFT THRESHOLD the failure count is 0, and F rises by 1, up to 3, with
DOWNSHIFT latched. -/
def Obligations.SeekAttemptsFail : Prop :=
  ∀ (s : State) (b : BayId) (q : SeekInHand) (p : Plan),
    let y := s.bay b
    y.act.state = .seeking → y.act.seek = some q → y.act.plan = some p → p.outcome = .inForce →
    let failed := fun (o : PlanOutcome) =>
      let n := min 8 (y.act.failures + 1)
      let low := s.settings.downshiftThreshold ≤ n
      let shifts := low ∧ y.act.downshift < 3
      let t := ((if p.distance = 0 then s else s.release b .actuator).raise b .seekRetries 1).modAct b fun _ =>
        { y.act with
          state := .recalibrating, cylinder := none, recal := .waiting, recalForLoad := false
          seek := some { q with standing := .retrying }, plan := some { p with outcome := o }
          failures := if low then 0 else n, upshiftRun := 0
          downshift := if shifts then y.act.downshift + 1 else y.act.downshift }
      Host.Outcome.next ((if shifts then t.latch b .downshift else t).request b .recalibrate)
    exec (.seekTimeout b) s = failed .timedOut ∧ exec (.servoLoss b) s = failed .servoLost

/-- A track loss has the actuator recalibrate: the current cylinder is UNKNOWN, a seek that stood REQUESTED is withdrawn and
HELD (R80), a read on its sector waits, and a write attempt on its sector has failed (R149). A recalibration that completes
releases its claim and tracks cylinder 0, head 0 (R78); a failed seek is planned again up to its third attempt, and then given
up with SEEK FAULT (R86). One that fails releases its claim, gives the seek up, and reports POSITION LOST (R79). A loss while
the operation is being positioned is the seek's concern (log entry 17). A TRACK_LOSS out of TRACKING, and an end of a
recalibration with none running, change nothing (log entry 7). -/
def Obligations.RecalibrationsEnd : Prop :=
  ∀ (s : State) (b : BayId),
    let y := s.bay b
    let complete := exec (.recalibrationComplete b) s
    let failed := exec (.recalibrationFailed b) s
    let tracks := (s.release b .actuator).modAct b fun x =>
      { x with state := .tracking, cylinder := some 0, head := 0, recal := .idle, recalForLoad := false,
               loadAttempt := if x.recalForLoad then none else x.loadAttempt }
    (y.act.state ≠ .tracking → exec (.trackLoss b) s = .next s) ∧
    (y.act.state = .tracking → y.act.seek = none →
      let lost := (s.modAct b fun x =>
        { x with state := .recalibrating, cylinder := none, recal := .waiting, recalForLoad := false }).request b .recalibrate
      (y.media.op = none → exec (.trackLoss b) s = .next lost) ∧
      (∀ op, y.media.op = some op → op.stage = .atSector → op.kind.isRead = true →
        exec (.trackLoss b) s = .next (lost.modMedia b fun m => { m with op := some { op with stage := .awaitRecal } })) ∧
      (∀ op n, y.media.op = some op → op.stage = .atSector → op.kind = .drainWrite → op.arrival = some n →
        exec (.trackLoss b) s = .next ((lost.modMedia b fun m => { m with state := .idle, op := none }).send
          (.failed b n)))) ∧
    (∀ q, y.act.state = .tracking → y.act.seek = some q → q.standing = .requested →
      (∀ op, y.media.op = some op → op.stage = .seeking) →
      exec (.trackLoss b) s = .next (((s.withdraw b .seek).modAct b fun x =>
        { x with state := .recalibrating, cylinder := none, recal := .waiting, recalForLoad := false,
                 seek := some { q with standing := .held } }).request b .recalibrate)) ∧
    (¬ (y.act.state = .recalibrating ∧ y.act.recal = .running) → complete = .next s ∧ failed = .next s) ∧
    (y.act.state = .recalibrating → y.act.recal = .running →
      (y.record.state = .ready ∨ y.record.state = .raw → y.act.seek = none → y.media.op = none → y.media.state ≠ .stalled →
        complete = .next tracks) ∧
      (y.record.state = .loading → y.record.standing = .none → y.act.seek = none → y.media.op = none →
        y.media.state ≠ .stalled → complete = .next ((tracks.modRecord b fun r => { r with state := .mounting }).modMedia b
          fun m => { m with custody := some .labelRead })) ∧
      (y.record.state = .loading → y.record.standing = .labelled → y.act.seek = none → y.media.op = none →
        y.media.state ≠ .stalled → complete = .next ((tracks.modRecord b fun r =>
          { r with state := .ready, phase := .none }).latch b .ready)) ∧
      (∀ q op, y.record.state = .ready ∨ y.record.state = .raw → y.act.seek = some q → q.standing = .retrying →
        q.requester = .media → y.media.op = some op → op.stage = .seeking → y.media.state ≠ .stalled → y.heat.hot = false →
        (q.attempt < 3 → q.cylinder ≠ 0 → complete = .next ((tracks.modAct b fun x =>
          { x with seek := some { q with attempt := q.attempt + 1, standing := .requested, distance := q.cylinder,
                                         direction := .up, level := min 3 (y.heat.offset + y.act.downshift) } }).request b
            .seek (min 3 (y.heat.offset + y.act.downshift)))) ∧
        (q.attempt = 3 → ∀ n, op.kind = .drainWrite → op.arrival = some n →
          complete = .next (((tracks.modAct b fun x => { x with seek := none }).modMedia b fun m =>
            { m with state := .idle, op := none }).send (.failed b n)))) ∧
      (y.record.state ∈ [BayState.loading, .mounting, .ready, .raw] →
        ∃ t, failed = .next t ∧ t.latched b .positionLost = true ∧ (t.bay b).record.state = .fault ∧
          (t.bay b).record.cause = .positionLost ∧ (t.bay b).act.state = .unloading ∧ (t.bay b).act.seek = none ∧
          Signal.release b .actuator ∈ t.signals ∧ (t.bay b).media.op = none ∧ t.bay b.other = s.bay b.other ∧
          t.queue.items = s.queue.items.filter (fun i => decide (i.bay ≠ b))) ∧
      (y.record.state = .cleaning →
        ∃ t, failed = .next t ∧ t.latched b .positionLost = true ∧ (t.bay b).record.state = .ejecting ∧
          (t.bay b).record.phase = .unload ∧ (t.bay b).act.state = .unloading ∧ t.latched b .cleanDone = s.latched b .cleanDone))

/-- A load whose guard band is found goes straight into recalibration under its claim, on head 0 (R76, R78; log entry 40); one
that runs out of time releases it and takes the heads back (R77). When an unload is complete the heads are UNLOADED: a first
failed load is tried again, a second gives POSITION LOST (R77), and an unload of an eject or of PARKING goes on to the stop of
the spindle (R89, R160, R11). An unload not confirmed in 200 ms is UNLOAD FAULT, the heads staying where they are (R89, R14). An
unload that starts on the stop completes by a notice (log entry 22), an event of a load or unload with none under way changes
nothing (log entry 7), and the end of the 200 ms brings the clock there (log entry 4). -/
def Obligations.LoadsAndUnloadsEnd : Prop :=
  ∀ (s : State) (b : BayId),
    let y := s.bay b
    let guard := exec (.loadGuardFound b) s
    let timeout := exec (.loadTimeout b) s
    let complete := exec (.unloadComplete b) s
    let failed := exec (.unloadFailed b) s
    let unloads := (s.release b .actuator).modAct b fun x =>
      { x with state := .unloading, cylinder := none, seek := none, recal := .idle, recalForLoad := false,
               unloadMoving := true, unloadAt := s.clock }
    let atStop := (({ s with signals := s.signals.erase (.atStop b) } : State).modPins b fun p =>
      { p with retractStop := true })
    let off := atStop.modAct b fun x => { x with state := .unloaded, unloadFailed := false, unloadMoving := false }
    (y.act.state ≠ .loading → guard = .next s ∧ timeout = .next s) ∧
    (y.act.state = .loading →
      guard = .next ((s.modAct b fun x =>
        { x with state := .recalibrating, recal := .running, recalForLoad := true }).modPins b fun p =>
          { p with headSelect := 0 }) ∧
      timeout = .next (if y.pins.retractStop then unloads.send (.atStop b) else unloads)) ∧
    (¬ (y.act.state = .unloading ∧ y.act.unloadMoving = true) → complete = .next atStop ∧ failed = .next s) ∧
    (y.act.state = .unloading → y.act.unloadMoving = true →
      (y.act.loadAttempt = some 1 →
        complete = .next ((off.modAct b fun x => { x with loadAttempt := some 2 }).request b .load)) ∧
      (y.act.loadAttempt = some 2 → y.record.state = .loading →
        ∃ t, complete = .next t ∧ t.latched b .positionLost = true ∧ (t.bay b).record.state = .fault ∧
          (t.bay b).record.cause = .positionLost ∧ (t.bay b).act.state = .unloaded ∧ (t.bay b).act.loadAttempt = none) ∧
      (y.act.loadAttempt = none → y.record.state = .ejecting → y.record.phase = .unload → y.spindle.state = .run →
        ∃ t, complete = .next t ∧ (t.bay b).act.state = .unloaded ∧ (t.bay b).record.phase = .spindown ∧
          (t.bay b).spindle.state = .stopping ∧ Signal.release b .spindle ∈ t.signals) ∧
      (y.act.loadAttempt = none → y.record.state = .parking → y.record.parkStep = .unload → y.spindle.state = .run →
        ∃ t, complete = .next t ∧ (t.bay b).act.state = .unloaded ∧ (t.bay b).record.state = .parking ∧
          (t.bay b).record.parkStep = .spindown ∧ (t.bay b).spindle.state = .stopping) ∧
      (y.act.loadAttempt = none → y.record.state = .ready → y.spindle.state = .recoverWait → y.spindle.recoverAsked = false →
        complete = .next ((off.modSpindle b fun x => { x with recoverAsked := true }).request b .recover)) ∧
      (∃ t, failed = .next t ∧ t.latched b .unloadFault = true ∧ (t.bay b).record.state = .fault ∧
        (t.bay b).record.cause = .unloadFault ∧ (t.bay b).act.state = .unloading ∧ (t.bay b).act.unloadFailed = true ∧
        (t.bay b).act.unloadMoving = false ∧ (t.bay b).record.eject = none ∧
        t.clock = max s.clock (y.act.unloadAt + 200000) ∧ t.bay b.other = s.bay b.other ∧
        (y.spindle.state = .run → (t.bay b).spindle = y.spindle)))

/-! ### Coil heat (chapter 6) -/

/-- An evaluation, taken by each bay on its own figures: H decays by a sixteenth, rounded down; the delay falls by 1; the offset
steps up at the second evaluation above HEAT TOP and down below HEAT RELEASE, at delay 0, which is then reloaded; the flag is
set at the second evaluation above HEAT TRIP and cleared at HEAT TOP or below; the markers follow the decayed H (R95, R97 to
R102). Each change of offset latches HEAT STEP, of the flag COIL HOT or COIL COOL. With the flag set, a seek that stood
REQUESTED is withdrawn and HELD (R83). When it is cleared, a seek HELD on a TRACKING actuator is taken for planning: with its
distance, direction and level fixed now, level 3 for a sweep seek and else E with the offset just stepped, its request is sent,
or for distance 0 its plan is in force and it runs at once (R82, R63, R64). With no change of the flag the actuator stands. (That
the clock is brought to the evaluation is the model's choice: log entry 4.) -/
def Obligations.EvaluationStepsTheHeat : Prop :=
  ∀ s : State, ∃ t, exec .evaluation s = .next t ∧
    t.clock = max s.clock s.nextEval ∧ t.nextEval = s.nextEval + 500000 ∧ t.queue = s.queue ∧ t.budget = s.budget ∧
    ∀ b : BayId,
      let c := s.settings
      let y := s.bay b
      let z := t.bay b
      let h := y.heat.estimate - y.heat.estimate / 16
      let delay := y.heat.delay - 1
      let up := c.heatTop < h ∧ y.heat.overTop = true ∧ y.heat.offset < 3 ∧ delay = 0
      let down := h < c.heatRelease ∧ 0 < y.heat.offset ∧ delay = 0
      let hot := if y.heat.hot then decide (c.heatTop < h) else decide (c.heatTrip < h) && y.heat.overTrip
      z.record = y.record ∧ z.spindle = y.spindle ∧ z.media = y.media ∧ z.slot = y.slot ∧ z.map = y.map ∧
      (y.heat.estimate ≤ 65535 → z.heat.estimate = h) ∧
      z.heat.overTop = decide (c.heatTop < h) ∧ z.heat.overTrip = decide (c.heatTrip < h) ∧ z.heat.hot = hot ∧
      (up → z.heat.offset = y.heat.offset + 1 ∧ z.heat.delay = 120 * c.adjustDelay) ∧
      (¬ up → down → z.heat.offset = y.heat.offset - 1 ∧ z.heat.delay = 120 * c.adjustDelay) ∧
      (¬ up → ¬ down → z.heat.offset = y.heat.offset ∧ z.heat.delay = delay) ∧
      (∀ e : BayEvent, t.latched b e = (s.latched b e || (decide (e = .heatStep) && decide (up ∨ down)) ||
        (decide (e = .coilHot) && !y.heat.hot && hot) || (decide (e = .coilCool) && y.heat.hot && !hot))) ∧
      (hot = y.heat.hot → z.act = y.act) ∧
      (y.heat.hot = false → hot = true → ∀ q, y.act.seek = some q →
        z.act.seek = some (if q.standing = .requested then { q with standing := .held } else q) ∧
        (q.standing = .requested → Signal.withdraw b .seek ∈ t.signals)) ∧
      (y.heat.hot = true → hot = false →
        ((∀ q, y.act.seek = some q → q.standing ≠ .held ∨ y.act.state ≠ .tracking) → z.act = y.act) ∧
        ∀ q from_, y.act.seek = some q → q.standing = .held → y.act.state = .tracking → y.act.cylinder = some from_ →
          let e := if q.requester = .sweep then 3 else min 3 (z.heat.offset + y.act.downshift)
          (q.cylinder ≠ from_ →
            z.pins = y.pins ∧ Signal.request b .seek e ∈ t.signals ∧
            z.act = { y.act with seek := some { q with
              standing := .requested, level := e
              distance := if from_ < q.cylinder then q.cylinder - from_ else from_ - q.cylinder
              direction := if from_ < q.cylinder then .up else .down } }) ∧
          (q.cylinder = from_ →
            z.pins = { y.pins with headSelect := q.head } ∧
            z.act = { y.act with
              state := .seeking
              seek := some { q with standing := .running, level := e, distance := 0, direction := .none }
              plan := some (makePlan q.cylinder q.head 0 .none e e) }))

/-! ### The Media Engine (chapter 9) -/

/-- The choice of a Media Engine (R141), made when it is IDLE on a TRACKING actuator with no seek in hand, in a bay state where
it takes work: custody work first; a drain write when no slot work waits, when the queue holds 16 entries, or at fairness count
4; and otherwise the next slot operation, which raises the fairness count while drain work waits and clears it otherwise. The
entry of a drain write is the nearest of the eligible QUEUED entries, the earliest in the list among equals, and becomes WRITING
(R131, R132); a READ sector is resolved (R108), or staged at once from the queue (R136, R145). The engine is WORKING, on its
sector if the heads stand there and otherwise with a seek in hand (R142). A question that meets a drain write whose outcome the
queue has not yet taken is answered from its WRITING entry (R136), the entry that stands last of its bay and block. (A drain
write that is due waits for that outcome: log entry 3; the sector of a SEEK's address is 0: log entry 43.) -/
def Obligations.EngineChooses : Prop :=
  ∀ (s : State) (b : BayId),
    let y := s.bay b
    let choice := exec (.mediaChoice b) s
    let works := y.record.state ∈ [BayState.mounting, .ready, .raw] ∨
      (y.record.state = .parking ∧ y.record.parkStep = .drain) ∨ (y.record.state = .ejecting ∧ y.record.phase = .drain)
    let may := y.media.state = .idle ∧ y.act.state = .tracking ∧ y.act.seek = none ∧ works
    let eligible := s.queue.eligible b
    let writing := ∃ f ∈ entriesOf s.queue.items, f.bay = b ∧ f.writing = true
    let newest := fun (block : Nat) (e : WriteEntry) => e.bay = b ∧ e.block = block ∧
      ∃ pre post, s.queue.items = pre ++ .entry e :: post ∧ ∀ f ∈ entriesOf post, ¬ (f.bay = b ∧ f.block = block)
    let drain := y.slot.mediaWork = false ∨ s.queue.entryCount = 16 ∨ y.media.fairness = 4
    let takes := fun (t : State) (kind : OpKind) (target : PhysAddr) (attempt : Nat) (arrival : Option Nat) =>
      (t.bay b).media.state = .working ∧ (t.bay b).media.custody = none ∧ (t.bay b).slot = y.slot ∧
      t.bay b.other = s.bay b.other ∧ ∃ stage,
        (t.bay b).media.op = some { kind, target, passes := 0, attempt, arrival, orphan := false, stage } ∧
        (if kind ≠ .slotSeek ∧ y.act.cylinder = some target.cylinder ∧ y.act.head = target.head then
          stage = .atSector ∧ (t.bay b).act = y.act
         else stage = .seeking ∧ (y.act.cylinder ≠ none → ∃ q, (t.bay b).act.seek = some q ∧ q.requester = .media ∧
          q.cylinder = target.cylinder ∧ q.head = target.head ∧ q.attempt = 1))
    let slotOp := fun (kind : OpKind) (target : PhysAddr) (attempt : Nat) => ∃ t, choice = .next t ∧
      takes t kind target attempt none ∧ t.queue = s.queue ∧
      (t.bay b).media.fairness = if eligible = [] then 0 else min 4 (y.media.fairness + 1)
    let label : PhysAddr := { cylinder := 0, head := 0, sector := 0 }
    let built := fun (t : State) => (t.bay b).media.label = y.map.labelSector y.record.typeCode ∧
      (t.bay b).map = { y.map with edited := false, built := (y.map.generation + 1) % 65536 }
    (∀ e, e ∈ eligible ↔ e.bay = b ∧ e.writing = false ∧
      ∃ pre post, s.queue.items = pre ++ .entry e :: post ∧ ∀ k, Item.mark b k ∉ pre) ∧
    (¬ may → choice = .next s) ∧
    (may → y.media.custody = some .labelRead → ∃ t, choice = .next t ∧ takes t .labelRead label 1 none ∧ t.queue = s.queue) ∧
    (may → y.media.custody = some .labelSave → ∃ t, choice = .next t ∧
      takes t .labelSave label (y.media.saveFailures + 1) none ∧ built t ∧ t.queue = s.queue) ∧
    (may → y.media.custody = none → eligible ≠ [] → drain → writing → choice = .next s) ∧
    (may → y.media.custody = none → eligible ≠ [] → drain → ¬ writing → ∃ t e pre post, choice = .next t ∧ e ∈ eligible ∧
      takes t .drainWrite (y.map.resolve y.record.typeCode e.block) (e.attempts + 1) (some e.arrival) ∧
      (t.bay b).media.fairness = 0 ∧ s.queue.items = pre ++ .entry e :: post ∧ Item.entry e ∉ pre ∧
      t.queue = { s.queue with items := pre ++ .entry { e with writing := true } :: post } ∧
      (y.act.cylinder = none → eligible.head? = some e) ∧
      ∀ c, y.act.cylinder = some c →
        let away := fun (f : WriteEntry) => distanceTo (y.map.resolve y.record.typeCode f.block).cylinder c
        (∀ f ∈ eligible, away e ≤ away f) ∧ ∀ f ∈ eligible, f ∈ entriesOf pre → away e < away f) ∧
    (may → y.media.custody = none → y.slot.mediaWork = false → eligible = [] → choice = .next s) ∧
    (may → y.media.custody = none → y.slot.state = .inProgress → eligible = [] ∨ ¬ drain →
      (∀ start n, y.slot.request = some (.readPhys start n) →
        slotOp .slotReadPhys { start with sector := start.sector + y.slot.staged } 1) ∧
      (∀ target, y.slot.request = some (.writePhys target) → slotOp .slotWritePhys target (y.media.slotFailures + 1)) ∧
      (∀ c, y.slot.request = some (.seek c) → slotOp .slotSeek { cylinder := c, head := y.act.head, sector := 0 } 1) ∧
      (y.slot.request = some .mapSave → slotOp .slotMapSave label (y.media.slotFailures + 1) ∧
        ∀ t, choice = .next t → built t) ∧
      (∀ first n, y.slot.request = some (.read first n) → y.slot.staged < n →
        (∀ e ∈ entriesOf s.queue.items, ¬ (e.bay = b ∧ e.block = first + y.slot.staged)) →
        slotOp .slotRead (y.map.resolve y.record.typeCode (first + y.slot.staged)) 1) ∧
      (∀ first n e, y.slot.request = some (.read first n) → y.slot.staged + 1 = n →
        newest (first + y.slot.staged) e → y.record.state = .ready →
        choice = .next (((s.modMedia b fun m =>
          { m with staging := m.staging.setIfInBounds y.slot.staged (s.queue.dataOf e) }).modSlot b fun x =>
            { x with state := .done, result := .done, staged := n, next := 1 }).latch b .resultReady)))

/-- The passes of a sector read (R143, R145, R9, R118). A failed pass is counted; after the ninth the actuator recalibrates, and
the seventeenth ends the read in HARD ERROR with HARD READ ERRORS raised. A good pass after a failed one raises SOFT READ
ERRORS; the sector is staged, and the request is DONE with its last sector. The label read of a MOUNTING bay gives the Map Unit's
verdict: READY with the table filled, or RAW with LABEL INVALID and an empty table. (The events of a write attempt change nothing
on a read: log entry 7.) -/
def Obligations.ReadPassesEnd : Prop :=
  ∀ (s : State) (b : BayId) (op : MediaOp),
    let y := s.bay b
    y.media.op = some op → op.stage = .atSector → op.kind.isRead = true →
    let n := op.passes + 1
    let bad := exec (.readPassEnd b .bad) s
    let idle := fun (t : State) => t.modMedia b fun m => { m with state := .idle, op := none }
    let soft := if 0 < op.passes then s.raise b .softReadErrors 1 else s
    exec (.sectorIdTimeout b) s = bad ∧ exec (.writeAttemptDone b) s = .next s ∧ exec (.writeFault b) s = .next s ∧
    (n < 17 → n ≠ 9 → bad = .next (s.modMedia b fun m => { m with op := some { op with passes := n } })) ∧
    (n = 9 → bad = .next (((s.modMedia b fun m => { m with op := some { op with passes := 9, stage := .awaitRecal } }).modAct b
      fun x => { x with state := .recalibrating, cylinder := none, recal := .waiting, recalForLoad := false }).request b
        .recalibrate)) ∧
    (op.kind ≠ .labelRead → op.orphan = false → y.slot.state = .inProgress → y.record.state = .ready ∨ y.record.state = .raw →
      (17 ≤ n → bad = .next (((idle (s.raise b .hardReadErrors 1)).modSlot b fun x =>
        { x with state := .done, result := .hardError, next := 1 }).latch b .resultReady)) ∧
      ∀ data r, y.slot.request = some r →
        let t := ((idle soft).modMedia b fun m => { m with staging := m.staging.setIfInBounds y.slot.staged data }).modSlot b
          fun x => { x with staged := y.slot.staged + 1 }
        (y.slot.staged + 1 < r.sectors → exec (.readPassEnd b (.good data)) s = .next t) ∧
        (r.sectors ≤ y.slot.staged + 1 → exec (.readPassEnd b (.good data)) s = .next
          ((t.modSlot b fun x => { x with state := .done, result := .done, next := 1 }).latch b .resultReady))) ∧
    (op.kind = .labelRead → y.record.state = .mounting →
      let raw := fun (t : State) (c : LabelCause) => ((((t.modMap b fun m =>
          { m with entries := Vector.replicate 64 none, dirty := false, generation := 0 }).modRecord b fun r =>
            { r with state := .raw, phase := .none, standing := .unlabelled }).latch b .labelInvalid).modLatches b fun l =>
              { l with labelCause := some c }).latch b .ready
      (17 ≤ n → bad = .next (raw (idle (s.raise b .hardReadErrors 1)) .unreadable)) ∧
      ∀ data,
        (∀ c, judgeLabel y.record.typeCode (some data) = .error c →
          exec (.readPassEnd b (.good data)) s = .next (raw (idle soft) c)) ∧
        (∀ entries generation, judgeLabel y.record.typeCode (some data) = .ok (entries, generation) →
          exec (.readPassEnd b (.good data)) s = .next ((((idle soft).modMap b fun m =>
            { m with entries := Vector.ofFn fun i => entries[i.val]?, dirty := false, generation }).modRecord b fun r =>
              { r with state := .ready, phase := .none, standing := .labelled }).latch b .ready)))

/-- The end of a sector write attempt (R144). A drain write's outcome goes to the Write Queue. A WRITE PHYS completes at its
first success, and after its third failure in HARD ERROR with WRITE FAILURES raised; each failure raises WRITE RETRIES (R147). A
label save that succeeds gives the table its generation and, unless edited since the build, clears the dirty flag; the standing
becomes LABELLED, a RAW bay READY, and an eject goes on to UNLOAD (R121, R158). A failed one is tried again up to three times,
and the eject then goes on with LABEL SAVE FAILED (R120). An attempt that succeeds has written the 512 bytes of its source slot
at its target: the write slot of its entry, the first staging slot, or the label built; one that fails leaves the last sector
performed as it was (log entry 41). A MAP SAVE fails as a WRITE PHYS does (R148). (The end of a read's pass changes nothing on a
write: log entry 7.) -/
def Obligations.WriteAttemptsEnd : Prop :=
  ∀ (s : State) (b : BayId) (op : MediaOp),
    let y := s.bay b
    y.media.op = some op → op.stage = .atSector → op.kind.isWrite = true →
    let done := exec (.writeAttemptDone b) s
    let fault := exec (.writeFault b) s
    let idle := fun (t : State) => t.modMedia b fun m => { m with state := .idle, op := none }
    let completes := fun (t : State) (r : ResultStatus) =>
      (t.modSlot b fun x => { x with state := .done, result := r, next := 1 }).latch b .resultReady
    let saved := { y.map with generation := y.map.built, dirty := y.map.dirty && y.map.edited }
    let working := y.record.state = .ready ∨ y.record.state = .raw
    let written := fun (d : Sector) => s.modMedia b fun m => { m with written := some (op.target, d) }
    exec (.sectorIdTimeout b) s = fault ∧ (∀ result, exec (.readPassEnd b result) s = .next s) ∧
    (∀ n, op.kind = .drainWrite → op.arrival = some n →
      fault = .next ((idle s).send (.failed b n)) ∧
      (∃ w, done = .next ((idle (s.modMedia b fun m => { m with written := w })).send (.performed b n)) ∧
        (w = y.media.written ∨ ∃ d, w = some (op.target, d))) ∧
      (∀ pre e post, s.queue.items = pre ++ .entry e :: post → e.bay = b → e.arrival = n → e.writing = true →
        (∀ f ∈ entriesOf pre, ¬ (f.bay = b ∧ f.writing = true)) → ∀ i : Fin 16, e.slot = i.val →
          done = .next ((idle (written s.queue.slots[i])).send (.performed b n)))) ∧
    (op.kind = .slotWritePhys → op.orphan = false → y.slot.state = .inProgress → working →
      done = .next (completes (idle (written y.media.staging[0])) .done)) ∧
    (op.kind = .slotWritePhys ∨ op.kind = .slotMapSave → op.orphan = false → y.slot.state = .inProgress → working →
      (op.attempt < 3 → fault = .next ((idle (s.raise b .writeRetries 1)).modMedia b fun m =>
        { m with slotFailures := op.attempt })) ∧
      (3 ≤ op.attempt → fault = .next (completes (idle ((s.raise b .writeRetries 1).raise b .writeFailures 1)) .hardError))) ∧
    (op.kind = .slotMapSave → op.orphan = false → y.slot.state = .inProgress → working →
      let t := (idle (written y.media.label)).modMap b fun _ => saved
      (y.record.state = .ready → done = .next (completes (t.modRecord b fun r => { r with standing := .labelled }) .done)) ∧
      (y.record.state = .raw → done = .next (completes ((t.modRecord b fun r =>
        { r with standing := .labelled, state := .ready, phase := .none }).latch b .ready) .done))) ∧
    (∀ e, op.kind = .labelSave → y.record.state = .ejecting → y.record.phase = .drain → y.record.eject = some e →
      e.saveMarker = true →
      (op.attempt < 3 → op.orphan = false → ∃ t, fault = .next t ∧ (t.bay b).media.custody = some .labelSave ∧
        (t.bay b).media.saveFailures = op.attempt ∧ (t.bay b).media.written = y.media.written ∧
        (t.bay b).map = y.map ∧ (t.bay b).record = y.record) ∧
      (3 ≤ op.attempt → y.act.state ≠ .unloaded → ∃ t, fault = .next t ∧ t.latched b .labelSaveFailed = true ∧
        (t.bay b).map = y.map ∧ (t.bay b).record.phase = .unload ∧ (t.bay b).act.state = .unloading) ∧
      (y.act.state ≠ .unloaded → ∃ t, done = .next t ∧ (t.bay b).media.written = some (op.target, y.media.label) ∧
        (t.bay b).map = saved ∧ (t.bay b).record.standing = .labelled ∧
        (t.bay b).record.state = .ejecting ∧ (t.bay b).record.phase = .unload ∧ (t.bay b).act.state = .unloading))

/-! ### The Write Queue (chapter 8) -/

/-- The outcome of a drain write at the Write Queue. A performed entry leaves the list (R133). A failed one raises WRITE
RETRIES and, by the first that applies, leaves the list for a newer QUEUED entry of its block in its stretch, is given up at
its third failure with a fault record, or returns to QUEUED with one more attempt (R134). An abandoned one is superseded or
returns with its attempts unchanged (R135). The mark test follows a removal (R129), and an outcome for an entry no longer in
the list is not acted on. A bay that parks unloads once the last entry has gone (R11). An outcome on its way is a notice (log
entry 3), and a drain waits for the operation in flight (log entry 16). -/
def Obligations.DrainOutcomesAreTaken : Prop :=
  ∀ (s : State) (b : BayId) (early late : List Signal) (e : WriteEntry) (pre post : List Item),
    let y := s.bay b
    let t : State := { s with signals := early ++ late }
    let arrives := fun (x : Signal) => s.signals = early ++ x :: late ∧ ∀ z ∈ early, Signal.isOutcome b z = false
    let listed := s.queue.items = pre ++ .entry e :: post ∧ e.bay = b ∧ e.writing = true ∧
      ∀ f ∈ entriesOf (pre ++ post), ¬ (f.bay = b ∧ f.writing = true)
    let gone := ∀ f ∈ entriesOf s.queue.items, ¬ (f.bay = b ∧ f.arrival = e.arrival ∧ f.writing = true)
    let rest := y.record.state ≠ .parking ∧ y.record.state ≠ .ejecting
    let withItems := fun (u : State) (items : List Item) => ({ u with queue := { u.queue with items } } : State)
    let removed := fun (u : State) => (withItems u (pre ++ post)).markTest b
    let newer := ∃ mid f tail, post = mid ++ .entry f :: tail ∧ (∀ k, Item.mark b k ∉ mid) ∧ f.bay = b ∧ f.block = e.block ∧
      f.writing = false
    let counted := t.raise b .writeRetries 1
    (arrives (.performed b e.arrival) →
      let performed := exec (.entryPerformed b) s
      (gone → performed = .next t) ∧ (listed → rest → performed = .next (removed t)) ∧
      (listed → y.record.state = .parking → y.record.parkStep = .drain → (∀ i ∈ pre ++ post, i.bay ≠ b) →
        y.slot.mediaWork = false → y.media.op = none → y.act.state ≠ .unloaded →
        ∃ u, performed = .next u ∧ u.queue.items = pre ++ post ∧ (u.bay b).record.parkStep = .unload ∧
          (u.bay b).act.state = .unloading)) ∧
    (arrives (.failed b e.arrival) →
      let failed := exec (.entryFailed b) s
      (gone → failed = .next t) ∧
      (listed → rest → newer → failed = .next (removed counted)) ∧
      (listed → rest → ¬ newer → 3 ≤ e.attempts + 1 → failed = .next (removed
        (((counted.raise b .writeFailures 1).appendFault (.writeFailed b e.block)).latch b .writeFailed))) ∧
      (listed → rest → ¬ newer → e.attempts + 1 < 3 → failed = .next
        (withItems counted (pre ++ .entry { e with writing := false, attempts := e.attempts + 1 } :: post)))) ∧
    (arrives (.abandoned b e.arrival) →
      let abandoned := exec (.entryAbandoned b) s
      (gone → abandoned = .next t) ∧ (listed → rest → newer → abandoned = .next (removed t)) ∧
      (listed → ¬ newer → abandoned = .next (withItems t (pre ++ .entry { e with writing := false } :: post))))

/-- WRITE is refused by the bay state, then for a block out of range (R124), and is then placed (R125): it merges into a QUEUED
entry of its block with no mark of the bay after it, whose data alone changes; or it is appended QUEUED with the lowest free
slot and the next arrival number; or, with every slot in use, it is refused QUEUE FULL. -/
def Obligations.WritesArePlaced : Prop :=
  ∀ (s : State) (b : BayId) (block : BitVec 16) (data : Sector), s.receives = true → s.queue.Ok →
    let r := (s.bay b).record
    let n := block.toNat
    let q := s.queue
    let write := exec (.write b.field block data) s
    let refused := fun st => write = .next (s.replied 0x15 b.field st)
    let answer := fun (q' : WriteQueue) (arrival merged : Nat) => write = .next ({ s with queue := q' }.replied 0x15 b.field .ok
      [BitVec.ofNat 8 arrival, BitVec.ofNat 8 (arrival / 256), BitVec.ofNat 8 merged])
    let inRange := n < (if r.typeCode = 1 then 18960 else if r.typeCode = 2 then 38160 else 0)
    let mergesInto := fun (e : WriteEntry) => ∃ pre post, q.items = pre ++ .entry e :: post ∧ e.bay = b ∧ e.block = n ∧
      e.writing = false ∧ ∀ k, Item.mark b k ∉ post
    (r.state = .raw → refused .rawMedia) ∧ (r.state = .ejecting → refused .ejecting) ∧
    (r.state ≠ .ready → r.state ≠ .raw → r.state ≠ .ejecting → refused .notReady) ∧
    (r.state = .ready → ¬ inRange → refused .badAddress) ∧
    (r.state = .ready → inRange →
      (∀ e, mergesInto e → answer { q with slots := q.slots.setIfInBounds e.slot data } e.arrival 0) ∧
      ((∀ e, ¬ mergesInto e) →
        (∀ i : Nat, i < 16 → (∀ e ∈ entriesOf q.items, e.slot ≠ i) → (∀ j < i, ∃ e ∈ entriesOf q.items, e.slot = j) →
          answer { q with
            items := q.items ++ [.entry { bay := b, block := n, slot := i, writing := false, attempts := 0,
                                          arrival := q.nextArrival }]
            slots := q.slots.setIfInBounds i data
            nextArrival := (q.nextArrival + 1) % 65536 } q.nextArrival 1) ∧
        ((∀ i < 16, ∃ e ∈ entriesOf q.items, e.slot = i) → refused .queueFull)))

/-- ORDER and FLUSH are refused by the bay state. ORDER adds a mark behind a write entry of the bay, and nothing where the bay
has no item or its last is a mark; with 8 marks held it is refused QUEUE FULL (R127). FLUSH is refused for the slot and then for
the marks, and otherwise takes the slot and appends its mark, and the mark test follows (R128). The test removes each mark of
the bay with no entry of the bay before it, a FLUSH completing the slot with DONE, and stops at an entry (R129). -/
def Obligations.OrdersAndFlushes : Prop :=
  ∀ (s : State) (b : BayId),
    let y := s.bay b
    let order := exec (.order b.field) s
    let flush := exec (.flush b.field) s
    let orderOk := fun (items : List Item) => order = .next ({ s with queue := { s.queue with items } }.replied 0x14 b.field .ok)
    let refusedBoth := fun st => order = .next (s.replied 0x14 b.field st) ∧ flush = .next (s.replied 0x34 b.field st)
    (s.receives = true →
      (y.record.state = .raw → refusedBoth .rawMedia) ∧ (y.record.state = .ejecting → refusedBoth .ejecting) ∧
      (y.record.state ≠ .ready → y.record.state ≠ .raw → y.record.state ≠ .ejecting → refusedBoth .notReady) ∧
      (y.record.state = .ready →
        ((∀ i ∈ s.queue.items, i.bay ≠ b) → orderOk s.queue.items) ∧
        (∀ pre last post, s.queue.items = pre ++ last :: post → last.bay = b → (∀ i ∈ post, i.bay ≠ b) →
          (last.isEntry = false → orderOk s.queue.items) ∧
          (last.isEntry = true → s.queue.markCount < 8 → orderOk (s.queue.items ++ [.mark b .order])) ∧
          (last.isEntry = true → 8 ≤ s.queue.markCount → order = .next (s.replied 0x14 b.field .queueFull))) ∧
        (y.slot.state ≠ .free → flush = .next (s.replied 0x34 b.field .busy)) ∧
        (y.slot.state = .free → 8 ≤ s.queue.markCount → flush = .next (s.replied 0x34 b.field .queueFull)) ∧
        (y.slot.state = .free → s.queue.markCount < 8 → flush = .next
          ((((({ s with queue := { s.queue with items := s.queue.items ++ [.mark b .flush] } } : State).modSlot b
            fun _ => { state := .inProgress, request := some .flush }).modMedia b fun m => { m with slotFailures := 0 }).replied
              0x34 b.field .accepted).markTest b)))) ∧
    ((∀ i ∈ s.queue.items, i.bay ≠ b) → s.markTest b = s) ∧
    ∀ pre first post, s.queue.items = pre ++ first :: post → first.bay = b → (∀ i ∈ pre, i.bay ≠ b) →
      let t : State := { s with queue := { s.queue with items := pre ++ post } }
      (first.isEntry = true → s.markTest b = s) ∧
      (first = .mark b .order → s.markTest b = t.markTest b) ∧
      (first = .mark b .flush → y.slot.state = .inProgress → y.slot.request = some .flush →
        s.markTest b = ((t.modSlot b fun x => { x with state := .done, result := .done, next := 1 }).latch b
          .resultReady).markTest b)

/-! ### Requests and their slots (chapters 7 to 11) -/

/-- RESULT is answered by the slot: NO RESULT, PENDING with the request code, or the result, with each staged sector in turn; the
slot is FREE with the last of them (R171). ABORT frees the slot: a result is discarded, a media operation under way finishes with
its outcome discarded, a FLUSH mark becomes ORDER, and an EJECT is honoured in DRAIN and refused BUSY elsewhere (R172, R130,
R159). -/
def Obligations.ResultsAndAborts : Prop :=
  ∀ (s : State) (b : BayId), s.receives = true →
    let y := s.bay b
    let result := exec (.result b.field) s
    let abort := exec (.abort b.field) s
    let free := (s.modSlot b fun _ => {}).modMedia b fun m => { m with slotFailures := 0 }
    let ended := fun (t : State) => abort = .next (t.replied 0x19 b.field .ok)
    (y.slot.state = .free → result = .next (s.replied 0x18 b.field .noResult) ∧ ended s) ∧
    (y.slot.state = .done → ended free) ∧
    (∀ r, y.slot.request = some r →
      let code := BitVec.ofNat 8 r.code
      (y.slot.state = .inProgress → result = .next (s.replied 0x18 b.field .pending [code])) ∧
      (y.slot.state = .done → r.sectors = 0 ∨ y.slot.staged = 0 →
        result = .next (free.replied 0x18 b.field .ok [code, BitVec.ofNat 8 y.slot.result.code, 0#8, 0#8])) ∧
      (y.slot.state = .done → 0 < r.sectors → ∀ i : Fin 4, y.slot.next = i.val + 1 → i.val < y.slot.staged →
        result = .next ((if y.slot.next = y.slot.staged then free
            else s.modSlot b fun x => { x with next := y.slot.next + 1 }).replied 0x18 b.field .ok
          ([code, BitVec.ofNat 8 y.slot.result.code, BitVec.ofNat 8 y.slot.staged, BitVec.ofNat 8 y.slot.next] ++
            y.media.staging[i].toList))) ∧
      (y.slot.state = .inProgress → r.isMedia = true → y.record.state ≠ .parking → y.record.state ≠ .ejecting →
        ended (free.modMedia b fun m =>
          { m with op := m.op.map fun o => if o.kind.isSlot then { o with orphan := true } else o })) ∧
      (y.slot.state = .inProgress → r.isMedia = true → ∃ t, abort = .next t ∧ (t.bay b).slot = {} ∧
        t.queue = s.queue ∧ t.bay b.other = s.bay b.other ∧
        t.link.reply = some { status := .ok, code := 0x19, bay := b.field, body := [] }) ∧
      (y.slot.state = .inProgress → r = .flush → ended { free with queue := { s.queue with
        items := s.queue.items.map fun i => if i = .mark b .flush then .mark b .order else i } }) ∧
      (y.slot.state = .inProgress → r = .eject → ¬ (y.record.state = .ejecting ∧ y.record.phase = .drain) →
        abort = .next (s.replied 0x19 b.field .busy)) ∧
      (y.slot.state = .inProgress → r = .eject → y.record.state = .ejecting → y.record.phase = .drain →
        y.record.standing ≠ .none →
        ended (((free.modRecord b fun z =>
          { z with state := if z.standing = .labelled then .ready else .raw, phase := .none, eject := none }).modMedia b
            fun m => { m with custody := none, saveFailures := 0,
                              op := m.op.map fun o => if o.kind = .labelSave then { o with orphan := true } else o }).latch b
              .ready)))

/-- The map messages (R109 to R115): judged by the bay state, the index, the block and the spare; an edit is refused BUSY while
a block it touches is WRITING, a write DUPLICATE for a block or spare of another valid entry, and MAP WRITE ANY TABLE FULL with
no invalid index. Probes and reads change nothing; an edit changes its entry, and sets the dirty flag and the marker. The reply
carries the answer and the summary of the table. -/
def Obligations.MapMessages : Prop :=
  ∀ (s : State) (b : BayId) (index : Byte) (block : BitVec 16) (spare : Byte), s.receives = true →
    let y := s.bay b
    let t := y.map
    let n := block.toNat
    let entry : MapEntry := { block := n, spare := spare.toNat }
    let probe := exec (.mapProbe b.field block) s
    let read := exec (.mapRead b.field index) s
    let write := exec (.mapWrite b.field index block spare) s
    let any := exec (.mapWriteAny b.field block spare) s
    let clear := exec (.mapClear b.field index) s
    let answer := fun (code : Byte) (st : ReplyStatus) (m : RemapTable) (body : List Byte) =>
      Host.Outcome.next ((s.modMap b fun _ => m).replied code b.field st (body ++
        [BitVec.ofNat 8 m.valid.length, BitVec.ofNat 8 m.dirty.toNat, BitVec.ofNat 8 m.generation,
          BitVec.ofNat 8 (m.generation / 256)]))
    let refused := fun (code : Byte) st => Host.Outcome.next (s.replied code b.field st)
    let edited := fun (i : Fin 64) (e : Option MapEntry) =>
      { t with entries := t.entries.set i e, dirty := true, edited := true }
    let works := y.record.state = .ready ∨ y.record.state = .raw
    let inRange := n < (if y.record.typeCode = 1 then 18960 else if y.record.typeCode = 2 then 38160 else 0)
    let writing := fun k => ∃ e ∈ entriesOf s.queue.items, e.bay = b ∧ e.block = k ∧ e.writing = true
    let taken := fun (except : Option Nat) => ∃ (j : Fin 64) (m : MapEntry), some j.val ≠ except ∧ t.entries[j] = some m ∧
      (m.block = n ∨ m.spare = spare.toNat)
    (¬ works → let st := if y.record.state = .ejecting then ReplyStatus.ejecting else .notReady
      probe = refused 0x20 st ∧ read = refused 0x21 st ∧ write = refused 0x22 st ∧ any = refused 0x23 st ∧
      clear = refused 0x24 st) ∧
    (works → 63 < index.toNat →
      read = refused 0x21 .badValue ∧ write = refused 0x22 .badValue ∧ clear = refused 0x24 .badValue) ∧
    (works → ¬ inRange → probe = refused 0x20 .badAddress ∧ any = refused 0x23 .badAddress ∧
      (index.toNat ≤ 63 → write = refused 0x22 .badAddress)) ∧
    (works → inRange → 191 < spare.toNat → any = refused 0x23 .badAddress ∧
      (index.toNat ≤ 63 → write = refused 0x22 .badAddress)) ∧
    (works → inRange →
      (∀ (i : Fin 64) m, t.entries[i] = some m → m.block = n → (∀ j < i, ∀ k, t.entries[j] = some k → k.block ≠ n) →
        probe = answer 0x20 .ok t [BitVec.ofNat 8 i.val, BitVec.ofNat 8 m.spare]) ∧
      ((∀ (j : Fin 64) k, t.entries[j] = some k → k.block ≠ n) → probe = answer 0x20 .notFound t [])) ∧
    (works → inRange → spare.toNat ≤ 191 →
      (writing n → any = refused 0x23 .busy) ∧
      (¬ writing n → taken none → any = refused 0x23 .duplicate) ∧
      (¬ writing n → ¬ taken none →
        (∀ i : Fin 64, t.entries[i] = none → (∀ j < i, t.entries[j] ≠ none) →
          any = answer 0x23 .ok (edited i (some entry)) [BitVec.ofNat 8 i.val]) ∧
        ((∀ i : Fin 64, t.entries[i] ≠ none) → any = refused 0x23 .tableFull))) ∧
    ∀ i : Fin 64, index.toNat = i.val → works →
      (t.entries[i] = none → read = answer 0x21 .ok t [0#8] ∧ clear = answer 0x24 .ok t []) ∧
      (∀ m, t.entries[i] = some m →
        read = answer 0x21 .ok t [1#8, BitVec.ofNat 8 m.block, BitVec.ofNat 8 (m.block / 256), BitVec.ofNat 8 m.spare] ∧
        (writing m.block → clear = refused 0x24 .busy) ∧
        (¬ writing m.block → clear = answer 0x24 .ok (edited i none) [])) ∧
      (inRange → spare.toNat ≤ 191 →
        let touched := writing n ∨ ∃ m, t.entries[i] = some m ∧ writing m.block
        (touched → write = refused 0x22 .busy) ∧
        (¬ touched → taken (some i.val) → write = refused 0x22 .duplicate) ∧
        (¬ touched → ¬ taken (some i.val) → write = answer 0x22 .ok (edited i (some entry)) []))

/-- READ, READ PHYS, WRITE PHYS, SEEK and MAP SAVE are judged by the bay state, the slot and the address, a count outside 1..4
being refused BAD MESSAGE first (log entry 8) and WRITE PHYS last of all BUSY while the queue holds an entry of the bay; one that
passes takes the slot and is answered ACCEPTED, WRITE PHYS placing its data in the first staging slot, and nothing else changes
(R145 to R148, R119, R170, R4). -/
def Obligations.LongRequestsAreJudged : Prop :=
  ∀ (s : State) (b : BayId) (block cylinder : BitVec 16) (head sector count : Byte) (data : Sector), s.receives = true →
    let y := s.bay b
    let st := y.record.state
    let read := exec (.read b.field block count) s
    let readPhys := exec (.readPhys b.field cylinder head sector count) s
    let writePhys := exec (.writePhys b.field cylinder head sector data) s
    let seek := exec (.seek b.field cylinder) s
    let save := exec (.mapSave b.field) s
    let refused := fun (code : Byte) (r : ReplyStatus) => Host.Outcome.next (s.replied code b.field r)
    let accepted := fun (code : Byte) (r : LongRequest) => ((s.modSlot b fun _ =>
      { state := .inProgress, request := some r }).modMedia b fun m => { m with slotFailures := 0 }).replied code b.field .accepted
    let blocks := if y.record.typeCode = 1 then 18960 else if y.record.typeCode = 2 then 38160 else 0
    let c := match y.record.typeCode with | 1 => 400 | 2 => 800 | 3 => 800 | _ => 0
    let p : PhysAddr := { cylinder := cylinder.toNat, head := head.toNat, sector := sector.toNat }
    let inRange := cylinder.toNat < c ∧ head.toNat ≤ 1 ∧ sector.toNat ≤ 23
    let counted := 1 ≤ count.toNat ∧ count.toNat ≤ 4
    let last := block.toNat + count.toNat - 1
    (¬ counted → read = refused 0x31 .badMessage ∧ readPhys = refused 0x32 .badMessage) ∧
    (counted →
      (st ≠ .ready → read = refused 0x31 (if st = .raw then .rawMedia else if st = .ejecting then .ejecting else .notReady)) ∧
      (st = .ready → y.slot.state ≠ .free → read = refused 0x31 .busy) ∧
      (st = .ready → y.slot.state = .free → blocks ≤ last → read = refused 0x31 .badAddress) ∧
      (st = .ready → y.slot.state = .free → last < blocks →
        read = .next (accepted 0x31 (.read block.toNat count.toNat)))) ∧
    (st ≠ .ready → st ≠ .raw →
      let r := if st = .ejecting then ReplyStatus.ejecting else .notReady
      (counted → readPhys = refused 0x32 r) ∧ writePhys = refused 0x33 r ∧ seek = refused 0x35 r ∧ save = refused 0x36 r) ∧
    (st = .ready ∨ st = .raw → y.slot.state ≠ .free →
      (counted → readPhys = refused 0x32 .busy) ∧ writePhys = refused 0x33 .busy ∧ seek = refused 0x35 .busy ∧
      save = refused 0x36 .busy) ∧
    (st = .ready ∨ st = .raw → y.slot.state = .free →
      save = .next (accepted 0x36 .mapSave) ∧
      seek = (if cylinder.toNat < c then .next (accepted 0x35 (.seek cylinder.toNat)) else refused 0x35 .badAddress) ∧
      (counted → readPhys = (if inRange ∧ sector.toNat + count.toNat - 1 ≤ 23 then
        .next (accepted 0x32 (.readPhys p count.toNat)) else refused 0x32 .badAddress)) ∧
      writePhys = (if inRange then
          if ∀ e ∈ entriesOf s.queue.items, e.bay ≠ b then
            .next ((accepted 0x33 (.writePhys p)).modMedia b fun m => { m with staging := m.staging.set 0 data })
          else refused 0x33 .busy
        else refused 0x33 .badAddress))

/-! ### Addresses and labels (chapters 1 and 7) -/

/-- Resolution places every block on a sector of its own: on a data cartridge with a remap table in order, two different blocks
never resolve to one physical address, none to cylinder 0, and every address is one of the cartridge's. -/
def Obligations.BlocksHaveSectorsOfTheirOwn : Prop :=
  ∀ (t : RemapTable) (typeCode m n : Nat), (typeCode = 1 ∨ typeCode = 2) → t.Ok typeCode →
    blockOk typeCode m = true → blockOk typeCode n = true →
    (t.resolve typeCode m = t.resolve typeCode n → m = n) ∧
    physOk typeCode (t.resolve typeCode m) = true ∧ 1 ≤ (t.resolve typeCode m).cylinder

/-- A label that the Map Unit builds is valid when it is read back in a bay of the same type, with every valid entry of the
table in index order and the generation it was written with. A label read is judged on its 256 words in this order, and the
first check that fails names the cause (R117): a failed read UNREADABLE; the magic words and the version BAD MAGIC; the sum of
all words BAD CHECK; the type field TYPE MISMATCH; the count, and the block and spare of each entry, BAD ENTRY; two entries with
one block or one spare BAD ENTRY. A label that passes gives its entries and its generation. -/
def Obligations.BuiltLabelIsValid : Prop :=
  (∀ (t : RemapTable) (typeCode : Nat), (typeCode = 1 ∨ typeCode = 2) → t.Ok typeCode →
    judgeLabel typeCode (some (t.labelSector typeCode)) = .ok (t.valid, (t.generation + 1) % 65536)) ∧
  (∀ typeCode : Nat, judgeLabel typeCode none = .error .unreadable) ∧
  ∀ (typeCode : Nat) (d : Sector),
    let judged := judgeLabel typeCode (some d)
    let byteAt := fun (i : Nat) => (d[i]?.getD 0#8).toNat
    let word := fun (i : Nat) => byteAt (2 * i) + 256 * byteAt (2 * i + 1)
    let count := word 4
    let block := fun (i : Nat) => word (6 + 2 * i)
    let spare := fun (i : Nat) => byteAt (2 * (7 + 2 * i))
    let blocks := if typeCode = 1 then 18960 else if typeCode = 2 then 38160 else 0
    let magic := word 0 = 0x5A3C ∧ word 1 = 0xC3A5 ∧ word 3 = 1
    let check := ((List.range 256).map word).sum % 65536 = 0
    let ranges := count ≤ 64 ∧ ∀ i < count, block i < blocks ∧ spare i ≤ 191
    let distinct := ∀ i < count, ∀ j < i, block i ≠ block j ∧ spare i ≠ spare j
    (¬ magic → judged = .error .badMagic) ∧ (magic → ¬ check → judged = .error .badCheck) ∧
    (magic → check → word 2 ≠ typeCode → judged = .error .typeMismatch) ∧
    (magic → check → word 2 = typeCode → ¬ ranges ∨ ¬ distinct → judged = .error .badEntry) ∧
    (magic → check → word 2 = typeCode → ranges → distinct →
      judged = .ok ((List.range count).map fun i => { block := block i, spare := spare i }, word 5))

/-! ### What every step keeps -/

/-- Every step keeps the rules of the Supply Budget: above all, the draws granted never exceed the effective capacity, no owner
has two claims, and the wait list never holds two requests of one bay. -/
def Obligations.BudgetRulesAreKept : Prop := ∀ s t : State, s.budget.Ok → step s = .next t → t.budget.Ok

/-- Every step keeps the rules of the Write Queue: above all, at most 16 entries with a slot each and 8 marks, at most one
WRITING entry of a bay, with no mark of the bay before it, and at most one QUEUED entry of a block between two marks of its
bay. -/
def Obligations.QueueRulesAreKept : Prop := ∀ s t : State, s.queue.Ok → step s = .next t → t.queue.Ok

/-- Every step keeps the figures of the unit in the ranges the spec gives them, and the remap tables in order. -/
def Obligations.RangesAreKept : Prop := ∀ s t : State, s.RangesOk → step s = .next t → t.RangesOk

/-- Every step keeps the rules of the mechanics: above all, the heads are never loaded, tracking or seeking on a disc whose
spindle is not in RUN, and the solenoid is pulsed only with the heads unloaded, the spindle off and the queue without items of
the bay. -/
def Obligations.MechanicsRulesAreKept : Prop := ∀ s t : State, s.MechanicsOk → step s = .next t → t.MechanicsOk

/-- The machine after reset keeps all these rules, and so does a machine just powered on, whatever stood before and whatever its
pins read. -/
def Obligations.RulesHoldAtPowerOn : Prop :=
  (State.reset.budget.Ok ∧ State.reset.queue.Ok ∧ State.reset.RangesOk ∧ State.reset.MechanicsOk) ∧
  ∀ (p : PinLevels) (s t : State), exec (.powerOn p) s = .next t →
    t.budget.Ok ∧ t.queue.Ok ∧ t.RangesOk ∧ t.MechanicsOk
end

