-- ==== Sys2Proof/Laws/Budget.lean ====
section
/-!
SUPPORT. What the operations of the Supply Budget do (chapter 2): the examination, arrivals, releases, withdrawals and the
capacity.
-/

namespace Sys2Proof.Machine

/-! ### Fields an operation leaves -/

@[simp] theorem Budget.addClaim_waitList (u : Budget) (c : Claim) : (u.addClaim c).waitList = u.waitList := rfl
@[simp] theorem Budget.addClaim_effective (u : Budget) (c : Claim) : (u.addClaim c).effective = u.effective := rfl
@[simp] theorem Budget.addClaim_pending (u : Budget) (c : Claim) : (u.addClaim c).pending = u.pending := rfl
@[simp] theorem Budget.addClaim_supply (u : Budget) (c : Claim) : (u.addClaim c).supply = u.supply := rfl
@[simp] theorem Budget.addClaim_powerOnHold (u : Budget) (c : Claim) : (u.addClaim c).powerOnHold = u.powerOnHold := rfl
@[simp] theorem Budget.addClaim_holdTimer (u : Budget) (c : Claim) : (u.addClaim c).holdTimer = u.holdTimer := rfl
@[simp] theorem Budget.addClaim_judging (u : Budget) (c : Claim) : (u.addClaim c).judging = u.judging := rfl
@[simp] theorem Budget.join_claims (u : Budget) (r : Request) : (u.join r).claims = u.claims := rfl
@[simp] theorem Budget.join_effective (u : Budget) (r : Request) : (u.join r).effective = u.effective := rfl
@[simp] theorem Budget.join_pending (u : Budget) (r : Request) : (u.join r).pending = u.pending := rfl
@[simp] theorem Budget.join_supply (u : Budget) (r : Request) : (u.join r).supply = u.supply := rfl
@[simp] theorem Budget.lose_claims (u : Budget) : u.lose.claims = [] := rfl
@[simp] theorem Budget.lose_waitList (u : Budget) : u.lose.waitList = [] := rfl
@[simp] theorem Budget.lose_supply (u : Budget) : u.lose.supply = .low := rfl
@[simp] theorem Budget.lose_effective (u : Budget) : u.lose.effective = u.judging := rfl

/-- A claim added for an owner without one joins the table at its end (R22). -/
theorem Budget.addClaim_of_absent {u : Budget} {c : Claim} (h : ∀ d ∈ u.claims, ¬ (d.bay = c.bay ∧ d.consumer = c.consumer)) :
    u.addClaim c = { u with claims := u.claims ++ [c] } := by
  have : (u.claims.filter fun d => !(d.bay = c.bay ∧ d.consumer = c.consumer)) = u.claims := by
    apply List.filter_eq_self.2
    intro d hd; have := h d hd; simp only [Bool.not_eq_eq_eq_not, Bool.not_true, decide_eq_false_iff_not]; exact this
  simp only [Budget.addClaim, this]

/-- A request of a bay without one joins the wait list at its tail (R26). -/
theorem Budget.join_of_absent {u : Budget} {r : Request} (h : ∀ q ∈ u.waitList, q.bay ≠ r.bay) :
    u.join r = { u with waitList := u.waitList ++ [r] } := by
  have : (u.waitList.filter fun q => q.bay ≠ r.bay) = u.waitList := by
    apply List.filter_eq_self.2
    intro q hq; simpa using h q hq
  simp only [Budget.join, this]

/-! ### Fitting (R29) -/

/-- The level granted is from E to 3 and fits, and no lower-numbered level from E on does (R29). -/
theorem fitLevel_some {e l : Nat} {h : Int} (hl : fitLevel e h = some l) :
    e ≤ l ∧ l ≤ 3 ∧ (seekDraw l : Int) ≤ h ∧ ∀ m, e ≤ m → m < l → h < seekDraw m := by
  have hp := List.find?_some hl
  have hm := List.mem_of_find?_eq_some hl
  simp only [decide_eq_true_eq] at hp
  have h3 : l ≤ 3 := by simp at hm; omega
  refine ⟨hp.1, h3, hp.2, fun m he hml => ?_⟩
  refine Int.not_le.1 fun hc => ?_
  obtain ⟨-, before, after, hl', hb⟩ := List.find?_eq_some_iff_append.1 hl
  have hmem : m ∈ before := by
    have h4 : m = 0 ∨ m = 1 ∨ m = 2 := by omega
    have h5 : l = 0 ∨ l = 1 ∨ l = 2 ∨ l = 3 := by omega
    match before with
    | [] | [_] | [_, _] | [_, _, _] =>
      simp at hl'
      all_goals obtain ⟨_, _⟩ := hl'
      all_goals subst_vars
      all_goals (simp_all; try omega)
    | _ :: _ :: _ :: _ :: _ => simp at hl'
  have := hb m hmem
  simp at this
  omega

/-- A request is fitted only with a draw that the headroom covers (R25, R29). -/
theorem Request.fit_le {r : Request} {h : Int} {l d : Nat} (hf : r.fit h = some (l, d)) : (d : Int) ≤ h := by
  unfold Request.fit at hf
  split at hf
  · simp only [Option.map_eq_some_iff] at hf
    obtain ⟨m, hm, he⟩ := hf
    obtain ⟨-, -, hd, -⟩ := fitLevel_some hm
    simp only [Prod.mk.injEq] at he
    obtain ⟨rfl, rfl⟩ := he
    exact hd
  · split at hf
    · simp only [Option.some.injEq, Prod.mk.injEq] at hf
      obtain ⟨-, rfl⟩ := hf
      assumption
    · simp at hf

/-! ### The examination (R27) -/

/-- The examination leaves the capacity and the supply state. -/
theorem Budget.examineFrom_frame (u : Budget) (l : List Request) :
    (u.examineFrom l).1.effective = u.effective ∧ (u.examineFrom l).1.pending = u.pending ∧
    (u.examineFrom l).1.supply = u.supply ∧ (u.examineFrom l).1.powerOnHold = u.powerOnHold ∧
    (u.examineFrom l).1.holdTimer = u.holdTimer := by
  induction l generalizing u with
  | nil => simp [Budget.examineFrom]
  | cons r rest ih =>
    simp only [Budget.examineFrom]
    split
    · rename_i m d _
      simpa using ih (u.addClaim (r.claim d))
    · simp

/-- The requests granted are a first part of the list, in order, and the rest stays. -/
theorem Budget.examineFrom_waitList (u : Budget) (l : List Request) :
    (u.examineFrom l).1.waitList = l.drop (u.examineFrom l).2.length := by
  induction l generalizing u with
  | nil => simp [Budget.examineFrom]
  | cons r rest ih =>
    simp only [Budget.examineFrom]
    split
    · rename_i m d _
      simpa using ih (u.addClaim (r.claim d))
    · simp

/-- Every notice of an examination is a grant of a request of the list. -/
theorem Budget.examineFrom_grants (u : Budget) (l : List Request) :
    ∀ g ∈ (u.examineFrom l).2, ∃ r ∈ l, ∃ m, g = .grant r.bay r.kind m := by
  induction l generalizing u with
  | nil => simp [Budget.examineFrom]
  | cons r rest ih =>
    simp only [Budget.examineFrom]
    split
    · rename_i m d _
      intro g hg
      simp only [List.mem_cons] at hg
      rcases hg with rfl | hg
      · exact ⟨r, by simp, m, rfl⟩
      · obtain ⟨q, hq, k, rfl⟩ := ih _ g hg
        exact ⟨q, by simp [hq], k, rfl⟩
    · simp

/-- Out of GOOD nothing is examined. -/
theorem Budget.examine_else {u : Budget} (h : u.supply ≠ .good) : u.examine = (u, []) := if_neg h

/-- In GOOD the list is examined from its head. -/
theorem Budget.examine_good {u : Budget} (h : u.supply = .good) : u.examine = u.examineFrom u.waitList := if_pos h

/-- With no request waiting an examination does nothing. -/
@[simp] theorem Budget.examine_empty {u : Budget} (h : u.waitList = []) : u.examine = (u, []) := by
  unfold Budget.examine
  split
  · rw [h]; simp only [Budget.examineFrom]; rw [← h]
  · rfl

/-- What an examination leaves. -/
theorem Budget.examine_frame (u : Budget) :
    u.examine.1.effective = u.effective ∧ u.examine.1.pending = u.pending ∧ u.examine.1.supply = u.supply ∧
    u.examine.1.powerOnHold = u.powerOnHold ∧ u.examine.1.holdTimer = u.holdTimer := by
  unfold Budget.examine
  split
  · exact u.examineFrom_frame _
  · simp

/-! ### Arrivals, releases, withdrawals and the capacity -/

/-- A request is granted at once under a claim of its own, or joins the wait list (R25, R28, R35). -/
theorem Budget.take_cases (u : Budget) (r : Request) :
    u.take r = (u.join r, []) ∨
      ∃ h l d, u.arrivalHeadroom r = some h ∧ r.fit h = some (l, d) ∧
        u.take r = (u.addClaim (r.claim d), [.grant r.bay r.kind l]) := by
  unfold Budget.take
  split
  · rename_i l d hf
    simp only [Option.bind_eq_some_iff] at hf
    obtain ⟨h, h1, h2⟩ := hf
    exact .inr ⟨h, l, d, h1, h2, rfl⟩
  · exact .inl rfl

/-- A pending capacity that is met takes effect, and nothing else changes (R24). -/
theorem Budget.meetPending_cases (u : Budget) :
    u.meetPending = u ∨ ∃ p, u.pending = some p ∧ drawSum u.claims ≤ p ∧
      u.meetPending = { u with effective := p, pending := none } := by
  unfold Budget.meetPending
  split
  · rename_i p hp
    split
    · exact .inr ⟨p, hp, ‹_›, rfl⟩
    · exact .inl rfl
  · exact .inl rfl

/-- A withdrawal leaves the list as it is, or takes the head off it and examines the new head, or takes a later request off it
(R31). -/
theorem Budget.drop_cases (u : Budget) (b : BayId) (k : RequestKind) :
    u.drop b k = (u, []) ∨
      (∃ q rest, u.waitList = q :: rest ∧ q.bay = b ∧ q.kind = k ∧ u.drop b k = ({ u with waitList := rest } : Budget).examine) ∨
      ∃ q rest, u.waitList = q :: rest ∧ ¬ (q.bay = b ∧ q.kind = k) ∧
        u.drop b k = ({ u with waitList := q :: rest.filter fun r => !(r.bay = b ∧ r.kind = k) }, []) := by
  unfold Budget.drop
  split
  · exact .inl rfl
  · rename_i q rest hq
    split
    · rename_i h; exact .inr (.inl ⟨q, rest, hq, h.1, h.2, rfl⟩)
    · exact .inr (.inr ⟨q, rest, hq, ‹_›, rfl⟩)

/-- A capacity takes effect at once or is pending (R23). -/
theorem Budget.setCapacity_cases (u : Budget) (v : Nat) :
    (drawSum u.claims ≤ v ∧ u.setCapacity v = ({ u with effective := v, pending := none } : Budget).examine) ∨
      (v < drawSum u.claims ∧ u.setCapacity v = ({ u with pending := some v }, [])) := by
  unfold Budget.setCapacity
  split
  · exact .inl ⟨‹_›, rfl⟩
  · exact .inr ⟨by omega, rfl⟩

end Sys2Proof.Machine
end

