-- ==== Sys2Proof/Laws/State.lean ====
section
/-!
SUPPORT. What each update of the State leaves in each field: one lemma for a field and an update, so that no proof unfolds an
update.
-/

namespace Sys2Proof.Machine

/-! ### One bay -/

@[simp] theorem BayId.other_other (b : BayId) : b.other.other = b := by cases b <;> rfl
@[simp] theorem BayId.other_ne (b : BayId) : b.other ≠ b := by cases b <;> decide
@[simp] theorem BayId.ne_other (b : BayId) : b ≠ b.other := by cases b <;> decide
theorem BayId.eq_or_other (b c : BayId) : c = b ∨ c = b.other := by cases b <;> cases c <;> simp [BayId.other]

@[simp] theorem State.bay_bayA (s : State) : s.bay .bayA = s.bayA := rfl
@[simp] theorem State.bay_bayB (s : State) : s.bay .bayB = s.bayB := rfl

@[simp] theorem State.modBay_bay (s : State) (b : BayId) (f : Bay → Bay) : (s.modBay b f).bay b = f (s.bay b) := by
  cases b <;> rfl
@[simp] theorem State.modBay_other (s : State) (b : BayId) (f : Bay → Bay) :
    (s.modBay b f).bay b.other = s.bay b.other := by cases b <;> rfl
theorem State.modBay_ne (s : State) {b c : BayId} (f : Bay → Bay) (h : c ≠ b) : (s.modBay b f).bay c = s.bay c := by
  cases b <;> cases c <;> first | rfl | exact absurd rfl h
theorem State.modBay_modBay (s : State) (b : BayId) (f g : Bay → Bay) :
    (s.modBay b f).modBay b g = s.modBay b fun y => g (f y) := by cases b <;> rfl
theorem State.modBay_id (s : State) (b : BayId) : (s.modBay b fun y => y) = s := by cases b <;> rfl

/-- Two states with the same bays and the same unit fields are equal. -/
theorem State.ext_bays {s t : State} (bays : ∀ b, s.bay b = t.bay b) (budget : s.budget = t.budget) (queue : s.queue = t.queue)
    (faults : s.faults = t.faults) (settings : s.settings = t.settings) (events : s.events = t.events)
    (link : s.link = t.link) (supplyGood : s.supplyGood = t.supplyGood) (nextEval : s.nextEval = t.nextEval)
    (clock : s.clock = t.clock) (signals : s.signals = t.signals) (freeIndex : s.freeIndex = t.freeIndex)
    (pending : s.pending = t.pending) : s = t := by
  have a := bays .bayA
  have b := bays .bayB
  cases s; cases t; simp_all [State.bay]

@[simp] theorem State.modBay_budget (s : State) (b : BayId) (f : Bay → Bay) : (s.modBay b f).budget = s.budget := by cases b <;> rfl
@[simp] theorem State.modBay_queue (s : State) (b : BayId) (f : Bay → Bay) : (s.modBay b f).queue = s.queue := by cases b <;> rfl
@[simp] theorem State.modBay_faults (s : State) (b : BayId) (f : Bay → Bay) : (s.modBay b f).faults = s.faults := by cases b <;> rfl
@[simp] theorem State.modBay_settings (s : State) (b : BayId) (f : Bay → Bay) : (s.modBay b f).settings = s.settings := by cases b <;> rfl
@[simp] theorem State.modBay_events (s : State) (b : BayId) (f : Bay → Bay) : (s.modBay b f).events = s.events := by cases b <;> rfl
@[simp] theorem State.modBay_link (s : State) (b : BayId) (f : Bay → Bay) : (s.modBay b f).link = s.link := by cases b <;> rfl
@[simp] theorem State.modBay_supplyGood (s : State) (b : BayId) (f : Bay → Bay) : (s.modBay b f).supplyGood = s.supplyGood := by cases b <;> rfl
@[simp] theorem State.modBay_nextEval (s : State) (b : BayId) (f : Bay → Bay) : (s.modBay b f).nextEval = s.nextEval := by cases b <;> rfl
@[simp] theorem State.modBay_clock (s : State) (b : BayId) (f : Bay → Bay) : (s.modBay b f).clock = s.clock := by cases b <;> rfl
@[simp] theorem State.modBay_signals (s : State) (b : BayId) (f : Bay → Bay) : (s.modBay b f).signals = s.signals := by cases b <;> rfl
@[simp] theorem State.modBay_freeIndex (s : State) (b : BayId) (f : Bay → Bay) : (s.modBay b f).freeIndex = s.freeIndex := by cases b <;> rfl
@[simp] theorem State.modBay_pending (s : State) (b : BayId) (f : Bay → Bay) : (s.modBay b f).pending = s.pending := by cases b <;> rfl

/-! ### A bay's pins -/

@[simp] theorem State.modPins_bay (s : State) (b : BayId) (f : BayPins → BayPins) :
    (s.modPins b f).bay b = { s.bay b with pins := f (s.bay b).pins } := by cases b <;> rfl
@[simp] theorem State.modPins_other (s : State) (b : BayId) (f : BayPins → BayPins) :
    (s.modPins b f).bay b.other = s.bay b.other := by cases b <;> rfl
theorem State.modPins_modPins (s : State) (b : BayId) (f g : BayPins → BayPins) :
    (s.modPins b f).modPins b g = s.modPins b fun x => g (f x) := by cases b <;> rfl
@[simp] theorem State.modPins_budget (s : State) (b : BayId) (f : BayPins → BayPins) : (s.modPins b f).budget = s.budget := by
  cases b <;> rfl
@[simp] theorem State.modPins_queue (s : State) (b : BayId) (f : BayPins → BayPins) : (s.modPins b f).queue = s.queue := by
  cases b <;> rfl
@[simp] theorem State.modPins_faults (s : State) (b : BayId) (f : BayPins → BayPins) : (s.modPins b f).faults = s.faults := by
  cases b <;> rfl
@[simp] theorem State.modPins_settings (s : State) (b : BayId) (f : BayPins → BayPins) : (s.modPins b f).settings = s.settings := by
  cases b <;> rfl
@[simp] theorem State.modPins_events (s : State) (b : BayId) (f : BayPins → BayPins) : (s.modPins b f).events = s.events := by
  cases b <;> rfl
@[simp] theorem State.modPins_link (s : State) (b : BayId) (f : BayPins → BayPins) : (s.modPins b f).link = s.link := by
  cases b <;> rfl
@[simp] theorem State.modPins_supplyGood (s : State) (b : BayId) (f : BayPins → BayPins) : (s.modPins b f).supplyGood = s.supplyGood := by
  cases b <;> rfl
@[simp] theorem State.modPins_nextEval (s : State) (b : BayId) (f : BayPins → BayPins) : (s.modPins b f).nextEval = s.nextEval := by
  cases b <;> rfl
@[simp] theorem State.modPins_clock (s : State) (b : BayId) (f : BayPins → BayPins) : (s.modPins b f).clock = s.clock := by
  cases b <;> rfl
@[simp] theorem State.modPins_signals (s : State) (b : BayId) (f : BayPins → BayPins) : (s.modPins b f).signals = s.signals := by
  cases b <;> rfl
@[simp] theorem State.modPins_freeIndex (s : State) (b : BayId) (f : BayPins → BayPins) : (s.modPins b f).freeIndex = s.freeIndex := by
  cases b <;> rfl
@[simp] theorem State.modPins_pending (s : State) (b : BayId) (f : BayPins → BayPins) : (s.modPins b f).pending = s.pending := by
  cases b <;> rfl

/-! ### A bay's record -/

@[simp] theorem State.modRecord_bay (s : State) (b : BayId) (f : BayRecord → BayRecord) :
    (s.modRecord b f).bay b = { s.bay b with record := f (s.bay b).record } := by cases b <;> rfl
@[simp] theorem State.modRecord_other (s : State) (b : BayId) (f : BayRecord → BayRecord) :
    (s.modRecord b f).bay b.other = s.bay b.other := by cases b <;> rfl
theorem State.modRecord_modRecord (s : State) (b : BayId) (f g : BayRecord → BayRecord) :
    (s.modRecord b f).modRecord b g = s.modRecord b fun x => g (f x) := by cases b <;> rfl
@[simp] theorem State.modRecord_budget (s : State) (b : BayId) (f : BayRecord → BayRecord) : (s.modRecord b f).budget = s.budget := by
  cases b <;> rfl
@[simp] theorem State.modRecord_queue (s : State) (b : BayId) (f : BayRecord → BayRecord) : (s.modRecord b f).queue = s.queue := by
  cases b <;> rfl
@[simp] theorem State.modRecord_faults (s : State) (b : BayId) (f : BayRecord → BayRecord) : (s.modRecord b f).faults = s.faults := by
  cases b <;> rfl
@[simp] theorem State.modRecord_settings (s : State) (b : BayId) (f : BayRecord → BayRecord) : (s.modRecord b f).settings = s.settings := by
  cases b <;> rfl
@[simp] theorem State.modRecord_events (s : State) (b : BayId) (f : BayRecord → BayRecord) : (s.modRecord b f).events = s.events := by
  cases b <;> rfl
@[simp] theorem State.modRecord_link (s : State) (b : BayId) (f : BayRecord → BayRecord) : (s.modRecord b f).link = s.link := by
  cases b <;> rfl
@[simp] theorem State.modRecord_supplyGood (s : State) (b : BayId) (f : BayRecord → BayRecord) : (s.modRecord b f).supplyGood = s.supplyGood := by
  cases b <;> rfl
@[simp] theorem State.modRecord_nextEval (s : State) (b : BayId) (f : BayRecord → BayRecord) : (s.modRecord b f).nextEval = s.nextEval := by
  cases b <;> rfl
@[simp] theorem State.modRecord_clock (s : State) (b : BayId) (f : BayRecord → BayRecord) : (s.modRecord b f).clock = s.clock := by
  cases b <;> rfl
@[simp] theorem State.modRecord_signals (s : State) (b : BayId) (f : BayRecord → BayRecord) : (s.modRecord b f).signals = s.signals := by
  cases b <;> rfl
@[simp] theorem State.modRecord_freeIndex (s : State) (b : BayId) (f : BayRecord → BayRecord) : (s.modRecord b f).freeIndex = s.freeIndex := by
  cases b <;> rfl
@[simp] theorem State.modRecord_pending (s : State) (b : BayId) (f : BayRecord → BayRecord) : (s.modRecord b f).pending = s.pending := by
  cases b <;> rfl

/-! ### A bay's spindle -/

@[simp] theorem State.modSpindle_bay (s : State) (b : BayId) (f : Spindle → Spindle) :
    (s.modSpindle b f).bay b = { s.bay b with spindle := f (s.bay b).spindle } := by cases b <;> rfl
@[simp] theorem State.modSpindle_other (s : State) (b : BayId) (f : Spindle → Spindle) :
    (s.modSpindle b f).bay b.other = s.bay b.other := by cases b <;> rfl
theorem State.modSpindle_modSpindle (s : State) (b : BayId) (f g : Spindle → Spindle) :
    (s.modSpindle b f).modSpindle b g = s.modSpindle b fun x => g (f x) := by cases b <;> rfl
@[simp] theorem State.modSpindle_budget (s : State) (b : BayId) (f : Spindle → Spindle) : (s.modSpindle b f).budget = s.budget := by
  cases b <;> rfl
@[simp] theorem State.modSpindle_queue (s : State) (b : BayId) (f : Spindle → Spindle) : (s.modSpindle b f).queue = s.queue := by
  cases b <;> rfl
@[simp] theorem State.modSpindle_faults (s : State) (b : BayId) (f : Spindle → Spindle) : (s.modSpindle b f).faults = s.faults := by
  cases b <;> rfl
@[simp] theorem State.modSpindle_settings (s : State) (b : BayId) (f : Spindle → Spindle) : (s.modSpindle b f).settings = s.settings := by
  cases b <;> rfl
@[simp] theorem State.modSpindle_events (s : State) (b : BayId) (f : Spindle → Spindle) : (s.modSpindle b f).events = s.events := by
  cases b <;> rfl
@[simp] theorem State.modSpindle_link (s : State) (b : BayId) (f : Spindle → Spindle) : (s.modSpindle b f).link = s.link := by
  cases b <;> rfl
@[simp] theorem State.modSpindle_supplyGood (s : State) (b : BayId) (f : Spindle → Spindle) : (s.modSpindle b f).supplyGood = s.supplyGood := by
  cases b <;> rfl
@[simp] theorem State.modSpindle_nextEval (s : State) (b : BayId) (f : Spindle → Spindle) : (s.modSpindle b f).nextEval = s.nextEval := by
  cases b <;> rfl
@[simp] theorem State.modSpindle_clock (s : State) (b : BayId) (f : Spindle → Spindle) : (s.modSpindle b f).clock = s.clock := by
  cases b <;> rfl
@[simp] theorem State.modSpindle_signals (s : State) (b : BayId) (f : Spindle → Spindle) : (s.modSpindle b f).signals = s.signals := by
  cases b <;> rfl
@[simp] theorem State.modSpindle_freeIndex (s : State) (b : BayId) (f : Spindle → Spindle) : (s.modSpindle b f).freeIndex = s.freeIndex := by
  cases b <;> rfl
@[simp] theorem State.modSpindle_pending (s : State) (b : BayId) (f : Spindle → Spindle) : (s.modSpindle b f).pending = s.pending := by
  cases b <;> rfl

/-! ### A bay's act -/

@[simp] theorem State.modAct_bay (s : State) (b : BayId) (f : Actuator → Actuator) :
    (s.modAct b f).bay b = { s.bay b with act := f (s.bay b).act } := by cases b <;> rfl
@[simp] theorem State.modAct_other (s : State) (b : BayId) (f : Actuator → Actuator) :
    (s.modAct b f).bay b.other = s.bay b.other := by cases b <;> rfl
theorem State.modAct_modAct (s : State) (b : BayId) (f g : Actuator → Actuator) :
    (s.modAct b f).modAct b g = s.modAct b fun x => g (f x) := by cases b <;> rfl
@[simp] theorem State.modAct_budget (s : State) (b : BayId) (f : Actuator → Actuator) : (s.modAct b f).budget = s.budget := by
  cases b <;> rfl
@[simp] theorem State.modAct_queue (s : State) (b : BayId) (f : Actuator → Actuator) : (s.modAct b f).queue = s.queue := by
  cases b <;> rfl
@[simp] theorem State.modAct_faults (s : State) (b : BayId) (f : Actuator → Actuator) : (s.modAct b f).faults = s.faults := by
  cases b <;> rfl
@[simp] theorem State.modAct_settings (s : State) (b : BayId) (f : Actuator → Actuator) : (s.modAct b f).settings = s.settings := by
  cases b <;> rfl
@[simp] theorem State.modAct_events (s : State) (b : BayId) (f : Actuator → Actuator) : (s.modAct b f).events = s.events := by
  cases b <;> rfl
@[simp] theorem State.modAct_link (s : State) (b : BayId) (f : Actuator → Actuator) : (s.modAct b f).link = s.link := by
  cases b <;> rfl
@[simp] theorem State.modAct_supplyGood (s : State) (b : BayId) (f : Actuator → Actuator) : (s.modAct b f).supplyGood = s.supplyGood := by
  cases b <;> rfl
@[simp] theorem State.modAct_nextEval (s : State) (b : BayId) (f : Actuator → Actuator) : (s.modAct b f).nextEval = s.nextEval := by
  cases b <;> rfl
@[simp] theorem State.modAct_clock (s : State) (b : BayId) (f : Actuator → Actuator) : (s.modAct b f).clock = s.clock := by
  cases b <;> rfl
@[simp] theorem State.modAct_signals (s : State) (b : BayId) (f : Actuator → Actuator) : (s.modAct b f).signals = s.signals := by
  cases b <;> rfl
@[simp] theorem State.modAct_freeIndex (s : State) (b : BayId) (f : Actuator → Actuator) : (s.modAct b f).freeIndex = s.freeIndex := by
  cases b <;> rfl
@[simp] theorem State.modAct_pending (s : State) (b : BayId) (f : Actuator → Actuator) : (s.modAct b f).pending = s.pending := by
  cases b <;> rfl

/-! ### A bay's heat -/

@[simp] theorem State.modHeat_bay (s : State) (b : BayId) (f : Heat → Heat) :
    (s.modHeat b f).bay b = { s.bay b with heat := f (s.bay b).heat } := by cases b <;> rfl
@[simp] theorem State.modHeat_other (s : State) (b : BayId) (f : Heat → Heat) :
    (s.modHeat b f).bay b.other = s.bay b.other := by cases b <;> rfl
theorem State.modHeat_modHeat (s : State) (b : BayId) (f g : Heat → Heat) :
    (s.modHeat b f).modHeat b g = s.modHeat b fun x => g (f x) := by cases b <;> rfl
@[simp] theorem State.modHeat_budget (s : State) (b : BayId) (f : Heat → Heat) : (s.modHeat b f).budget = s.budget := by
  cases b <;> rfl
@[simp] theorem State.modHeat_queue (s : State) (b : BayId) (f : Heat → Heat) : (s.modHeat b f).queue = s.queue := by
  cases b <;> rfl
@[simp] theorem State.modHeat_faults (s : State) (b : BayId) (f : Heat → Heat) : (s.modHeat b f).faults = s.faults := by
  cases b <;> rfl
@[simp] theorem State.modHeat_settings (s : State) (b : BayId) (f : Heat → Heat) : (s.modHeat b f).settings = s.settings := by
  cases b <;> rfl
@[simp] theorem State.modHeat_events (s : State) (b : BayId) (f : Heat → Heat) : (s.modHeat b f).events = s.events := by
  cases b <;> rfl
@[simp] theorem State.modHeat_link (s : State) (b : BayId) (f : Heat → Heat) : (s.modHeat b f).link = s.link := by
  cases b <;> rfl
@[simp] theorem State.modHeat_supplyGood (s : State) (b : BayId) (f : Heat → Heat) : (s.modHeat b f).supplyGood = s.supplyGood := by
  cases b <;> rfl
@[simp] theorem State.modHeat_nextEval (s : State) (b : BayId) (f : Heat → Heat) : (s.modHeat b f).nextEval = s.nextEval := by
  cases b <;> rfl
@[simp] theorem State.modHeat_clock (s : State) (b : BayId) (f : Heat → Heat) : (s.modHeat b f).clock = s.clock := by
  cases b <;> rfl
@[simp] theorem State.modHeat_signals (s : State) (b : BayId) (f : Heat → Heat) : (s.modHeat b f).signals = s.signals := by
  cases b <;> rfl
@[simp] theorem State.modHeat_freeIndex (s : State) (b : BayId) (f : Heat → Heat) : (s.modHeat b f).freeIndex = s.freeIndex := by
  cases b <;> rfl
@[simp] theorem State.modHeat_pending (s : State) (b : BayId) (f : Heat → Heat) : (s.modHeat b f).pending = s.pending := by
  cases b <;> rfl

/-! ### A bay's media -/

@[simp] theorem State.modMedia_bay (s : State) (b : BayId) (f : Media → Media) :
    (s.modMedia b f).bay b = { s.bay b with media := f (s.bay b).media } := by cases b <;> rfl
@[simp] theorem State.modMedia_other (s : State) (b : BayId) (f : Media → Media) :
    (s.modMedia b f).bay b.other = s.bay b.other := by cases b <;> rfl
theorem State.modMedia_modMedia (s : State) (b : BayId) (f g : Media → Media) :
    (s.modMedia b f).modMedia b g = s.modMedia b fun x => g (f x) := by cases b <;> rfl
@[simp] theorem State.modMedia_budget (s : State) (b : BayId) (f : Media → Media) : (s.modMedia b f).budget = s.budget := by
  cases b <;> rfl
@[simp] theorem State.modMedia_queue (s : State) (b : BayId) (f : Media → Media) : (s.modMedia b f).queue = s.queue := by
  cases b <;> rfl
@[simp] theorem State.modMedia_faults (s : State) (b : BayId) (f : Media → Media) : (s.modMedia b f).faults = s.faults := by
  cases b <;> rfl
@[simp] theorem State.modMedia_settings (s : State) (b : BayId) (f : Media → Media) : (s.modMedia b f).settings = s.settings := by
  cases b <;> rfl
@[simp] theorem State.modMedia_events (s : State) (b : BayId) (f : Media → Media) : (s.modMedia b f).events = s.events := by
  cases b <;> rfl
@[simp] theorem State.modMedia_link (s : State) (b : BayId) (f : Media → Media) : (s.modMedia b f).link = s.link := by
  cases b <;> rfl
@[simp] theorem State.modMedia_supplyGood (s : State) (b : BayId) (f : Media → Media) : (s.modMedia b f).supplyGood = s.supplyGood := by
  cases b <;> rfl
@[simp] theorem State.modMedia_nextEval (s : State) (b : BayId) (f : Media → Media) : (s.modMedia b f).nextEval = s.nextEval := by
  cases b <;> rfl
@[simp] theorem State.modMedia_clock (s : State) (b : BayId) (f : Media → Media) : (s.modMedia b f).clock = s.clock := by
  cases b <;> rfl
@[simp] theorem State.modMedia_signals (s : State) (b : BayId) (f : Media → Media) : (s.modMedia b f).signals = s.signals := by
  cases b <;> rfl
@[simp] theorem State.modMedia_freeIndex (s : State) (b : BayId) (f : Media → Media) : (s.modMedia b f).freeIndex = s.freeIndex := by
  cases b <;> rfl
@[simp] theorem State.modMedia_pending (s : State) (b : BayId) (f : Media → Media) : (s.modMedia b f).pending = s.pending := by
  cases b <;> rfl

/-! ### A bay's map -/

@[simp] theorem State.modMap_bay (s : State) (b : BayId) (f : RemapTable → RemapTable) :
    (s.modMap b f).bay b = { s.bay b with map := f (s.bay b).map } := by cases b <;> rfl
@[simp] theorem State.modMap_other (s : State) (b : BayId) (f : RemapTable → RemapTable) :
    (s.modMap b f).bay b.other = s.bay b.other := by cases b <;> rfl
theorem State.modMap_modMap (s : State) (b : BayId) (f g : RemapTable → RemapTable) :
    (s.modMap b f).modMap b g = s.modMap b fun x => g (f x) := by cases b <;> rfl
@[simp] theorem State.modMap_budget (s : State) (b : BayId) (f : RemapTable → RemapTable) : (s.modMap b f).budget = s.budget := by
  cases b <;> rfl
@[simp] theorem State.modMap_queue (s : State) (b : BayId) (f : RemapTable → RemapTable) : (s.modMap b f).queue = s.queue := by
  cases b <;> rfl
@[simp] theorem State.modMap_faults (s : State) (b : BayId) (f : RemapTable → RemapTable) : (s.modMap b f).faults = s.faults := by
  cases b <;> rfl
@[simp] theorem State.modMap_settings (s : State) (b : BayId) (f : RemapTable → RemapTable) : (s.modMap b f).settings = s.settings := by
  cases b <;> rfl
@[simp] theorem State.modMap_events (s : State) (b : BayId) (f : RemapTable → RemapTable) : (s.modMap b f).events = s.events := by
  cases b <;> rfl
@[simp] theorem State.modMap_link (s : State) (b : BayId) (f : RemapTable → RemapTable) : (s.modMap b f).link = s.link := by
  cases b <;> rfl
@[simp] theorem State.modMap_supplyGood (s : State) (b : BayId) (f : RemapTable → RemapTable) : (s.modMap b f).supplyGood = s.supplyGood := by
  cases b <;> rfl
@[simp] theorem State.modMap_nextEval (s : State) (b : BayId) (f : RemapTable → RemapTable) : (s.modMap b f).nextEval = s.nextEval := by
  cases b <;> rfl
@[simp] theorem State.modMap_clock (s : State) (b : BayId) (f : RemapTable → RemapTable) : (s.modMap b f).clock = s.clock := by
  cases b <;> rfl
@[simp] theorem State.modMap_signals (s : State) (b : BayId) (f : RemapTable → RemapTable) : (s.modMap b f).signals = s.signals := by
  cases b <;> rfl
@[simp] theorem State.modMap_freeIndex (s : State) (b : BayId) (f : RemapTable → RemapTable) : (s.modMap b f).freeIndex = s.freeIndex := by
  cases b <;> rfl
@[simp] theorem State.modMap_pending (s : State) (b : BayId) (f : RemapTable → RemapTable) : (s.modMap b f).pending = s.pending := by
  cases b <;> rfl

/-! ### A bay's slot -/

@[simp] theorem State.modSlot_bay (s : State) (b : BayId) (f : Slot → Slot) :
    (s.modSlot b f).bay b = { s.bay b with slot := f (s.bay b).slot } := by cases b <;> rfl
@[simp] theorem State.modSlot_other (s : State) (b : BayId) (f : Slot → Slot) :
    (s.modSlot b f).bay b.other = s.bay b.other := by cases b <;> rfl
theorem State.modSlot_modSlot (s : State) (b : BayId) (f g : Slot → Slot) :
    (s.modSlot b f).modSlot b g = s.modSlot b fun x => g (f x) := by cases b <;> rfl
@[simp] theorem State.modSlot_budget (s : State) (b : BayId) (f : Slot → Slot) : (s.modSlot b f).budget = s.budget := by
  cases b <;> rfl
@[simp] theorem State.modSlot_queue (s : State) (b : BayId) (f : Slot → Slot) : (s.modSlot b f).queue = s.queue := by
  cases b <;> rfl
@[simp] theorem State.modSlot_faults (s : State) (b : BayId) (f : Slot → Slot) : (s.modSlot b f).faults = s.faults := by
  cases b <;> rfl
@[simp] theorem State.modSlot_settings (s : State) (b : BayId) (f : Slot → Slot) : (s.modSlot b f).settings = s.settings := by
  cases b <;> rfl
@[simp] theorem State.modSlot_events (s : State) (b : BayId) (f : Slot → Slot) : (s.modSlot b f).events = s.events := by
  cases b <;> rfl
@[simp] theorem State.modSlot_link (s : State) (b : BayId) (f : Slot → Slot) : (s.modSlot b f).link = s.link := by
  cases b <;> rfl
@[simp] theorem State.modSlot_supplyGood (s : State) (b : BayId) (f : Slot → Slot) : (s.modSlot b f).supplyGood = s.supplyGood := by
  cases b <;> rfl
@[simp] theorem State.modSlot_nextEval (s : State) (b : BayId) (f : Slot → Slot) : (s.modSlot b f).nextEval = s.nextEval := by
  cases b <;> rfl
@[simp] theorem State.modSlot_clock (s : State) (b : BayId) (f : Slot → Slot) : (s.modSlot b f).clock = s.clock := by
  cases b <;> rfl
@[simp] theorem State.modSlot_signals (s : State) (b : BayId) (f : Slot → Slot) : (s.modSlot b f).signals = s.signals := by
  cases b <;> rfl
@[simp] theorem State.modSlot_freeIndex (s : State) (b : BayId) (f : Slot → Slot) : (s.modSlot b f).freeIndex = s.freeIndex := by
  cases b <;> rfl
@[simp] theorem State.modSlot_pending (s : State) (b : BayId) (f : Slot → Slot) : (s.modSlot b f).pending = s.pending := by
  cases b <;> rfl

/-! ### A bay's latches -/

@[simp] theorem State.modLatches_bay (s : State) (b : BayId) (f : Latches → Latches) :
    (s.modLatches b f).bay b = { s.bay b with latches := f (s.bay b).latches } := by cases b <;> rfl
@[simp] theorem State.modLatches_other (s : State) (b : BayId) (f : Latches → Latches) :
    (s.modLatches b f).bay b.other = s.bay b.other := by cases b <;> rfl
theorem State.modLatches_modLatches (s : State) (b : BayId) (f g : Latches → Latches) :
    (s.modLatches b f).modLatches b g = s.modLatches b fun x => g (f x) := by cases b <;> rfl
@[simp] theorem State.modLatches_budget (s : State) (b : BayId) (f : Latches → Latches) : (s.modLatches b f).budget = s.budget := by
  cases b <;> rfl
@[simp] theorem State.modLatches_queue (s : State) (b : BayId) (f : Latches → Latches) : (s.modLatches b f).queue = s.queue := by
  cases b <;> rfl
@[simp] theorem State.modLatches_faults (s : State) (b : BayId) (f : Latches → Latches) : (s.modLatches b f).faults = s.faults := by
  cases b <;> rfl
@[simp] theorem State.modLatches_settings (s : State) (b : BayId) (f : Latches → Latches) : (s.modLatches b f).settings = s.settings := by
  cases b <;> rfl
@[simp] theorem State.modLatches_events (s : State) (b : BayId) (f : Latches → Latches) : (s.modLatches b f).events = s.events := by
  cases b <;> rfl
@[simp] theorem State.modLatches_link (s : State) (b : BayId) (f : Latches → Latches) : (s.modLatches b f).link = s.link := by
  cases b <;> rfl
@[simp] theorem State.modLatches_supplyGood (s : State) (b : BayId) (f : Latches → Latches) : (s.modLatches b f).supplyGood = s.supplyGood := by
  cases b <;> rfl
@[simp] theorem State.modLatches_nextEval (s : State) (b : BayId) (f : Latches → Latches) : (s.modLatches b f).nextEval = s.nextEval := by
  cases b <;> rfl
@[simp] theorem State.modLatches_clock (s : State) (b : BayId) (f : Latches → Latches) : (s.modLatches b f).clock = s.clock := by
  cases b <;> rfl
@[simp] theorem State.modLatches_signals (s : State) (b : BayId) (f : Latches → Latches) : (s.modLatches b f).signals = s.signals := by
  cases b <;> rfl
@[simp] theorem State.modLatches_freeIndex (s : State) (b : BayId) (f : Latches → Latches) : (s.modLatches b f).freeIndex = s.freeIndex := by
  cases b <;> rfl
@[simp] theorem State.modLatches_pending (s : State) (b : BayId) (f : Latches → Latches) : (s.modLatches b f).pending = s.pending := by
  cases b <;> rfl

/-! ### A bay's counters -/

@[simp] theorem State.modCounters_bay (s : State) (b : BayId) (f : Counters → Counters) :
    (s.modCounters b f).bay b = { s.bay b with counters := f (s.bay b).counters } := by cases b <;> rfl
@[simp] theorem State.modCounters_other (s : State) (b : BayId) (f : Counters → Counters) :
    (s.modCounters b f).bay b.other = s.bay b.other := by cases b <;> rfl
theorem State.modCounters_modCounters (s : State) (b : BayId) (f g : Counters → Counters) :
    (s.modCounters b f).modCounters b g = s.modCounters b fun x => g (f x) := by cases b <;> rfl
@[simp] theorem State.modCounters_budget (s : State) (b : BayId) (f : Counters → Counters) : (s.modCounters b f).budget = s.budget := by
  cases b <;> rfl
@[simp] theorem State.modCounters_queue (s : State) (b : BayId) (f : Counters → Counters) : (s.modCounters b f).queue = s.queue := by
  cases b <;> rfl
@[simp] theorem State.modCounters_faults (s : State) (b : BayId) (f : Counters → Counters) : (s.modCounters b f).faults = s.faults := by
  cases b <;> rfl
@[simp] theorem State.modCounters_settings (s : State) (b : BayId) (f : Counters → Counters) : (s.modCounters b f).settings = s.settings := by
  cases b <;> rfl
@[simp] theorem State.modCounters_events (s : State) (b : BayId) (f : Counters → Counters) : (s.modCounters b f).events = s.events := by
  cases b <;> rfl
@[simp] theorem State.modCounters_link (s : State) (b : BayId) (f : Counters → Counters) : (s.modCounters b f).link = s.link := by
  cases b <;> rfl
@[simp] theorem State.modCounters_supplyGood (s : State) (b : BayId) (f : Counters → Counters) : (s.modCounters b f).supplyGood = s.supplyGood := by
  cases b <;> rfl
@[simp] theorem State.modCounters_nextEval (s : State) (b : BayId) (f : Counters → Counters) : (s.modCounters b f).nextEval = s.nextEval := by
  cases b <;> rfl
@[simp] theorem State.modCounters_clock (s : State) (b : BayId) (f : Counters → Counters) : (s.modCounters b f).clock = s.clock := by
  cases b <;> rfl
@[simp] theorem State.modCounters_signals (s : State) (b : BayId) (f : Counters → Counters) : (s.modCounters b f).signals = s.signals := by
  cases b <;> rfl
@[simp] theorem State.modCounters_freeIndex (s : State) (b : BayId) (f : Counters → Counters) : (s.modCounters b f).freeIndex = s.freeIndex := by
  cases b <;> rfl
@[simp] theorem State.modCounters_pending (s : State) (b : BayId) (f : Counters → Counters) : (s.modCounters b f).pending = s.pending := by
  cases b <;> rfl

/-! ### The clock -/

@[simp] theorem State.clockTo_bay (s : State) (t : Nat) (b : BayId) : (s.clockTo t).bay b = s.bay b := by cases b <;> rfl
@[simp] theorem State.clockTo_budget (s : State) (t : Nat) :
    (s.clockTo t).budget = s.budget := rfl
@[simp] theorem State.clockTo_queue (s : State) (t : Nat) :
    (s.clockTo t).queue = s.queue := rfl
@[simp] theorem State.clockTo_faults (s : State) (t : Nat) :
    (s.clockTo t).faults = s.faults := rfl
@[simp] theorem State.clockTo_settings (s : State) (t : Nat) :
    (s.clockTo t).settings = s.settings := rfl
@[simp] theorem State.clockTo_events (s : State) (t : Nat) :
    (s.clockTo t).events = s.events := rfl
@[simp] theorem State.clockTo_link (s : State) (t : Nat) :
    (s.clockTo t).link = s.link := rfl
@[simp] theorem State.clockTo_supplyGood (s : State) (t : Nat) :
    (s.clockTo t).supplyGood = s.supplyGood := rfl
@[simp] theorem State.clockTo_nextEval (s : State) (t : Nat) :
    (s.clockTo t).nextEval = s.nextEval := rfl
@[simp] theorem State.clockTo_clock (s : State) (t : Nat) :
    (s.clockTo t).clock = max s.clock t := rfl
@[simp] theorem State.clockTo_signals (s : State) (t : Nat) :
    (s.clockTo t).signals = s.signals := rfl
@[simp] theorem State.clockTo_freeIndex (s : State) (t : Nat) :
    (s.clockTo t).freeIndex = s.freeIndex := rfl
@[simp] theorem State.clockTo_pending (s : State) (t : Nat) :
    (s.clockTo t).pending = s.pending := rfl

/-! ### Notices -/

@[simp] theorem State.send_bay (s : State) (x : Signal) (b : BayId) : (s.send x).bay b = s.bay b := by cases b <;> rfl
@[simp] theorem State.send_budget (s : State) (x : Signal) :
    (s.send x).budget = s.budget := rfl
@[simp] theorem State.send_queue (s : State) (x : Signal) :
    (s.send x).queue = s.queue := rfl
@[simp] theorem State.send_faults (s : State) (x : Signal) :
    (s.send x).faults = s.faults := rfl
@[simp] theorem State.send_settings (s : State) (x : Signal) :
    (s.send x).settings = s.settings := rfl
@[simp] theorem State.send_events (s : State) (x : Signal) :
    (s.send x).events = s.events := rfl
@[simp] theorem State.send_link (s : State) (x : Signal) :
    (s.send x).link = s.link := rfl
@[simp] theorem State.send_supplyGood (s : State) (x : Signal) :
    (s.send x).supplyGood = s.supplyGood := rfl
@[simp] theorem State.send_nextEval (s : State) (x : Signal) :
    (s.send x).nextEval = s.nextEval := rfl
@[simp] theorem State.send_clock (s : State) (x : Signal) :
    (s.send x).clock = s.clock := rfl
@[simp] theorem State.send_signals (s : State) (x : Signal) :
    (s.send x).signals = s.signals ++ [x] := rfl
@[simp] theorem State.send_freeIndex (s : State) (x : Signal) :
    (s.send x).freeIndex = s.freeIndex := rfl
@[simp] theorem State.send_pending (s : State) (x : Signal) :
    (s.send x).pending = s.pending := rfl

/-! ### Requests to the budget -/

@[simp] theorem State.request_bay (s : State) (c : BayId) (k : RequestKind) (l : Nat) (b : BayId) : (s.request c k l).bay b = s.bay b := by cases b <;> rfl
@[simp] theorem State.request_budget (s : State) (c : BayId) (k : RequestKind) (l : Nat) :
    (s.request c k l).budget = s.budget := rfl
@[simp] theorem State.request_queue (s : State) (c : BayId) (k : RequestKind) (l : Nat) :
    (s.request c k l).queue = s.queue := rfl
@[simp] theorem State.request_faults (s : State) (c : BayId) (k : RequestKind) (l : Nat) :
    (s.request c k l).faults = s.faults := rfl
@[simp] theorem State.request_settings (s : State) (c : BayId) (k : RequestKind) (l : Nat) :
    (s.request c k l).settings = s.settings := rfl
@[simp] theorem State.request_events (s : State) (c : BayId) (k : RequestKind) (l : Nat) :
    (s.request c k l).events = s.events := rfl
@[simp] theorem State.request_link (s : State) (c : BayId) (k : RequestKind) (l : Nat) :
    (s.request c k l).link = s.link := rfl
@[simp] theorem State.request_supplyGood (s : State) (c : BayId) (k : RequestKind) (l : Nat) :
    (s.request c k l).supplyGood = s.supplyGood := rfl
@[simp] theorem State.request_nextEval (s : State) (c : BayId) (k : RequestKind) (l : Nat) :
    (s.request c k l).nextEval = s.nextEval := rfl
@[simp] theorem State.request_clock (s : State) (c : BayId) (k : RequestKind) (l : Nat) :
    (s.request c k l).clock = s.clock := rfl
@[simp] theorem State.request_signals (s : State) (c : BayId) (k : RequestKind) (l : Nat) :
    (s.request c k l).signals = s.signals ++ [.request c k l] := rfl
@[simp] theorem State.request_freeIndex (s : State) (c : BayId) (k : RequestKind) (l : Nat) :
    (s.request c k l).freeIndex = s.freeIndex := rfl
@[simp] theorem State.request_pending (s : State) (c : BayId) (k : RequestKind) (l : Nat) :
    (s.request c k l).pending = s.pending := rfl

/-! ### Releases to the budget -/

@[simp] theorem State.release_bay (s : State) (c : BayId) (o : Consumer) (b : BayId) : (s.release c o).bay b = s.bay b := by cases b <;> rfl
@[simp] theorem State.release_budget (s : State) (c : BayId) (o : Consumer) :
    (s.release c o).budget = s.budget := rfl
@[simp] theorem State.release_queue (s : State) (c : BayId) (o : Consumer) :
    (s.release c o).queue = s.queue := rfl
@[simp] theorem State.release_faults (s : State) (c : BayId) (o : Consumer) :
    (s.release c o).faults = s.faults := rfl
@[simp] theorem State.release_settings (s : State) (c : BayId) (o : Consumer) :
    (s.release c o).settings = s.settings := rfl
@[simp] theorem State.release_events (s : State) (c : BayId) (o : Consumer) :
    (s.release c o).events = s.events := rfl
@[simp] theorem State.release_link (s : State) (c : BayId) (o : Consumer) :
    (s.release c o).link = s.link := rfl
@[simp] theorem State.release_supplyGood (s : State) (c : BayId) (o : Consumer) :
    (s.release c o).supplyGood = s.supplyGood := rfl
@[simp] theorem State.release_nextEval (s : State) (c : BayId) (o : Consumer) :
    (s.release c o).nextEval = s.nextEval := rfl
@[simp] theorem State.release_clock (s : State) (c : BayId) (o : Consumer) :
    (s.release c o).clock = s.clock := rfl
@[simp] theorem State.release_signals (s : State) (c : BayId) (o : Consumer) :
    (s.release c o).signals = s.signals ++ [.release c o] := rfl
@[simp] theorem State.release_freeIndex (s : State) (c : BayId) (o : Consumer) :
    (s.release c o).freeIndex = s.freeIndex := rfl
@[simp] theorem State.release_pending (s : State) (c : BayId) (o : Consumer) :
    (s.release c o).pending = s.pending := rfl

/-! ### Withdrawals to the budget -/

@[simp] theorem State.withdraw_bay (s : State) (c : BayId) (k : RequestKind) (b : BayId) : (s.withdraw c k).bay b = s.bay b := by cases b <;> rfl
@[simp] theorem State.withdraw_budget (s : State) (c : BayId) (k : RequestKind) :
    (s.withdraw c k).budget = s.budget := rfl
@[simp] theorem State.withdraw_queue (s : State) (c : BayId) (k : RequestKind) :
    (s.withdraw c k).queue = s.queue := rfl
@[simp] theorem State.withdraw_faults (s : State) (c : BayId) (k : RequestKind) :
    (s.withdraw c k).faults = s.faults := rfl
@[simp] theorem State.withdraw_settings (s : State) (c : BayId) (k : RequestKind) :
    (s.withdraw c k).settings = s.settings := rfl
@[simp] theorem State.withdraw_events (s : State) (c : BayId) (k : RequestKind) :
    (s.withdraw c k).events = s.events := rfl
@[simp] theorem State.withdraw_link (s : State) (c : BayId) (k : RequestKind) :
    (s.withdraw c k).link = s.link := rfl
@[simp] theorem State.withdraw_supplyGood (s : State) (c : BayId) (k : RequestKind) :
    (s.withdraw c k).supplyGood = s.supplyGood := rfl
@[simp] theorem State.withdraw_nextEval (s : State) (c : BayId) (k : RequestKind) :
    (s.withdraw c k).nextEval = s.nextEval := rfl
@[simp] theorem State.withdraw_clock (s : State) (c : BayId) (k : RequestKind) :
    (s.withdraw c k).clock = s.clock := rfl
@[simp] theorem State.withdraw_signals (s : State) (c : BayId) (k : RequestKind) :
    (s.withdraw c k).signals = s.signals ++ [.withdraw c k] := rfl
@[simp] theorem State.withdraw_freeIndex (s : State) (c : BayId) (k : RequestKind) :
    (s.withdraw c k).freeIndex = s.freeIndex := rfl
@[simp] theorem State.withdraw_pending (s : State) (c : BayId) (k : RequestKind) :
    (s.withdraw c k).pending = s.pending := rfl

/-! ### A notice taken -/

@[simp] theorem State.dropSignal_bay (s : State) (p : Signal → Bool) (b : BayId) : (s.dropSignal p).bay b = s.bay b := by cases b <;> rfl
@[simp] theorem State.dropSignal_budget (s : State) (p : Signal → Bool) :
    (s.dropSignal p).budget = s.budget := rfl
@[simp] theorem State.dropSignal_queue (s : State) (p : Signal → Bool) :
    (s.dropSignal p).queue = s.queue := rfl
@[simp] theorem State.dropSignal_faults (s : State) (p : Signal → Bool) :
    (s.dropSignal p).faults = s.faults := rfl
@[simp] theorem State.dropSignal_settings (s : State) (p : Signal → Bool) :
    (s.dropSignal p).settings = s.settings := rfl
@[simp] theorem State.dropSignal_events (s : State) (p : Signal → Bool) :
    (s.dropSignal p).events = s.events := rfl
@[simp] theorem State.dropSignal_link (s : State) (p : Signal → Bool) :
    (s.dropSignal p).link = s.link := rfl
@[simp] theorem State.dropSignal_supplyGood (s : State) (p : Signal → Bool) :
    (s.dropSignal p).supplyGood = s.supplyGood := rfl
@[simp] theorem State.dropSignal_nextEval (s : State) (p : Signal → Bool) :
    (s.dropSignal p).nextEval = s.nextEval := rfl
@[simp] theorem State.dropSignal_clock (s : State) (p : Signal → Bool) :
    (s.dropSignal p).clock = s.clock := rfl
@[simp] theorem State.dropSignal_signals (s : State) (p : Signal → Bool) :
    (s.dropSignal p).signals = s.signals.eraseP p := rfl
@[simp] theorem State.dropSignal_freeIndex (s : State) (p : Signal → Bool) :
    (s.dropSignal p).freeIndex = s.freeIndex := rfl
@[simp] theorem State.dropSignal_pending (s : State) (p : Signal → Bool) :
    (s.dropSignal p).pending = s.pending := rfl

/-! ### The budget and its grants -/

@[simp] theorem State.putBudget_bay (s : State) (r : Budget × List Signal) (b : BayId) : (s.putBudget r).bay b = s.bay b := by cases b <;> rfl
@[simp] theorem State.putBudget_budget (s : State) (r : Budget × List Signal) :
    (s.putBudget r).budget = r.1 := rfl
@[simp] theorem State.putBudget_queue (s : State) (r : Budget × List Signal) :
    (s.putBudget r).queue = s.queue := rfl
@[simp] theorem State.putBudget_faults (s : State) (r : Budget × List Signal) :
    (s.putBudget r).faults = s.faults := rfl
@[simp] theorem State.putBudget_settings (s : State) (r : Budget × List Signal) :
    (s.putBudget r).settings = s.settings := rfl
@[simp] theorem State.putBudget_events (s : State) (r : Budget × List Signal) :
    (s.putBudget r).events = s.events := rfl
@[simp] theorem State.putBudget_link (s : State) (r : Budget × List Signal) :
    (s.putBudget r).link = s.link := rfl
@[simp] theorem State.putBudget_supplyGood (s : State) (r : Budget × List Signal) :
    (s.putBudget r).supplyGood = s.supplyGood := rfl
@[simp] theorem State.putBudget_nextEval (s : State) (r : Budget × List Signal) :
    (s.putBudget r).nextEval = s.nextEval := rfl
@[simp] theorem State.putBudget_clock (s : State) (r : Budget × List Signal) :
    (s.putBudget r).clock = s.clock := rfl
@[simp] theorem State.putBudget_signals (s : State) (r : Budget × List Signal) :
    (s.putBudget r).signals = s.signals ++ r.2 := rfl
@[simp] theorem State.putBudget_freeIndex (s : State) (r : Budget × List Signal) :
    (s.putBudget r).freeIndex = s.freeIndex := rfl
@[simp] theorem State.putBudget_pending (s : State) (r : Budget × List Signal) :
    (s.putBudget r).pending = s.pending := rfl

/-! ### The ends of the budget's notices -/

@[simp] theorem State.endBudgetSignals_bay (s : State)  (b : BayId) : (s.endBudgetSignals).bay b = s.bay b := by cases b <;> rfl
@[simp] theorem State.endBudgetSignals_budget (s : State)  :
    (s.endBudgetSignals).budget = s.budget := rfl
@[simp] theorem State.endBudgetSignals_queue (s : State)  :
    (s.endBudgetSignals).queue = s.queue := rfl
@[simp] theorem State.endBudgetSignals_faults (s : State)  :
    (s.endBudgetSignals).faults = s.faults := rfl
@[simp] theorem State.endBudgetSignals_settings (s : State)  :
    (s.endBudgetSignals).settings = s.settings := rfl
@[simp] theorem State.endBudgetSignals_events (s : State)  :
    (s.endBudgetSignals).events = s.events := rfl
@[simp] theorem State.endBudgetSignals_link (s : State)  :
    (s.endBudgetSignals).link = s.link := rfl
@[simp] theorem State.endBudgetSignals_supplyGood (s : State)  :
    (s.endBudgetSignals).supplyGood = s.supplyGood := rfl
@[simp] theorem State.endBudgetSignals_nextEval (s : State)  :
    (s.endBudgetSignals).nextEval = s.nextEval := rfl
@[simp] theorem State.endBudgetSignals_clock (s : State)  :
    (s.endBudgetSignals).clock = s.clock := rfl
@[simp] theorem State.endBudgetSignals_signals (s : State)  :
    (s.endBudgetSignals).signals = s.signals.filter fun x => !x.ofBudget := rfl
@[simp] theorem State.endBudgetSignals_freeIndex (s : State)  :
    (s.endBudgetSignals).freeIndex = s.freeIndex := rfl
@[simp] theorem State.endBudgetSignals_pending (s : State)  :
    (s.endBudgetSignals).pending = s.pending := rfl

/-! ### Unit events -/

@[simp] theorem State.latchUnit_bay (s : State) (e : UnitEvent) (b : BayId) : (s.latchUnit e).bay b = s.bay b := by cases b <;> rfl
@[simp] theorem State.latchUnit_budget (s : State) (e : UnitEvent) :
    (s.latchUnit e).budget = s.budget := rfl
@[simp] theorem State.latchUnit_queue (s : State) (e : UnitEvent) :
    (s.latchUnit e).queue = s.queue := rfl
@[simp] theorem State.latchUnit_faults (s : State) (e : UnitEvent) :
    (s.latchUnit e).faults = s.faults := rfl
@[simp] theorem State.latchUnit_settings (s : State) (e : UnitEvent) :
    (s.latchUnit e).settings = s.settings := rfl
@[simp] theorem State.latchUnit_events (s : State) (e : UnitEvent) :
    (s.latchUnit e).events = s.events ||| BitVec.twoPow 5 e.bit := rfl
@[simp] theorem State.latchUnit_link (s : State) (e : UnitEvent) :
    (s.latchUnit e).link = s.link := rfl
@[simp] theorem State.latchUnit_supplyGood (s : State) (e : UnitEvent) :
    (s.latchUnit e).supplyGood = s.supplyGood := rfl
@[simp] theorem State.latchUnit_nextEval (s : State) (e : UnitEvent) :
    (s.latchUnit e).nextEval = s.nextEval := rfl
@[simp] theorem State.latchUnit_clock (s : State) (e : UnitEvent) :
    (s.latchUnit e).clock = s.clock := rfl
@[simp] theorem State.latchUnit_signals (s : State) (e : UnitEvent) :
    (s.latchUnit e).signals = s.signals := rfl
@[simp] theorem State.latchUnit_freeIndex (s : State) (e : UnitEvent) :
    (s.latchUnit e).freeIndex = s.freeIndex := rfl
@[simp] theorem State.latchUnit_pending (s : State) (e : UnitEvent) :
    (s.latchUnit e).pending = s.pending := rfl

/-! ### Replies -/

@[simp] theorem State.respond_bay (s : State) (code field : Byte) (r : ReplyStatus) (body : List Byte) (b : BayId) : (s.respond code field r body).bay b = s.bay b := by cases b <;> rfl
@[simp] theorem State.respond_budget (s : State) (code field : Byte) (r : ReplyStatus) (body : List Byte) :
    (s.respond code field r body).budget = s.budget := rfl
@[simp] theorem State.respond_queue (s : State) (code field : Byte) (r : ReplyStatus) (body : List Byte) :
    (s.respond code field r body).queue = s.queue := rfl
@[simp] theorem State.respond_faults (s : State) (code field : Byte) (r : ReplyStatus) (body : List Byte) :
    (s.respond code field r body).faults = s.faults := rfl
@[simp] theorem State.respond_settings (s : State) (code field : Byte) (r : ReplyStatus) (body : List Byte) :
    (s.respond code field r body).settings = s.settings := rfl
@[simp] theorem State.respond_events (s : State) (code field : Byte) (r : ReplyStatus) (body : List Byte) :
    (s.respond code field r body).events = s.events := rfl
@[simp] theorem State.respond_link (s : State) (code field : Byte) (r : ReplyStatus) (body : List Byte) :
    (s.respond code field r body).link = { s.link with reply := some { status := r, code, bay := field, body } } := rfl
@[simp] theorem State.respond_supplyGood (s : State) (code field : Byte) (r : ReplyStatus) (body : List Byte) :
    (s.respond code field r body).supplyGood = s.supplyGood := rfl
@[simp] theorem State.respond_nextEval (s : State) (code field : Byte) (r : ReplyStatus) (body : List Byte) :
    (s.respond code field r body).nextEval = s.nextEval := rfl
@[simp] theorem State.respond_clock (s : State) (code field : Byte) (r : ReplyStatus) (body : List Byte) :
    (s.respond code field r body).clock = s.clock := rfl
@[simp] theorem State.respond_signals (s : State) (code field : Byte) (r : ReplyStatus) (body : List Byte) :
    (s.respond code field r body).signals = s.signals := rfl
@[simp] theorem State.respond_freeIndex (s : State) (code field : Byte) (r : ReplyStatus) (body : List Byte) :
    (s.respond code field r body).freeIndex = s.freeIndex := rfl
@[simp] theorem State.respond_pending (s : State) (code field : Byte) (r : ReplyStatus) (body : List Byte) :
    (s.respond code field r body).pending = s.pending := rfl

/-! ### Messages answered -/

@[simp] theorem State.replied_bay (s : State) (code field : Byte) (r : ReplyStatus) (body : List Byte) (b : BayId) : (s.replied code field r body).bay b = s.bay b := by cases b <;> rfl
@[simp] theorem State.replied_budget (s : State) (code field : Byte) (r : ReplyStatus) (body : List Byte) :
    (s.replied code field r body).budget = s.budget := rfl
@[simp] theorem State.replied_queue (s : State) (code field : Byte) (r : ReplyStatus) (body : List Byte) :
    (s.replied code field r body).queue = s.queue := rfl
@[simp] theorem State.replied_faults (s : State) (code field : Byte) (r : ReplyStatus) (body : List Byte) :
    (s.replied code field r body).faults = s.faults := rfl
@[simp] theorem State.replied_settings (s : State) (code field : Byte) (r : ReplyStatus) (body : List Byte) :
    (s.replied code field r body).settings = s.settings := rfl
@[simp] theorem State.replied_events (s : State) (code field : Byte) (r : ReplyStatus) (body : List Byte) :
    (s.replied code field r body).events = s.events := rfl
@[simp] theorem State.replied_link (s : State) (code field : Byte) (r : ReplyStatus) (body : List Byte) :
    (s.replied code field r body).link = { s.link with assembly := .idle, reply := some { status := r, code, bay := field, body } } := rfl
@[simp] theorem State.replied_supplyGood (s : State) (code field : Byte) (r : ReplyStatus) (body : List Byte) :
    (s.replied code field r body).supplyGood = s.supplyGood := rfl
@[simp] theorem State.replied_nextEval (s : State) (code field : Byte) (r : ReplyStatus) (body : List Byte) :
    (s.replied code field r body).nextEval = s.nextEval := rfl
@[simp] theorem State.replied_clock (s : State) (code field : Byte) (r : ReplyStatus) (body : List Byte) :
    (s.replied code field r body).clock = s.clock := rfl
@[simp] theorem State.replied_signals (s : State) (code field : Byte) (r : ReplyStatus) (body : List Byte) :
    (s.replied code field r body).signals = s.signals := rfl
@[simp] theorem State.replied_freeIndex (s : State) (code field : Byte) (r : ReplyStatus) (body : List Byte) :
    (s.replied code field r body).freeIndex = s.freeIndex := rfl
@[simp] theorem State.replied_pending (s : State) (code field : Byte) (r : ReplyStatus) (body : List Byte) :
    (s.replied code field r body).pending = s.pending := rfl

/-! ### The receive assembly -/

@[simp] theorem State.setAssembly_bay (s : State) (a : Assembly) (b : BayId) : (s.setAssembly a).bay b = s.bay b := by cases b <;> rfl
@[simp] theorem State.setAssembly_budget (s : State) (a : Assembly) :
    (s.setAssembly a).budget = s.budget := rfl
@[simp] theorem State.setAssembly_queue (s : State) (a : Assembly) :
    (s.setAssembly a).queue = s.queue := rfl
@[simp] theorem State.setAssembly_faults (s : State) (a : Assembly) :
    (s.setAssembly a).faults = s.faults := rfl
@[simp] theorem State.setAssembly_settings (s : State) (a : Assembly) :
    (s.setAssembly a).settings = s.settings := rfl
@[simp] theorem State.setAssembly_events (s : State) (a : Assembly) :
    (s.setAssembly a).events = s.events := rfl
@[simp] theorem State.setAssembly_link (s : State) (a : Assembly) :
    (s.setAssembly a).link = { s.link with assembly := a } := rfl
@[simp] theorem State.setAssembly_supplyGood (s : State) (a : Assembly) :
    (s.setAssembly a).supplyGood = s.supplyGood := rfl
@[simp] theorem State.setAssembly_nextEval (s : State) (a : Assembly) :
    (s.setAssembly a).nextEval = s.nextEval := rfl
@[simp] theorem State.setAssembly_clock (s : State) (a : Assembly) :
    (s.setAssembly a).clock = s.clock := rfl
@[simp] theorem State.setAssembly_signals (s : State) (a : Assembly) :
    (s.setAssembly a).signals = s.signals := rfl
@[simp] theorem State.setAssembly_freeIndex (s : State) (a : Assembly) :
    (s.setAssembly a).freeIndex = s.freeIndex := rfl
@[simp] theorem State.setAssembly_pending (s : State) (a : Assembly) :
    (s.setAssembly a).pending = s.pending := rfl

/-! ### A frame discarded -/

@[simp] theorem State.discardFrame_bay (s : State)  (b : BayId) : (s.discardFrame).bay b = s.bay b := by cases b <;> rfl
@[simp] theorem State.discardFrame_budget (s : State)  :
    (s.discardFrame).budget = s.budget := rfl
@[simp] theorem State.discardFrame_queue (s : State)  :
    (s.discardFrame).queue = s.queue := rfl
@[simp] theorem State.discardFrame_faults (s : State)  :
    (s.discardFrame).faults = s.faults := rfl
@[simp] theorem State.discardFrame_settings (s : State)  :
    (s.discardFrame).settings = s.settings := rfl
@[simp] theorem State.discardFrame_events (s : State)  :
    (s.discardFrame).events = s.events ||| 8#5 := rfl
@[simp] theorem State.discardFrame_link (s : State)  :
    (s.discardFrame).link = { s.link with assembly := .idle, errors := min Config.max16 (s.link.errors + 1) } := rfl
@[simp] theorem State.discardFrame_supplyGood (s : State)  :
    (s.discardFrame).supplyGood = s.supplyGood := rfl
@[simp] theorem State.discardFrame_nextEval (s : State)  :
    (s.discardFrame).nextEval = s.nextEval := rfl
@[simp] theorem State.discardFrame_clock (s : State)  :
    (s.discardFrame).clock = s.clock := rfl
@[simp] theorem State.discardFrame_signals (s : State)  :
    (s.discardFrame).signals = s.signals := rfl
@[simp] theorem State.discardFrame_freeIndex (s : State)  :
    (s.discardFrame).freeIndex = s.freeIndex := rfl
@[simp] theorem State.discardFrame_pending (s : State)  :
    (s.discardFrame).pending = s.pending := rfl

/-! ### The waiting commands -/

@[simp] theorem State.withPending_bay (s : State) (cs : List Instr) (b : BayId) : (s.withPending cs).bay b = s.bay b := by cases b <;> rfl
@[simp] theorem State.withPending_budget (s : State) (cs : List Instr) :
    (s.withPending cs).budget = s.budget := rfl
@[simp] theorem State.withPending_queue (s : State) (cs : List Instr) :
    (s.withPending cs).queue = s.queue := rfl
@[simp] theorem State.withPending_faults (s : State) (cs : List Instr) :
    (s.withPending cs).faults = s.faults := rfl
@[simp] theorem State.withPending_settings (s : State) (cs : List Instr) :
    (s.withPending cs).settings = s.settings := rfl
@[simp] theorem State.withPending_events (s : State) (cs : List Instr) :
    (s.withPending cs).events = s.events := rfl
@[simp] theorem State.withPending_link (s : State) (cs : List Instr) :
    (s.withPending cs).link = s.link := rfl
@[simp] theorem State.withPending_supplyGood (s : State) (cs : List Instr) :
    (s.withPending cs).supplyGood = s.supplyGood := rfl
@[simp] theorem State.withPending_nextEval (s : State) (cs : List Instr) :
    (s.withPending cs).nextEval = s.nextEval := rfl
@[simp] theorem State.withPending_clock (s : State) (cs : List Instr) :
    (s.withPending cs).clock = s.clock := rfl
@[simp] theorem State.withPending_signals (s : State) (cs : List Instr) :
    (s.withPending cs).signals = s.signals := rfl
@[simp] theorem State.withPending_freeIndex (s : State) (cs : List Instr) :
    (s.withPending cs).freeIndex = s.freeIndex := rfl
@[simp] theorem State.withPending_pending (s : State) (cs : List Instr) :
    (s.withPending cs).pending = cs := rfl

/-! ### The settings -/

@[simp] theorem State.withSettings_bay (s : State) (c : Settings) (b : BayId) : (s.withSettings c).bay b = s.bay b := by cases b <;> rfl
@[simp] theorem State.withSettings_budget (s : State) (c : Settings) :
    (s.withSettings c).budget = s.budget := rfl
@[simp] theorem State.withSettings_queue (s : State) (c : Settings) :
    (s.withSettings c).queue = s.queue := rfl
@[simp] theorem State.withSettings_faults (s : State) (c : Settings) :
    (s.withSettings c).faults = s.faults := rfl
@[simp] theorem State.withSettings_settings (s : State) (c : Settings) :
    (s.withSettings c).settings = c := rfl
@[simp] theorem State.withSettings_events (s : State) (c : Settings) :
    (s.withSettings c).events = s.events := rfl
@[simp] theorem State.withSettings_link (s : State) (c : Settings) :
    (s.withSettings c).link = s.link := rfl
@[simp] theorem State.withSettings_supplyGood (s : State) (c : Settings) :
    (s.withSettings c).supplyGood = s.supplyGood := rfl
@[simp] theorem State.withSettings_nextEval (s : State) (c : Settings) :
    (s.withSettings c).nextEval = s.nextEval := rfl
@[simp] theorem State.withSettings_clock (s : State) (c : Settings) :
    (s.withSettings c).clock = s.clock := rfl
@[simp] theorem State.withSettings_signals (s : State) (c : Settings) :
    (s.withSettings c).signals = s.signals := rfl
@[simp] theorem State.withSettings_freeIndex (s : State) (c : Settings) :
    (s.withSettings c).freeIndex = s.freeIndex := rfl
@[simp] theorem State.withSettings_pending (s : State) (c : Settings) :
    (s.withSettings c).pending = s.pending := rfl

/-! ### Per-bay events -/

@[simp] theorem State.latch_bay (s : State) (b : BayId) (e : BayEvent) :
    (s.latch b e).bay b =
      { s.bay b with latches := { (s.bay b).latches with events := (s.bay b).latches.events ||| BitVec.twoPow 26 e.bit } } := by
  cases b <;> rfl
@[simp] theorem State.latch_other (s : State) (b : BayId) (e : BayEvent) : (s.latch b e).bay b.other = s.bay b.other := by
  cases b <;> rfl
@[simp] theorem State.latch_budget (s : State) (b : BayId) (e : BayEvent) : (s.latch b e).budget = s.budget := by cases b <;> rfl
@[simp] theorem State.latch_queue (s : State) (b : BayId) (e : BayEvent) : (s.latch b e).queue = s.queue := by cases b <;> rfl
@[simp] theorem State.latch_faults (s : State) (b : BayId) (e : BayEvent) : (s.latch b e).faults = s.faults := by cases b <;> rfl
@[simp] theorem State.latch_settings (s : State) (b : BayId) (e : BayEvent) : (s.latch b e).settings = s.settings := by cases b <;> rfl
@[simp] theorem State.latch_events (s : State) (b : BayId) (e : BayEvent) : (s.latch b e).events = s.events := by cases b <;> rfl
@[simp] theorem State.latch_link (s : State) (b : BayId) (e : BayEvent) : (s.latch b e).link = s.link := by cases b <;> rfl
@[simp] theorem State.latch_supplyGood (s : State) (b : BayId) (e : BayEvent) : (s.latch b e).supplyGood = s.supplyGood := by cases b <;> rfl
@[simp] theorem State.latch_nextEval (s : State) (b : BayId) (e : BayEvent) : (s.latch b e).nextEval = s.nextEval := by cases b <;> rfl
@[simp] theorem State.latch_clock (s : State) (b : BayId) (e : BayEvent) : (s.latch b e).clock = s.clock := by cases b <;> rfl
@[simp] theorem State.latch_signals (s : State) (b : BayId) (e : BayEvent) : (s.latch b e).signals = s.signals := by cases b <;> rfl
@[simp] theorem State.latch_freeIndex (s : State) (b : BayId) (e : BayEvent) : (s.latch b e).freeIndex = s.freeIndex := by cases b <;> rfl
@[simp] theorem State.latch_pending (s : State) (b : BayId) (e : BayEvent) : (s.latch b e).pending = s.pending := by cases b <;> rfl

/-! ### The head select output and the free profile of a move -/

@[simp] theorem State.selectHead_bay (s : State) (b : BayId) (n : Nat) :
    (s.selectHead b n).bay b = { s.bay b with pins := { (s.bay b).pins with headSelect := n } } := by cases b <;> rfl
@[simp] theorem State.selectHead_other (s : State) (b : BayId) (n : Nat) :
    (s.selectHead b n).bay b.other = s.bay b.other := by cases b <;> rfl
@[simp] theorem State.selectHead_budget (s : State) (b : BayId) (n : Nat) : (s.selectHead b n).budget = s.budget := by
  cases b <;> rfl
@[simp] theorem State.selectHead_queue (s : State) (b : BayId) (n : Nat) : (s.selectHead b n).queue = s.queue := by
  cases b <;> rfl
@[simp] theorem State.selectHead_faults (s : State) (b : BayId) (n : Nat) : (s.selectHead b n).faults = s.faults := by
  cases b <;> rfl
@[simp] theorem State.selectHead_settings (s : State) (b : BayId) (n : Nat) : (s.selectHead b n).settings = s.settings := by
  cases b <;> rfl
@[simp] theorem State.selectHead_events (s : State) (b : BayId) (n : Nat) : (s.selectHead b n).events = s.events := by
  cases b <;> rfl
@[simp] theorem State.selectHead_link (s : State) (b : BayId) (n : Nat) : (s.selectHead b n).link = s.link := by
  cases b <;> rfl
@[simp] theorem State.selectHead_supplyGood (s : State) (b : BayId) (n : Nat) : (s.selectHead b n).supplyGood = s.supplyGood := by
  cases b <;> rfl
@[simp] theorem State.selectHead_nextEval (s : State) (b : BayId) (n : Nat) : (s.selectHead b n).nextEval = s.nextEval := by
  cases b <;> rfl
@[simp] theorem State.selectHead_clock (s : State) (b : BayId) (n : Nat) : (s.selectHead b n).clock = s.clock := by
  cases b <;> rfl
@[simp] theorem State.selectHead_signals (s : State) (b : BayId) (n : Nat) : (s.selectHead b n).signals = s.signals := by
  cases b <;> rfl
@[simp] theorem State.selectHead_freeIndex (s : State) (b : BayId) (n : Nat) : (s.selectHead b n).freeIndex = s.freeIndex := by
  cases b <;> rfl
@[simp] theorem State.selectHead_pending (s : State) (b : BayId) (n : Nat) : (s.selectHead b n).pending = s.pending := by
  cases b <;> rfl
@[simp] theorem State.newMove_bay (s : State) (b : BayId) :
    (s.newMove b).bay b = { s.bay b with act := { (s.bay b).act with move := s.freeIndex } } := by cases b <;> rfl
@[simp] theorem State.newMove_other (s : State) (b : BayId) : (s.newMove b).bay b.other = s.bay b.other := by cases b <;> rfl
@[simp] theorem State.newMove_freeIndex (s : State) (b : BayId) : (s.newMove b).freeIndex = s.freeIndex + 1 := rfl
@[simp] theorem State.newMove_budget (s : State) (b : BayId) : (s.newMove b).budget = s.budget := by cases b <;> rfl
@[simp] theorem State.newMove_queue (s : State) (b : BayId) : (s.newMove b).queue = s.queue := by cases b <;> rfl
@[simp] theorem State.newMove_faults (s : State) (b : BayId) : (s.newMove b).faults = s.faults := by cases b <;> rfl
@[simp] theorem State.newMove_settings (s : State) (b : BayId) : (s.newMove b).settings = s.settings := by cases b <;> rfl
@[simp] theorem State.newMove_events (s : State) (b : BayId) : (s.newMove b).events = s.events := by cases b <;> rfl
@[simp] theorem State.newMove_link (s : State) (b : BayId) : (s.newMove b).link = s.link := by cases b <;> rfl
@[simp] theorem State.newMove_supplyGood (s : State) (b : BayId) : (s.newMove b).supplyGood = s.supplyGood := by cases b <;> rfl
@[simp] theorem State.newMove_nextEval (s : State) (b : BayId) : (s.newMove b).nextEval = s.nextEval := by cases b <;> rfl
@[simp] theorem State.newMove_clock (s : State) (b : BayId) : (s.newMove b).clock = s.clock := by cases b <;> rfl
@[simp] theorem State.newMove_signals (s : State) (b : BayId) : (s.newMove b).signals = s.signals := by cases b <;> rfl
@[simp] theorem State.newMove_pending (s : State) (b : BayId) : (s.newMove b).pending = s.pending := by cases b <;> rfl

end Sys2Proof.Machine
end

