-- ==== Sys2Proof/Laws/Ops.lean ====
section
/-!
SUPPORT. What the shared operations of Machine/Ops.lean and Machine/Flags.lean do: messages, the request slot, the fault list,
the counters, notices and latches.
-/

namespace Sys2Proof.Machine

/-! ### Messages (R167 to R169) -/

@[simp] theorem bayOf_field (b : BayId) : bayOf b.field = some b := by cases b <;> rfl

/-- A message taken runs with the receive assembly idle. -/
theorem State.takeMessage_receives {s : State} (h : s.receives = true) (act : State → State) :
    s.takeMessage act = act (s.setAssembly .idle) := if_pos h

/-- A message sent while the unit does not receive is lost. -/
theorem State.takeMessage_lost {s : State} (h : s.receives = false) (act : State → State) : s.takeMessage act = s := by
  simp [State.takeMessage, h]

/-- A message addressed to a bay by its own field reaches that bay. -/
theorem State.forBay_field {s : State} (h : s.receives = true) (code : Byte) (b : BayId) (act : State → BayId → State) :
    s.forBay code b.field act = act (s.setAssembly .idle) b := by
  simp [State.forBay, State.takeMessage_receives h, State.toBay]

/-- A message addressed to a bay, with another bay field, is refused BAD BAY. -/
theorem State.forBay_bad {s : State} (h : s.receives = true) (code : Byte) {field : Byte} (bad : bayOf field = none)
    (act : State → BayId → State) : s.forBay code field act = s.replied code field .badBay := by
  simp [State.forBay, State.takeMessage_receives h, State.toBay, bad]; rfl

/-- A counted message with a count of 1 to 4 reaches its bay. -/
theorem State.forBayCounted_field {s : State} (h : s.receives = true) (code count : Byte) (b : BayId)
    (ok : countOk count = true) (act : State → BayId → State) :
    s.forBayCounted code b.field count act = act (s.setAssembly .idle) b := by
  simp [State.forBayCounted, State.takeMessage_receives h, State.toBay, ok]

/-- A unit-level message reaches its rule. -/
theorem State.forUnit_field {s : State} (h : s.receives = true) (code : Byte) (act : State → State) :
    s.forUnit code 255#8 act = act (s.setAssembly .idle) := by
  simp [State.forUnit, State.takeMessage_receives h, unitField]

/-- A unit-level message with another bay field is refused BAD BAY. -/
theorem State.forUnit_bad {s : State} (h : s.receives = true) (code : Byte) {field : Byte} (bad : field ≠ 255#8)
    (act : State → State) : s.forUnit code field act = s.replied code field .badBay := by
  simp [State.forUnit, State.takeMessage_receives h, unitField, bad]; rfl

/-- A reply composed by a message taken is the answer of `State.replied`. -/
theorem State.respond_idle (s : State) (code field : Byte) (r : ReplyStatus) (body : List Byte) :
    (s.setAssembly .idle).respond code field r body = s.replied code field r body := rfl

/-! ### The request slot (R170, R172) -/

/-- A completion finds a request in progress, which is then DONE with RESULT READY latched. -/
theorem State.completeSlot_inProgress {s : State} {b : BayId} (h : (s.bay b).slot.state = .inProgress) (r : ResultStatus) :
    s.completeSlot b r = (s.modSlot b fun x => { x with state := .done, result := r, next := 1 }).latch b .resultReady :=
  if_pos h

/-- A completion that finds no request in progress has no effect. -/
theorem State.completeSlot_else {s : State} {b : BayId} (h : (s.bay b).slot.state ≠ .inProgress) (r : ResultStatus) :
    s.completeSlot b r = s := if_neg h

/-- What a completion can change: the slot and the latches of its bay. -/
theorem State.completeSlot_cases (s : State) (b : BayId) (r : ResultStatus) :
    s.completeSlot b r = s ∨
      s.completeSlot b r = (s.modSlot b fun x => { x with state := .done, result := r, next := 1 }).latch b .resultReady := by
  unfold State.completeSlot; split <;> simp

/-- What the end of a request can change: the slot and the latches of its bay. -/
theorem State.endSlot_cases (s : State) (b : BayId) (r : ResultStatus) :
    s.endSlot b r = s ∨
      s.endSlot b r =
        (s.modSlot b fun x => { x with state := .done, result := r, staged := 0, next := 1 }).latch b .resultReady := by
  unfold State.endSlot; split <;> simp

/-! ### The counters and the fault list (R138, R152) -/

/-- What a rise of a counter can change: the counters and the latches of its bay. -/
theorem State.raise_cases (s : State) (b : BayId) (n : CounterName) (amount : Nat) :
    let new := min Config.max16 ((s.bay b).counters.counts[n.index] + amount)
    let t := s.modCounters b fun c => { c with counts := c.counts.set n.index new }
    s.raise b n amount = t ∨ s.raise b n amount = t.latchCounter b n := by
  simp only [State.raise]; split <;> simp

/-- What a fault record can change: the fault list and the unit events. -/
theorem State.appendFault_cases (s : State) (r : FaultRecord) :
    ∃ f e, s.appendFault r = { s with faults := f, events := e } := by
  unfold State.appendFault; split
  · split
    · exact ⟨_, _, rfl⟩
    · exact ⟨_, s.events, rfl⟩
  · exact ⟨_, s.events, rfl⟩

end Sys2Proof.Machine
end

