-- ==== Sys2Proof/Laws/Queue.lean ====
section
/-!
SUPPORT. What the operations of the Write Queue do (chapter 8): its list, the mark test, placing, removal and discards.
-/

namespace Sys2Proof.Machine

/-! ### Lists of items -/

@[simp] theorem Item.bay_entry (e : WriteEntry) : (Item.entry e).bay = e.bay := rfl
@[simp] theorem Item.bay_mark (b : BayId) (k : MarkKind) : (Item.mark b k).bay = b := rfl
@[simp] theorem entriesOf_nil : entriesOf [] = [] := rfl
@[simp] theorem entriesOf_entry (e : WriteEntry) (l : List Item) : entriesOf (.entry e :: l) = e :: entriesOf l := rfl
@[simp] theorem entriesOf_mark (b : BayId) (k : MarkKind) (l : List Item) : entriesOf (.mark b k :: l) = entriesOf l := rfl

/-- The write entries of two lists joined. -/
@[simp] theorem entriesOf_append (l m : List Item) : entriesOf (l ++ m) = entriesOf l ++ entriesOf m := by
  induction l with
  | nil => rfl
  | cons i l ih => cases i <;> simp [ih]

/-- The write entries of a list are its entry items. -/
@[simp] theorem mem_entriesOf {e : WriteEntry} {l : List Item} : e ∈ entriesOf l ↔ .entry e ∈ l := by
  induction l with
  | nil => simp
  | cons i l ih => cases i <;> simp [ih]

/-- A list has at least as many items as write entries. -/
theorem entriesOf_length_le (l : List Item) : (entriesOf l).length ≤ l.length := by
  induction l with
  | nil => simp
  | cons i l ih => cases i <;> simp <;> omega

/-- A bay is drained when no item is its own (R129). -/
theorem WriteQueue.drained_iff (q : WriteQueue) (b : BayId) : q.drained b = true ↔ ∀ i ∈ q.items, i.bay ≠ b := by
  simp [WriteQueue.drained, itemsOf]

/-! ### The newest entry of a block (R136) -/

/-- The newest entry of a block is the one behind which the list holds no other of that bay and block, QUEUED or WRITING. -/
theorem WriteQueue.newest_of_last {q : WriteQueue} {b : BayId} {block : Nat} {e : WriteEntry} {pre post : List Item}
    (hq : q.items = pre ++ .entry e :: post) (hb : e.bay = b) (hk : e.block = block)
    (h : ∀ f ∈ entriesOf post, ¬ (f.bay = b ∧ f.block = block)) : q.newest b block = some e := by
  have hp : ((entriesOf post).filter fun f => decide (f.bay = b) && decide (f.block = block)) = [] := by
    simpa [List.filter_eq_nil_iff] using h
  simp [WriteQueue.newest, hq, hb, hk, hp]

/-- There is no newest entry of a block of which the list holds none. -/
theorem WriteQueue.newest_eq_none {q : WriteQueue} {b : BayId} {block : Nat}
    (h : ∀ e ∈ entriesOf q.items, ¬ (e.bay = b ∧ e.block = block)) : q.newest b block = none := by
  simpa [WriteQueue.newest, List.filter_eq_nil_iff] using h

/-! ### The mark test (R129) -/

/-- The mark test removes no write entry. -/
@[simp] theorem entriesOf_dropMarks (b : BayId) (l : List Item) : entriesOf (dropMarks b l).1 = entriesOf l := by
  induction l with
  | nil => rfl
  | cons i l ih =>
    cases i with
    | entry e =>
      by_cases h : e.bay = b
      · simp [dropMarks, h]
      · simp [dropMarks, h, ih]
    | mark c k =>
      by_cases h : c = b
      · simp [dropMarks, h, ih]
      · simp [dropMarks, h, ih]

/-- The mark test leaves the items of the other bay, in their order. -/
theorem itemsOf_dropMarks_other {b c : BayId} (h : c ≠ b) (l : List Item) :
    itemsOf c (dropMarks b l).1 = itemsOf c l := by
  induction l with
  | nil => rfl
  | cons i l ih =>
    simp only [itemsOf] at ih
    cases i with
    | entry e =>
      by_cases hb : e.bay = b
      · simp [dropMarks, hb, itemsOf]
      · simp only [dropMarks, hb, itemsOf, List.filter_cons, ih, if_false]
    | mark d k =>
      by_cases hb : d = b
      · subst hb
        simp [dropMarks, itemsOf, h.symm, ih]
      · simp only [dropMarks, hb, itemsOf, List.filter_cons, ih, if_false]

/-- After the mark test the first item of the bay, if there is one, is a write entry. -/
theorem itemsOf_dropMarks_head (b : BayId) (l : List Item) :
    ∀ i ∈ (itemsOf b (dropMarks b l).1).head?, ∃ e, i = .entry e := by
  induction l with
  | nil => simp [dropMarks, itemsOf]
  | cons i l ih =>
    simp only [itemsOf] at ih
    cases i with
    | entry e =>
      by_cases hb : e.bay = b
      · simp [dropMarks, hb, itemsOf]
      · simp [dropMarks, hb, itemsOf]
        simpa using ih
    | mark d k =>
      by_cases hb : d = b
      · subst hb
        simp [dropMarks, itemsOf]
        simpa using ih
      · simp [dropMarks, hb, itemsOf]
        simpa using ih

/-- What the mark test can change: the list, and with a FLUSH removed the slot and the latches of the bay. -/
theorem State.markTest_cases (s : State) (b : BayId) :
    let t : State := { s with queue := { s.queue with items := (dropMarks b s.queue.items).1 } }
    s.markTest b = t ∨ s.markTest b = t.completeSlot b .done := by
  simp only [State.markTest]
  split <;> simp

/-! ### Placing, ordering and discards -/

/-- A WRITE is merged, appended with the lowest free slot, or refused (R125). -/
theorem WriteQueue.place_cases (q : WriteQueue) (b : BayId) (block : Nat) (d : Sector) :
    (∃ e, q.mergeTarget b block = some e ∧ q.place b block d = (q.putData e.slot d, .merged e.arrival)) ∨
      (∃ i, q.mergeTarget b block = none ∧ q.freeSlot = some i ∧
        q.place b block d =
          ({ q.putData i.val d with
              items := q.items ++ [.entry { bay := b, block, slot := i.val, writing := false, attempts := 0,
                                            arrival := q.nextArrival }]
              nextArrival := (q.nextArrival + 1) % 65536 }, .appended q.nextArrival)) ∨
      (q.mergeTarget b block = none ∧ q.freeSlot = none ∧ q.place b block d = (q, .full)) := by
  unfold WriteQueue.place
  split
  · exact .inl ⟨_, ‹_›, rfl⟩
  · split
    · exact .inr (.inl ⟨_, ‹_›, ‹_›, rfl⟩)
    · exact .inr (.inr ⟨‹_›, ‹_›, rfl⟩)

/-- An ORDER leaves the list, or appends one mark while fewer than 8 are held (R127). -/
theorem WriteQueue.order_cases (q : WriteQueue) (b : BayId) :
    (q.order b).1 = q ∨ (q.markCount < 8 ∧ q.order b = ({ q with items := q.items ++ [.mark b .order] }, true)) := by
  unfold WriteQueue.order
  split
  · split
    · exact .inr ⟨‹_›, rfl⟩
    · exact .inl rfl
  · exact .inl rfl

/-- The lowest free slot is held by no entry (R123). -/
theorem WriteQueue.freeSlot_some {q : WriteQueue} {i : Fin 16} (h : q.freeSlot = some i) :
    ∀ e ∈ entriesOf q.items, e.slot ≠ i.val := by
  have := List.find?_some h
  simpa using this

/-- A discard takes the bay's items off the list, and changes nothing of the queue besides (R137). -/
theorem State.discard_queue (s : State) (b : BayId) :
    (s.discard b).queue = { s.queue with items := s.queue.items.filter fun i => i.bay ≠ b } := by
  unfold State.discard
  simp only
  split
  · rfl
  · simp [State.appendFault, State.raise]
    split <;> split <;> (try split) <;> simp [State.latchUnit, State.latchCounter]

/-- The WRITING entry taken off the list is no longer in it (R133). -/
theorem not_mem_removeWriting (b : BayId) (n : Nat) (l : List Item) :
    ∀ e ∈ entriesOf (removeWriting b n l), ¬ (e.bay = b ∧ e.arrival = n ∧ e.writing = true) := by
  intro e he
  simp only [mem_entriesOf, removeWriting, List.mem_filter] at he
  have := he.2
  simp only [Bool.not_eq_eq_eq_not, Bool.not_true, decide_eq_false_iff_not] at this
  exact this

end Sys2Proof.Machine
end

