-- ==== Sys2Proof/Laws/Within.lean ====
section
/-!
SUPPORT. What no operation of one bay's blocks can do: `State.Within b s t` says that t differs from s in nothing outside bay b
but the notices under way, the fault list, the unit events, and bay b's own items of the Write Queue. One lemma for each
operation says that it stays within its bay.
-/

namespace Sys2Proof.Machine

/-- A state that differs from another only within one bay, and in the notices, the fault list and the unit events. -/
structure State.Within (b : BayId) (s t : State) : Prop where
  other       : t.bay b.other = s.bay b.other
  budget      : t.budget = s.budget
  slots       : t.queue.slots = s.queue.slots
  nextArrival : t.queue.nextArrival = s.queue.nextArrival
  items       : itemsOf b.other t.queue.items = itemsOf b.other s.queue.items
  settings    : t.settings = s.settings
  link        : t.link = s.link
  supplyGood  : t.supplyGood = s.supplyGood
  nextEval    : t.nextEval = s.nextEval
  clock       : t.clock = s.clock
  freeIndex   : t.freeIndex = s.freeIndex
  pending     : t.pending = s.pending

@[simp] theorem State.Within.refl (b : BayId) (s : State) : s.Within b s := ⟨rfl, rfl, rfl, rfl, rfl, rfl, rfl, rfl, rfl, rfl, rfl, rfl⟩

theorem State.Within.trans {b : BayId} {s t u : State} (h : State.Within b s t) (k : State.Within b t u) :
    State.Within b s u :=
  ⟨k.other.trans h.other, k.budget.trans h.budget, k.slots.trans h.slots, k.nextArrival.trans h.nextArrival,
    k.items.trans h.items, k.settings.trans h.settings, k.link.trans h.link, k.supplyGood.trans h.supplyGood,
    k.nextEval.trans h.nextEval, k.clock.trans h.clock, k.freeIndex.trans h.freeIndex, k.pending.trans h.pending⟩

/-- Being within a bay depends on the fields it names alone. -/
theorem State.within_congr {b : BayId} {t u : State} (h : State.Within b t u) (s : State) :
    State.Within b s u ↔ State.Within b s t :=
  ⟨fun k => ⟨h.other.symm.trans k.other, h.budget.symm.trans k.budget, h.slots.symm.trans k.slots,
    h.nextArrival.symm.trans k.nextArrival, h.items.symm.trans k.items, h.settings.symm.trans k.settings,
    h.link.symm.trans k.link, h.supplyGood.symm.trans k.supplyGood, h.nextEval.symm.trans k.nextEval,
    h.clock.symm.trans k.clock, h.freeIndex.symm.trans k.freeIndex, h.pending.symm.trans k.pending⟩, fun k => k.trans h⟩

/-! ### Updates -/

@[simp] theorem State.within_modBay (s t : State) (b : BayId) (f : Bay → Bay) :
    State.Within b s (t.modBay b f) ↔ State.Within b s t :=
  State.within_congr (by cases b <;> exact ⟨rfl, rfl, rfl, rfl, rfl, rfl, rfl, rfl, rfl, rfl, rfl, rfl⟩) s
@[simp] theorem State.within_modPins (s t : State) (b : BayId) (f : BayPins → BayPins) :
    State.Within b s (t.modPins b f) ↔ State.Within b s t := State.within_modBay s t b _
@[simp] theorem State.within_modRecord (s t : State) (b : BayId) (f : BayRecord → BayRecord) :
    State.Within b s (t.modRecord b f) ↔ State.Within b s t := State.within_modBay s t b _
@[simp] theorem State.within_modSpindle (s t : State) (b : BayId) (f : Spindle → Spindle) :
    State.Within b s (t.modSpindle b f) ↔ State.Within b s t := State.within_modBay s t b _
@[simp] theorem State.within_modAct (s t : State) (b : BayId) (f : Actuator → Actuator) :
    State.Within b s (t.modAct b f) ↔ State.Within b s t := State.within_modBay s t b _
@[simp] theorem State.within_modHeat (s t : State) (b : BayId) (f : Heat → Heat) :
    State.Within b s (t.modHeat b f) ↔ State.Within b s t := State.within_modBay s t b _
@[simp] theorem State.within_modMedia (s t : State) (b : BayId) (f : Media → Media) :
    State.Within b s (t.modMedia b f) ↔ State.Within b s t := State.within_modBay s t b _
@[simp] theorem State.within_modMap (s t : State) (b : BayId) (f : RemapTable → RemapTable) :
    State.Within b s (t.modMap b f) ↔ State.Within b s t := State.within_modBay s t b _
@[simp] theorem State.within_modSlot (s t : State) (b : BayId) (f : Slot → Slot) :
    State.Within b s (t.modSlot b f) ↔ State.Within b s t := State.within_modBay s t b _
@[simp] theorem State.within_modLatches (s t : State) (b : BayId) (f : Latches → Latches) :
    State.Within b s (t.modLatches b f) ↔ State.Within b s t := State.within_modBay s t b _
@[simp] theorem State.within_modCounters (s t : State) (b : BayId) (f : Counters → Counters) :
    State.Within b s (t.modCounters b f) ↔ State.Within b s t := State.within_modBay s t b _
@[simp] theorem State.within_signals (s t : State) (b : BayId) (l : List Signal) :
    State.Within b s { t with signals := l } ↔ State.Within b s t :=
  State.within_congr (by cases b <;> exact ⟨rfl, rfl, rfl, rfl, rfl, rfl, rfl, rfl, rfl, rfl, rfl, rfl⟩) s
@[simp] theorem State.within_faults (s t : State) (b : BayId) (f : FaultList) :
    State.Within b s { t with faults := f } ↔ State.Within b s t :=
  State.within_congr (by cases b <;> exact ⟨rfl, rfl, rfl, rfl, rfl, rfl, rfl, rfl, rfl, rfl, rfl, rfl⟩) s
@[simp] theorem State.within_latchUnit (s t : State) (b : BayId) (e : UnitEvent) :
    State.Within b s (t.latchUnit e) ↔ State.Within b s t :=
  State.within_congr (by cases b <;> exact ⟨rfl, rfl, rfl, rfl, rfl, rfl, rfl, rfl, rfl, rfl, rfl, rfl⟩) s
/-- A list of items that keeps those of the other bay. -/
theorem State.within_items {s t : State} {b : BayId} {l : List Item} (h : itemsOf b.other l = itemsOf b.other t.queue.items) :
    State.Within b s { t with queue := { t.queue with items := l } } ↔ State.Within b s t :=
  State.within_congr (by cases b <;> exact ⟨rfl, rfl, rfl, rfl, h, rfl, rfl, rfl, rfl, rfl, rfl, rfl⟩) s

/-! ### Shared operations (Machine/Ops.lean, Machine/Flags.lean) -/

@[simp] theorem State.within_latch (s t : State) (b : BayId) (e : BayEvent) :
    State.Within b s (t.latch b e) ↔ State.Within b s t := by
  simp [State.latch]
@[simp] theorem State.within_latchLabelInvalid (s t : State) (b : BayId) (c : LabelCause) :
    State.Within b s (t.latchLabelInvalid b c) ↔ State.Within b s t := by
  simp [State.latchLabelInvalid]
@[simp] theorem State.within_latchCounter (s t : State) (b : BayId) (n : CounterName) :
    State.Within b s (t.latchCounter b n) ↔ State.Within b s t := by
  simp [State.latchCounter]
@[simp] theorem State.within_send (s t : State) (b : BayId) (x : Signal) :
    State.Within b s (t.send x) ↔ State.Within b s t := State.within_signals s t b _
@[simp] theorem State.within_appendFault (s t : State) (b : BayId) (r : FaultRecord) :
    State.Within b s (t.appendFault r) ↔ State.Within b s t := by
  simp only [State.appendFault]; (repeat' split) <;> simp
@[simp] theorem State.within_request (s t : State) (b : BayId) (k : RequestKind) (l : Nat) :
    State.Within b s (t.request b k l) ↔ State.Within b s t := by
  simp [State.request]
@[simp] theorem State.within_release (s t : State) (b : BayId) (c : Consumer) :
    State.Within b s (t.release b c) ↔ State.Within b s t := by
  simp [State.release]
@[simp] theorem State.within_withdraw (s t : State) (b : BayId) (k : RequestKind) :
    State.Within b s (t.withdraw b k) ↔ State.Within b s t := by
  simp [State.withdraw]
@[simp] theorem State.within_raise (s t : State) (b : BayId) (n : CounterName) (a : Nat) :
    State.Within b s (t.raise b n a) ↔ State.Within b s t := by
  simp only [State.raise]; (repeat' split) <;> simp
@[simp] theorem State.within_occupySlot (s t : State) (b : BayId) (r : LongRequest) :
    State.Within b s (t.occupySlot b r) ↔ State.Within b s t := by
  simp [State.occupySlot]
@[simp] theorem State.within_completeSlot (s t : State) (b : BayId) (r : ResultStatus) :
    State.Within b s (t.completeSlot b r) ↔ State.Within b s t := by
  simp only [State.completeSlot]; (repeat' split) <;> simp
@[simp] theorem State.within_endSlot (s t : State) (b : BayId) (r : ResultStatus) :
    State.Within b s (t.endSlot b r) ↔ State.Within b s t := by
  simp only [State.endSlot]; (repeat' split) <;> simp
@[simp] theorem State.within_freeSlot (s t : State) (b : BayId) :
    State.Within b s (t.freeSlot b) ↔ State.Within b s t := by
  simp [State.freeSlot]

/-! ### The Write Queue (chapter 8) -/

@[simp] theorem State.within_markTest (s t : State) (b : BayId) :
    State.Within b s (t.markTest b) ↔ State.Within b s t := by
  have h := itemsOf_dropMarks_other (b := b) (c := b.other) (by simp) t.queue.items
  simp only [State.markTest]; split <;> simp [State.within_items h]
/-- A discard takes no item of the other bay. -/
@[simp] theorem State.within_discard (s t : State) (b : BayId) :
    State.Within b s (t.discard b) ↔ State.Within b s t := by
  have h : itemsOf b.other (t.queue.items.filter fun i => i.bay ≠ b) = itemsOf b.other t.queue.items := by
    simp only [itemsOf, List.filter_filter]
    apply List.filter_congr
    intro i _
    cases hb : i.bay <;> cases b <;> simp [BayId.other]
  simp only [State.discard]
  split <;> simp only [State.within_latch, State.within_appendFault, State.within_raise, State.within_items h]

/-! ### The actuator (chapter 5) -/

@[simp] theorem State.within_selectHead (s t : State) (b : BayId) (n : Nat) :
    State.Within b s (t.selectHead b n) ↔ State.Within b s t := State.within_modPins s t b _
@[simp] theorem State.within_startSeek (s t : State) (b : BayId) (q : SeekInHand) (l : Nat) :
    State.Within b s (t.startSeek b q l) ↔ State.Within b s t := by
  simp [State.startSeek]
@[simp] theorem State.within_planSeek (s t : State) (b : BayId) (q : SeekInHand) :
    State.Within b s (t.planSeek b q) ↔ State.Within b s t := by
  simp only [State.planSeek]; (repeat' split) <;> simp
@[simp] theorem State.within_takeSeek (s t : State) (b : BayId) (q : SeekInHand) :
    State.Within b s (t.takeSeek b q) ↔ State.Within b s t := by
  simp only [State.takeSeek]; (repeat' split) <;> simp
@[simp] theorem State.within_releaseSeek (s t : State) (b : BayId) :
    State.Within b s (t.releaseSeek b) ↔ State.Within b s t := by
  simp only [State.releaseSeek]; (repeat' split) <;> simp
@[simp] theorem State.within_askRecal (s t : State) (b : BayId) :
    State.Within b s (t.askRecal b) ↔ State.Within b s t := by
  simp [State.askRecal]
@[simp] theorem State.within_upshiftTest (s t : State) (b : BayId) :
    State.Within b s (t.upshiftTest b) ↔ State.Within b s t := by
  simp only [State.upshiftTest]; (repeat' split) <;> simp
@[simp] theorem State.within_downshiftTest (s t : State) (b : BayId) :
    State.Within b s (t.downshiftTest b) ↔ State.Within b s t := by
  simp only [State.downshiftTest]; (repeat' split) <;> simp
@[simp] theorem State.within_seekSucceeds (s t : State) (b : BayId) (q : SeekInHand) :
    State.Within b s (t.seekSucceeds b q) ↔ State.Within b s t := by
  simp [State.seekSucceeds]
@[simp] theorem State.within_seekFails (s t : State) (b : BayId) (q : SeekInHand) (o : PlanOutcome) :
    State.Within b s (t.seekFails b q o) ↔ State.Within b s t := by
  simp [State.seekFails]
@[simp] theorem State.within_holdSeek (s t : State) (b : BayId) :
    State.Within b s (t.holdSeek b) ↔ State.Within b s t := by
  simp only [State.holdSeek]; (repeat' split) <;> simp
@[simp] theorem State.within_takeHeld (s t : State) (b : BayId) :
    State.Within b s (t.takeHeld b) ↔ State.Within b s t := by
  simp only [State.takeHeld]; (repeat' split) <;> simp
@[simp] theorem State.within_askLoad (s t : State) (b : BayId) :
    State.Within b s (t.askLoad b) ↔ State.Within b s t := by
  simp only [State.askLoad]; (repeat' split) <;> simp
@[simp] theorem State.within_startUnload (s t : State) (b : BayId) :
    State.Within b s (t.startUnload b) ↔ State.Within b s t := by
  simp only [State.startUnload]; (repeat' split) <;> simp
@[simp] theorem State.within_withdrawSeek (s t : State) (b : BayId) :
    State.Within b s (t.withdrawSeek b) ↔ State.Within b s t := by
  simp only [State.withdrawSeek]; (repeat' split) <;> simp
@[simp] theorem State.within_retract (s t : State) (b : BayId) :
    State.Within b s (t.retract b) ↔ State.Within b s t := by
  simp only [State.retract, State.within_modAct, State.within_signals]; split <;> simp
@[simp] theorem State.within_seekNeed (s t : State) (b : BayId) (r : Requester) (c h : Nat) :
    State.Within b s (t.seekNeed b r c h).1 ↔ State.Within b s t := by
  simp only [State.seekNeed]; (repeat' split) <;> simp
@[simp] theorem State.within_askUnload (s t : State) (b : BayId) :
    State.Within b s (t.askUnload b).1 ↔ State.Within b s t := by
  simp only [State.askUnload]; (repeat' split) <;> simp

/-! ### The spindle (chapter 3) -/

@[simp] theorem State.within_spinUp (s t : State) (b : BayId) :
    State.Within b s (t.spinUp b) ↔ State.Within b s t := by
  simp only [State.spinUp]; (repeat' split) <;> simp
@[simp] theorem State.within_answerSpindle (s t : State) (b : BayId) :
    State.Within b s (t.answerSpindle b) ↔ State.Within b s t := by
  simp only [State.answerSpindle]; (repeat' split) <;> simp
@[simp] theorem State.within_endAttempt (s t : State) (b : BayId) :
    State.Within b s (t.endAttempt b) ↔ State.Within b s t := by
  simp [State.endAttempt]
@[simp] theorem State.within_askStop (s t : State) (b : BayId) :
    State.Within b s (t.askStop b).1 ↔ State.Within b s t := by
  simp only [State.askStop]; (repeat' split) <;> simp

/-! ### The Bay Controller (chapters 1 and 10) -/

@[simp] theorem State.within_enterReady (s t : State) (b : BayId) :
    State.Within b s (t.enterReady b) ↔ State.Within b s t := by
  simp [State.enterReady]
@[simp] theorem State.within_enterRaw (s t : State) (b : BayId) :
    State.Within b s (t.enterRaw b) ↔ State.Within b s t := by
  simp [State.enterRaw]
@[simp] theorem State.within_startDebounce (s t : State) (b : BayId) :
    State.Within b s (t.startDebounce b) ↔ State.Within b s t := by
  simp [State.startDebounce]
@[simp] theorem State.within_becomeEmpty (s t : State) (b : BayId) :
    State.Within b s (t.becomeEmpty b) ↔ State.Within b s t := by
  simp only [State.becomeEmpty]; (repeat' split) <;> simp
@[simp] theorem State.within_dropMedia (s t : State) (b : BayId) :
    State.Within b s (t.dropMedia b) ↔ State.Within b s t := by
  simp [State.dropMedia]
@[simp] theorem State.within_stopSolenoid (s t : State) (b : BayId) :
    State.Within b s (t.stopSolenoid b) ↔ State.Within b s t := by
  simp only [State.stopSolenoid]; (repeat' split) <;> simp
@[simp] theorem State.within_faultBasic (s t : State) (b : BayId) (c : FaultCause) :
    State.Within b s (t.faultBasic b c) ↔ State.Within b s t := by
  simp only [State.faultBasic]; (repeat' split) <;> simp
@[simp] theorem State.within_enterRelease (s t : State) (b : BayId) :
    State.Within b s (t.enterRelease b) ↔ State.Within b s t := by
  simp [State.enterRelease]
@[simp] theorem State.within_attemptCounted (s t : State) (b : BayId) :
    State.Within b s (t.attemptCounted b) ↔ State.Within b s t := by
  simp only [State.attemptCounted]; (repeat' split) <;> simp
@[simp] theorem State.within_stopConfirmed (s t : State) (b : BayId) (e : Bool) :
    State.Within b s (t.stopConfirmed b e) ↔ State.Within b s t := by
  simp only [State.stopConfirmed]; (repeat' split) <;> simp
@[simp] theorem State.within_stopSpindle (s t : State) (b : BayId) :
    State.Within b s (t.stopSpindle b) ↔ State.Within b s t := by
  simp only [State.stopSpindle]; split <;> (rename_i u h; have := congrArg Prod.fst h; subst this; simp)
@[simp] theorem State.within_enterSpindown (s t : State) (b : BayId) :
    State.Within b s (t.enterSpindown b) ↔ State.Within b s t := by
  simp [State.enterSpindown]
@[simp] theorem State.within_unloadedReport (s t : State) (b : BayId) :
    State.Within b s (t.unloadedReport b) ↔ State.Within b s t := by
  simp only [State.unloadedReport]; (repeat' split) <;> simp
@[simp] theorem State.within_unloadHeads (s t : State) (b : BayId) :
    State.Within b s (t.unloadHeads b) ↔ State.Within b s t := by
  simp only [State.unloadHeads]; split <;> (rename_i u h; have := congrArg Prod.fst h; subst this; simp)
@[simp] theorem State.within_enterUnload (s t : State) (b : BayId) :
    State.Within b s (t.enterUnload b) ↔ State.Within b s t := by
  simp [State.enterUnload]
@[simp] theorem State.within_enterFault (s t : State) (b : BayId) (c : FaultCause) :
    State.Within b s (t.enterFault b c) ↔ State.Within b s t := by
  simp only [State.enterFault]; (repeat' split) <;> simp
@[simp] theorem State.within_faultReport (s t : State) (b : BayId) (c : FaultCause) :
    State.Within b s (t.faultReport b c) ↔ State.Within b s t := by
  simp only [State.faultReport]; (repeat' split) <;> simp
@[simp] theorem State.within_checkDrain (s t : State) (b : BayId) :
    State.Within b s (t.checkDrain b) ↔ State.Within b s t := by
  simp only [State.checkDrain]; (repeat' split) <;> simp
@[simp] theorem State.within_ejectSpinning (s t : State) (b : BayId) :
    State.Within b s (t.ejectSpinning b) ↔ State.Within b s t := by
  simp only [State.ejectSpinning]; (repeat' split) <;> simp
@[simp] theorem State.within_startEject (s t : State) (b : BayId) (o : EjectOrigin) :
    State.Within b s (t.startEject b o) ↔ State.Within b s t := by
  simp only [State.startEject]; (repeat' split) <;> simp
@[simp] theorem State.within_sweepNext (s t : State) (b : BayId) :
    State.Within b s (t.sweepNext b) ↔ State.Within b s t := by
  simp only [State.sweepNext]; (repeat' split) <;> simp
@[simp] theorem State.within_sweepEnded (s t : State) (b : BayId) :
    State.Within b s (t.sweepEnded b) ↔ State.Within b s t := by
  simp only [State.sweepEnded]; (repeat' split) <;> simp
@[simp] theorem State.within_trackingReport (s t : State) (b : BayId) :
    State.Within b s (t.trackingReport b) ↔ State.Within b s t := by
  simp only [State.trackingReport]; (repeat' split) <;> simp
@[simp] theorem State.within_positionLost (s t : State) (b : BayId) :
    State.Within b s (t.positionLost b) ↔ State.Within b s t := by
  simp only [State.positionLost]; (repeat' split) <;> simp
@[simp] theorem State.within_labelVerdict (s t : State) (b : BayId) (d : Option Sector) :
    State.Within b s (t.labelVerdict b d) ↔ State.Within b s t := by
  simp only [State.labelVerdict]; (repeat' split) <;> simp
@[simp] theorem State.within_saveSucceeded (s t : State) (b : BayId) :
    State.Within b s (t.saveSucceeded b) ↔ State.Within b s t := by
  simp only [State.saveSucceeded]; (repeat' split) <;> simp
@[simp] theorem State.within_custodySaved (s t : State) (b : BayId) (ok : Bool) :
    State.Within b s (t.custodySaved b ok) ↔ State.Within b s t := by
  simp only [State.custodySaved]; (repeat' split) <;> simp
@[simp] theorem State.within_runReport (s t : State) (b : BayId) :
    State.Within b s (t.runReport b) ↔ State.Within b s t := by
  simp only [State.runReport]; (repeat' split) <;> simp
@[simp] theorem State.within_answerLoss (s t : State) (b : BayId) :
    State.Within b s (t.answerLoss b) ↔ State.Within b s t := by
  simp only [State.answerLoss]; (repeat' split) <;> simp
@[simp] theorem State.within_haltBay (s t : State) (b : BayId) :
    State.Within b s (t.haltBay b) ↔ State.Within b s t := by
  simp only [State.haltBay]; (repeat' split) <;> simp
@[simp] theorem State.within_startSpinning (s t : State) (b : BayId) (n : BayState) :
    State.Within b s (t.startSpinning b n) ↔ State.Within b s t := by
  simp only [State.startSpinning]; (repeat' split) <;> simp
@[simp] theorem State.within_leaveHalted (s t : State) (b : BayId) :
    State.Within b s (t.leaveHalted b) ↔ State.Within b s t := by
  simp only [State.leaveHalted]; (repeat' split) <;> simp

/-! ### The Media Engine (chapter 9) -/

@[simp] theorem State.within_modOp (s t : State) (b : BayId) (f : MediaOp → MediaOp) :
    State.Within b s (t.modOp b f) ↔ State.Within b s t := by
  simp [State.modOp]
@[simp] theorem State.within_askSeek (s t : State) (b : BayId) (op : MediaOp) :
    State.Within b s (t.askSeek b op) ↔ State.Within b s t := by
  simp [State.askSeek]
@[simp] theorem State.within_position (s t : State) (b : BayId) (op : MediaOp) :
    State.Within b s (t.position b op) ↔ State.Within b s t := by
  simp only [State.position]; (repeat' split) <;> simp
@[simp] theorem State.within_beginOp (s t : State) (b : BayId) (op : MediaOp) :
    State.Within b s (t.beginOp b op) ↔ State.Within b s t := by
  simp [State.beginOp]
@[simp] theorem State.within_endOp (s t : State) (b : BayId) :
    State.Within b s (t.endOp b) ↔ State.Within b s t := by
  simp [State.endOp]
@[simp] theorem State.within_stage (s t : State) (b : BayId) (d : Sector) :
    State.Within b s (t.stage b d) ↔ State.Within b s t := by
  simp [State.stage]
@[simp] theorem State.within_completeRead (s t : State) (b : BayId) :
    State.Within b s (t.completeRead b) ↔ State.Within b s t := by
  simp only [State.completeRead]; (repeat' split) <;> simp
@[simp] theorem State.within_readGood (s t : State) (b : BayId) (op : MediaOp) (d : Sector) :
    State.Within b s (t.readGood b op d) ↔ State.Within b s t := by
  simp only [State.readGood]; (repeat' split) <;> simp
@[simp] theorem State.within_readBad (s t : State) (b : BayId) (op : MediaOp) (r : ResultStatus) :
    State.Within b s (t.readBad b op r) ↔ State.Within b s t := by
  simp only [State.readBad]; (repeat' split) <;> simp
@[simp] theorem State.within_passFails (s t : State) (b : BayId) (op : MediaOp) :
    State.Within b s (t.passFails b op) ↔ State.Within b s t := by
  simp only [State.passFails]; (repeat' split) <;> simp
@[simp] theorem State.within_performWrite (s t : State) (b : BayId) (op : MediaOp) :
    State.Within b s (t.performWrite b op) ↔ State.Within b s t := by
  simp only [State.performWrite]; split <;> simp
@[simp] theorem State.within_writeGood (s t : State) (b : BayId) (op : MediaOp) :
    State.Within b s (t.writeGood b op) ↔ State.Within b s t := by
  simp only [State.writeGood]; (repeat' split) <;> simp
@[simp] theorem State.within_saveFails (s t : State) (b : BayId) (op : MediaOp) :
    State.Within b s (t.saveFails b op) ↔ State.Within b s t := by
  simp only [State.saveFails]; (repeat' split) <;> simp
@[simp] theorem State.within_slotWriteFails (s t : State) (b : BayId) (op : MediaOp) :
    State.Within b s (t.slotWriteFails b op) ↔ State.Within b s t := by
  simp only [State.slotWriteFails]; (repeat' split) <;> simp
@[simp] theorem State.within_writeBad (s t : State) (b : BayId) (op : MediaOp) :
    State.Within b s (t.writeBad b op) ↔ State.Within b s t := by
  simp only [State.writeBad]; (repeat' split) <;> simp
@[simp] theorem State.within_mediaSeekDone (s t : State) (b : BayId) :
    State.Within b s (t.mediaSeekDone b) ↔ State.Within b s t := by
  simp only [State.mediaSeekDone]; (repeat' split) <;> simp
@[simp] theorem State.within_mediaSeekFault (s t : State) (b : BayId) :
    State.Within b s (t.mediaSeekFault b) ↔ State.Within b s t := by
  simp only [State.mediaSeekFault]; (repeat' split) <;> simp
@[simp] theorem State.within_mediaTrackLost (s t : State) (b : BayId) :
    State.Within b s (t.mediaTrackLost b) ↔ State.Within b s t := by
  simp only [State.mediaTrackLost]; (repeat' split) <;> simp
@[simp] theorem State.within_mediaTracking (s t : State) (b : BayId) :
    State.Within b s (t.mediaTracking b) ↔ State.Within b s t := by
  simp only [State.mediaTracking]; (repeat' split) <;> simp
@[simp] theorem State.within_mediaAskAgain (s t : State) (b : BayId) :
    State.Within b s (t.mediaAskAgain b) ↔ State.Within b s t := by
  simp only [State.mediaAskAgain]; (repeat' split) <;> simp
@[simp] theorem State.within_mediaSpeedLoss (s t : State) (b : BayId) :
    State.Within b s (t.mediaSpeedLoss b) ↔ State.Within b s t := by
  simp only [State.mediaSpeedLoss]; (repeat' split) <;> simp
@[simp] theorem State.within_buildLabel (s t : State) (b : BayId) :
    State.Within b s (t.buildLabel b) ↔ State.Within b s t := by
  simp [State.buildLabel]
@[simp] theorem State.within_takeCustody (s t : State) (b : BayId) (c : Custody) :
    State.Within b s (t.takeCustody b c) ↔ State.Within b s t := by
  simp only [State.takeCustody]; (repeat' split) <;> simp
@[simp] theorem State.within_countSlotOp (s t : State) (b : BayId) :
    State.Within b s (t.countSlotOp b) ↔ State.Within b s t := by
  simp only [State.countSlotOp]; (repeat' split) <;> simp

end Sys2Proof.Machine
end

