-- ==== Sys2Proof/Laws/Media.lean ====
section
/-!
SUPPORT. A label read as the list of its bytes, what a sector write leaves, and the bounds of the drive.
-/

namespace Sys2Proof.Machine

/-! ### The label as bytes (R116, R117) -/

/-- A sector is the first 512 of the bytes it was made from. -/
theorem toList_sectorOf (bytes : List Byte) : (sectorOf bytes).toList = (List.range 512).map fun i => bytes.getD i 0#8 := by
  apply List.ext_getElem <;> simp [sectorOf]

/-- A label made from bytes is judged by its words. -/
theorem judgeLabel_sectorOf (typeCode : Nat) (bytes : List Byte) :
    judgeLabel typeCode (some (sectorOf bytes)) =
      judgeWords typeCode (wordsOf ((List.range 512).map fun i => bytes.getD i 0#8)) := by
  simp only [judgeLabel, toList_sectorOf]

/-! ### Sector writes (R144) -/

/-- A write with a source slot leaves its bytes, at its target, as the last sector performed. -/
theorem State.performWrite_source {s : State} {b : BayId} {op : MediaOp} {d : Sector} (h : s.source b op = some d) :
    s.performWrite b op = s.modMedia b fun m => { m with written := some (op.target, d) } := by
  simp [State.performWrite, h]

/-- Without a source slot nothing is written. -/
theorem State.performWrite_none {s : State} {b : BayId} {op : MediaOp} (h : s.source b op = none) :
    s.performWrite b op = s := by
  simp [State.performWrite, h]

/-- A sector write changes what was last written, and nothing else of its bay. -/
theorem State.performWrite_bay (s : State) (b : BayId) (op : MediaOp) :
    ∃ w, (s.performWrite b op).bay b = { s.bay b with media := { (s.bay b).media with written := w } } := by
  cases h : s.source b op with
  | none => exact ⟨(s.bay b).media.written, by rw [State.performWrite_none h]⟩
  | some d => exact ⟨some (op.target, d), by rw [State.performWrite_source h, State.modMedia_bay]⟩

/-! ### The line (R166) -/

/-- A reply's characters carry its frame behind the address character. -/
theorem Reply.characters_low (unitAddress : BitVec 2) (r : Reply) :
    (r.characters unitAddress).map LinkChar.low = addressByte unitAddress true :: r.frame := by
  simp [Reply.characters, Function.comp_def]

/-- The address character of a reply names no unit as addressed (R167). -/
theorem namesUnit_reply (a b : BitVec 2) : namesUnit a (addressByte b true) = false := by
  revert a b; decide

end Sys2Proof.Machine
end

