-- ==== Sys2Proof/Tests/Slice0.lean ====
section
/-!
SUPPORT. Tests of the model against the worked examples of spec/, the smoke test of well-formedness, and for each statement a
witness that its hypotheses can be met, clause by clause. A figure in a test is the spec's own, or worked by hand from its rules.
-/

namespace Sys2Proof.Tests

open Machine

/-- Whether an outcome is a next state of which a test holds. -/
def answers (o : Host.Outcome State Fault Refusal) (p : State → Bool) : Bool :=
  match o with
  | .next t => p t
  | .fault _ | .refused _ => false

/-! ### Small states -/

/-- A unit at rest with the budget in GOOD. -/
def rest : State := { State.reset with budget := { supply := .good } }

/-- Bay A with a Type 10 cartridge at speed and its heads tracking a cylinder, in a bay state. -/
def loaded (st : BayState) (cylinder : Nat := 0) : State :=
  { rest with
    budget := { supply := .good, claims := [⟨.bayA, .spindle, 5⟩] }
    bayA := { pins := { present := true, retractStop := false }
              record := { state := st, typeCode := 1, standing := .labelled }
              spindle := { state := .run }
              act := { state := .tracking, cylinder := some cylinder } } }

/-- Bay A READY. -/
def ready : State := loaded .ready

/-- A cartridge at rest in bay A, in a bay state. -/
def still (st : BayState) (code : Nat := 1) : State :=
  { rest with bayA := { pins := { present := true }, record := { state := st, typeCode := code } } }

/-- A write entry of bay A. -/
def entryA (arrival block slot : Nat) (writing : Bool := false) (attempts : Nat := 0) : Item :=
  .entry { bay := .bayA, block, slot, writing, attempts, arrival }

/-- A state with some items in the queue. -/
def State.queued (s : State) (items : List Item) : State := { s with queue := { s.queue with items, nextArrival := 90 } }

/-! ### Addresses (chapters 1 and 7) -/

/-- The worked addresses of section 1.2. -/
theorem test_worked_addresses :
    directAddr 1000 = ⟨21, 1, 16⟩ ∧ spareAddr 1 100 = ⟨398, 0, 4⟩ ∧ spareAddr 2 100 = ⟨798, 0, 4⟩ ∧
    runOk 1 18957 4 = false ∧ runOk 1 18957 3 = true := by decide

/-- The table of section 7.2. -/
def map72 : RemapTable :=
  { entries := (((Vector.replicate 64 none).set 0 (some ⟨1000, 0⟩)).set 1 (some ⟨5217, 1⟩)).set 2 (some ⟨18000, 2⟩) }

/-- The worked resolutions of section 7.2. -/
theorem test_worked_resolutions :
    map72.resolve 1 5217 = ⟨396, 0, 1⟩ ∧ map72.resolve 1 5216 = ⟨109, 1, 8⟩ ∧ map72.resolve 1 1000 = ⟨396, 0, 0⟩ ∧
    directAddr 5217 = ⟨109, 1, 9⟩ := by decide +kernel

/-! ### The Supply Budget (sections 2.6 and 2.7) -/

/-- The draws of the claims, and whether a request waits. -/
def figures (u : Budget) : List Nat × Nat := (u.claims.map Claim.draw, u.waitList.length)

/-- Bay B in RUN, and the first four events of section 2.6. -/
def start26 (capacity : Nat) : Budget := { supply := .good, effective := capacity, claims := [⟨.bayB, .spindle, 5⟩] }
/-- Section 2.6 up to step 4. -/
def to26 (capacity : Nat) : List Budget :=
  let u1 := ((start26 capacity).take ⟨.bayB, .seek, 0⟩).1
  let u2 := (u1.take ⟨.bayA, .spinUp, 0⟩).1
  let u3 := (u2.free .bayB .actuator).1
  let u4 := (u3.take ⟨.bayB, .seek, 0⟩).1
  [u1, u2, u3, u4, (u4.reduce .bayA).1]

/-- Steps 1 to 5 of section 2.6: the spin-up waits for the seek, and the next seek is granted at level 2. -/
theorem test_spin_up_against_seeks :
    (to26 40).map figures = [([5, 12], 0), ([5, 12], 1), ([5, 28], 0), ([5, 28, 6], 0), ([5, 5, 6], 0)] := by decide

/-- At capacity 33 the seek of step 4 waits for the reduction (section 2.6). -/
theorem test_spin_up_at_capacity_33 :
    (to26 33).map figures = [([5, 12], 0), ([5, 12], 1), ([5, 28], 0), ([5, 28], 1), ([5, 5, 12], 0)] := by decide

/-- Section 2.7: a lower capacity is pending until a release meets it. -/
theorem test_lowering_the_capacity :
    let u : Budget := { supply := .good, claims := [⟨.bayA, .spindle, 5⟩, ⟨.bayA, .actuator, 12⟩, ⟨.bayB, .spindle, 5⟩,
      ⟨.bayB, .actuator, 12⟩] }
    let u1 := (u.setCapacity 33).1
    let u3 := (u1.free .bayA .actuator).1
    u1.headroom = -1 ∧ u1.capacityBody = [40#8, 33#8] ∧ u3.effective = 33 ∧ u3.pending = none ∧
    (u3.take ⟨.bayA, .seek, 0⟩).2 = [.grant .bayA .seek 1] := by decide

/-! ### The spindle (chapter 3) -/

/-- The window of section 3.6 at 3,600 rpm, and the classes of its readings. -/
theorem test_speed_window :
    speedTarget 9 3600 = 16667 ∧ speedHalfWidth 16667 16 = 260 ∧
    (classify (.counted 41200) 16667 260, classify (.counted 16880) 16667 260, classify (.counted 16390) 16667 260,
      classify .fewEdges 16667 260) = (.under, .on, .over, .slow) ∧
    reportedReading .fewEdges false = 65535 := by decide

/-! ### Seek plans (section 4.7) -/

/-- The moving samples, timeout and heat add of a plan. -/
def planFigures (d l : Nat) : Nat × Nat × Nat :=
  let p := makePlan 0 0 d .up l l
  (p.moving, p.timeout, p.heatAdd)

/-- The reference cases and the limits of section 4.7. -/
theorem test_worked_plans :
    planFigures 794 0 = (45, 122, 192) ∧ planFigures 265 0 = (23, 78, 176) ∧ planFigures 265 2 = (36, 104, 60) ∧
    planFigures 3 3 = (3, 38, 4) ∧ planFigures 0 1 = (0, 24, 0) ∧ planFigures 1 2 = (1, 34, 0) ∧
    planFigures 10 0 = (4, 40, 16) ∧ planFigures 100 3 = (22, 76, 24) ∧ planFigures 799 3 = (139, 310, 24) ∧
    planFigures 311 0 = (24, 80, 176) ∧ planFigures 312 0 = (24, 80, 192) := by decide

/-- The profiles worked in section 4.7. -/
theorem test_worked_profiles :
    ((List.range 3).map fun i => (makePlan 0 0 3 .up 3 3).demand (i + 1)) = [1, 1, 1] ∧
    (makePlan 0 0 265 .up 0 0).demand 12 = 1 ∧ (makePlan 0 0 794 .up 0 0).demand 33 = 2 ∧
    (makePlan 0 0 794 .up 0 0).demand 32 = 24 := by decide

/-! ### Coil heat (sections 6.7 to 6.9) -/

/-- The heat step of section 6.8. -/
theorem test_heat_step :
    let c : Settings := {}
    let h1 := ({ estimate := 25720 } : Heat).evaluate c
    let h2 := ({ h1 with estimate := h1.estimate + 1728 }).evaluate c
    let h3 := ({ h2 with estimate := h2.estimate + 1056 }).evaluate c
    (h1.estimate, h1.offset, h1.overTop) = (24113, 0, true) ∧ (h2.estimate, h2.offset, h2.delay) = (24226, 1, 240) ∧
    (h3.estimate, h3.offset, h3.delay, h3.overTop) = (23702, 1, 239, false) := by decide

/-- The trip of section 6.9: the flag is set at b and held at m. -/
theorem test_heat_trip :
    let c : Settings := {}
    let a := ({ estimate := 51900, delay := 160 } : Heat).evaluate c
    let b := ({ a with estimate := 52957 }).evaluate c
    let m := ({ estimate := 26041, hot := true } : Heat).evaluate c
    (a.estimate, a.hot, a.overTrip) = (48657, false, true) ∧ (b.estimate, b.hot) = (49648, true) ∧
    (m.estimate, m.hot) = (24414, true) := by decide

/-! ### The Drive Link (chapter 11) -/

/-- The frame check of section 11.6 over the nine digits: the check value known of this computation (from outside the spec). -/
theorem test_frame_check :
    frameCheck [0x31#8, 0x32#8, 0x33#8, 0x34#8, 0x35#8, 0x36#8, 0x37#8, 0x38#8, 0x39#8] = 0x29B1#16 := by decide +kernel

/-- A frame laid out by section 11.6: length 5, code 31, bay 1, block 5,217 (1461 hexadecimal), count 3, least significant bytes
first. -/
theorem test_frame_of_read :
    (commandFrame 0x31 1 [0x61#8, 0x14#8, 3#8]).take 7 = [5#8, 0#8, 0x31#8, 1#8, 0x61#8, 0x14#8, 3#8] ∧
    readFrame (commandFrame 0x31 1 [0x61#8, 0x14#8, 3#8]) = some (.read 1 5217 3) := by decide +kernel

/-- No word of the table spells a command: its rows have no bits. -/
theorem test_no_table_word : decodeTableWord 8 5 = none := rfl

/-! ### Well-formedness: one ill-formed command for each check -/

theorem test_ill_formed_empty_discard : (Instr.frameDiscard []).wellFormed = false := by decide
theorem test_ill_formed_unknown_message_known : (Instr.unknownMessage 0x10 0 []).wellFormed = false := by decide
theorem test_ill_formed_unknown_message_long :
    (Instr.unknownMessage 0x10 0 (List.replicate 1039 0)).wellFormed = false := by decide +kernel
theorem test_ill_formed_read_counts :
    (Instr.read 0 1 0).wellFormed = false ∧ (Instr.read 0 1 5).wellFormed = false ∧
    (Instr.readPhys 0 1 0 0 0).wellFormed = false ∧ (Instr.readPhys 0 1 0 0 5).wellFormed = false := by decide
theorem test_ill_formed_readings :
    (Instr.measurementComplete .bayA (.counted 0)).wellFormed = false ∧
    (Instr.measurementComplete .bayA (.counted 65534)).wellFormed = false := by decide
theorem test_ill_formed_sample : (Instr.seekComplete .bayA 0).wellFormed = false := by decide
theorem test_ill_formed_address : (Instr.addressCharacter 4).wellFormed = false := by decide

/-! ### Reset and the clock -/

/-- After power-on the hold runs, and its end brings GOOD without SUPPLY RESTORED (R32, R33). -/
theorem test_power_on_hold :
    answers (exec .holdEnd State.reset) (fun t =>
      t.budget.supply = .good && t.clock = 2000000 && t.events = 1#5) = true := by decide +kernel

/-- With nothing to do the block counts its clock. -/
theorem test_idle_tick : answers (step State.reset) (fun t => t.clock = 1) = true := by decide +kernel

/-- A command at the front of the queue is taken off it. -/
theorem test_step_takes_one :
    answers (step { rest with pending := [.identify 255 false, .evaluation] }) (fun t =>
      t.pending = [.evaluation] && (t.link.reply.map fun r => r.body.take 5) = some [1#8, 0xA4#8, 1#8, 1#8, 2#8]) = true := by
  decide +kernel

/-! ### Bays (chapters 1 and 10) -/

/-- START in PARKED makes the request for the spin-up claim, and the bay is SPINNING (R10, R46). -/
theorem test_start :
    answers (exec (.start 0) (still .parked)) (fun t =>
      t.bayA.record.state = .spinning && t.bayA.spindle.state = .waiting && t.signals = [.request .bayA .spinUp 0]) = true := by
  decide +kernel

/-- STOP in READY with nothing to drain unloads the heads under the reserve (R11, R89). -/
theorem test_stop :
    answers (exec (.stop 0) ready) (fun t =>
      t.bayA.record.parkStep = .unload && t.bayA.act.state = .unloading && t.reserveDraw = 3) = true := by decide +kernel

/-- LOCK and UNLOCK need a data cartridge (R154). -/
theorem test_lock :
    answers (exec (.lock 0) (still .inserted)) (fun t => t.bayA.record.lock) = true ∧
    answers (exec (.unlock 0) (still .cleaning 3)) (fun t => t.link.reply.map (·.status) = some .notReady) = true := by
  decide +kernel

/-- An EJECT of a READY bay with a queued write waits in DRAIN (R157). -/
theorem test_eject_drains :
    answers (exec (.eject 0) (State.queued ready [entryA 3 500 0])) (fun t =>
      t.bayA.record.phase = .drain && t.bayA.slot.state = .inProgress) = true := by decide +kernel

/-- The lock refuses the button, not the message (R155, R156). -/
theorem test_locked_button :
    answers (exec (.ejectButtonPress .bayA) (ready.modRecord .bayA fun r => { r with lock := true })) (fun t =>
      t.latched .bayA .ejectRefused && t.bayA.record.state = .ready) = true := by decide +kernel

/-- A code-0 shell is released at once (R7). -/
theorem test_unknown_cartridge :
    answers (exec (.insertion .bayA false false) { rest with
        bayA := { pins := { present := true }, record := { debouncing := true, debounceAt := 7 } } }) (fun t =>
      t.latched .bayA .unknownCartridge && t.bayA.record.phase = .release && t.clock = 200007) = true := by decide +kernel

/-- Section 10.5: the second pulse that leaves the cartridge in the bay is an EJECT JAM. -/
theorem test_eject_jam :
    answers (exec (.removalTimeout .bayA) ((still .ejecting).modRecord .bayA fun r =>
        { r with phase := .awaitRemoval, eject := some ⟨.button, 2, false⟩ })) (fun t =>
      t.bayA.record.state = .fault && t.bayA.record.cause = .ejectJam && t.latched .bayA .ejectJam) = true := by decide +kernel

/-- Supply loss halts a READY bay, discards its writes and ends its request (R15, R137). -/
theorem test_supply_loss :
    answers (exec .supplyLoss ((State.queued ready [entryA 3 500 0]).modSlot .bayA fun x =>
        { x with state := .inProgress, request := some .flush })) (fun t =>
      t.bayA.record.state = .halted && t.bayA.slot.result = .supplyLoss && t.queue.items = [] &&
      t.faults.records = [.writesDiscarded .bayA 1] && t.budget.claims = []) = true := by decide +kernel

/-! ### Readings (sections 3.6 to 3.9) -/

/-- A window of bay A under way in a spindle state, with a count. -/
def measuring (st : BayState) (x : SpindleState) (count : Nat) (stall : Bool := false) : State :=
  (loaded st).modSpindle .bayA fun y =>
    { y with state := x, count, countsStall := stall, window := some ⟨9, 4460000, false⟩, timer := some 0 }

/-- Section 3.6: the second ON of an attempt brings RUN, and the bay LOADING. -/
theorem test_reading_runs :
    answers (exec (.measurementComplete .bayA (.counted 16655)) ((measuring .spinning .accel 1).modAct .bayA fun _ => {}))
      (fun t => t.bayA.spindle.state = .run && t.bayA.record.state = .loading && t.bayA.act.loadAttempt = some 1) = true := by
  decide +kernel

/-- Section 3.7: the second STALL counted in ACCEL is a jam. -/
theorem test_reading_jams :
    answers (exec (.measurementComplete .bayA .noEdge) ((measuring .spinning .accel 1 true).modAct .bayA fun _ => {}))
      (fun t => t.bayA.spindle.state = .stopping && t.bayA.spindle.attemptEnd && t.bayA.spindle.count = 0) = true := by
  decide +kernel

/-- Section 3.8, step 5: the second non-ON reading loses the speed, and the bay stays READY. -/
theorem test_reading_loses_speed :
    answers (exec (.measurementComplete .bayA (.counted 19800)) (measuring .ready .run 1)) (fun t =>
      t.bayA.spindle.state = .recoverWait && t.bayA.record.state = .ready && t.bayA.act.state = .unloading &&
      t.latched .bayA .speedLoss && t.signals.contains (.release .bayA .spindle)) = true := by decide +kernel

/-- Section 3.9, reading 5: the second STALL confirms the stop, and the bay is PARKED. -/
theorem test_reading_stops :
    answers (exec (.measurementComplete .bayA .noEdge) (((measuring .parking .stopping 1).modAct .bayA fun _ => {}).modRecord
        .bayA fun r => { r with parkStep := .spindown })) (fun t =>
      t.bayA.spindle.state = .off && t.bayA.record.state = .parked && t.latched .bayA .parked) = true := by decide +kernel

/-- A measurement without an edge completes at the 65,534th count of its window (R39), and the clock is there. -/
theorem test_no_edge_time :
    answers (exec (.measurementComplete .bayA .noEdge) (measuring .inserted .off 0)) (fun t => t.clock = 4525534) = true := by
  decide +kernel

/-! ### The Write Queue (sections 8.9 and 8.10) -/

/-- The list after step 9 of section 8.9, bay A on cylinder 100. -/
def list89 : State :=
  State.queued (loaded .ready 100) [entryA 37 500 0, entryA 38 4000 1 true, .entry ⟨.bayB, 10, 2, false, 0, 39⟩,
    .mark .bayB .order, entryA 40 4000 3, .mark .bayA .order, entryA 41 500 4, entryA 42 9600 5]

/-- The body of the reply an outcome gives. -/
def replyBody (o : Host.Outcome State Fault Refusal) : Option (ReplyStatus × List Byte) :=
  match o with
  | .next t => t.link.reply.map fun r => (r.status, r.body)
  | .fault _ | .refused _ => none

/-- Step 10 of section 8.9 merges, step 8's block would be appended with number 90. -/
theorem test_write_merges :
    replyBody (exec (.write 0 9600 Sector.zero) list89) = some (.ok, [42#8, 0#8, 0#8]) ∧
    replyBody (exec (.write 0 4000 Sector.zero) (State.queued ready [entryA 38 4000 1 true])) =
      some (.ok, [90#8, 0#8, 1#8]) := by decide +kernel

/-- Step 11 of section 8.9 adds a mark, and a third ORDER is absorbed. -/
theorem test_order :
    answers (exec (.order 0) list89) (fun t => t.queue.markCount = 3) = true ∧
    answers (exec (.order 0) (State.queued list89 (list89.queue.items ++ [.mark .bayA .order]))) (fun t =>
      t.queue.markCount = 3) = true := by decide +kernel

/-- Step 5 of section 8.9: of #37 at distance 89 and #38 at distance 16, #38 is given. -/
theorem test_choice_takes_nearest :
    answers (exec (.mediaChoice .bayA) (State.queued (loaded .ready 100) [entryA 37 500 0, entryA 38 4000 1])) (fun t =>
      t.queue.items = [entryA 37 500 0, entryA 38 4000 1 true] &&
      t.signals = [.request .bayA .seek 0]) = true := by decide +kernel

/-- Step 18 of section 8.9: the last entry leaves, and the test removes ORDER and FLUSH. -/
theorem test_performed_completes_flush :
    answers (exec (.entryPerformed .bayA) { (State.queued ready [entryA 42 9600 5 true, .mark .bayA .order, .mark .bayA .flush])
        with signals := [.performed .bayA 42],
             bayA := { ready.bayA with slot := { state := .inProgress, request := some .flush } } }) (fun t =>
      t.queue.items = [] && t.bayA.slot.state = .done && t.latched .bayA .resultReady) = true := by decide +kernel

/-- Section 8.10, step 4: a third failure gives the entry up. -/
theorem test_failed_gives_up :
    answers (exec (.entryFailed .bayA) { (State.queued ready [entryA 61 700 1 true 2]) with signals := [.failed .bayA 61] })
      (fun t => t.queue.items = [] && t.faults.records = [.writeFailed .bayA 700] && t.latched .bayA .writeFailed &&
        t.unitLatched .faultList && t.bayA.counters.counts.toList = [0, 0, 1, 1, 0, 0, 0]) = true := by decide +kernel

/-- Section 8.10, step 3: a superseded entry is removed without record. -/
theorem test_failed_superseded :
    answers (exec (.entryFailed .bayA) { (State.queued ready [entryA 60 700 0 true 1, entryA 61 700 1])
        with signals := [.failed .bayA 60] })
      (fun t => t.queue.items = [entryA 61 700 1] && t.faults.records = []) = true := by decide +kernel

/-! ### The remap table (section 7.8) -/

/-- Bay A as section 7.8 starts, with block 18,000 WRITING. -/
def mapped : State :=
  (State.queued ready [entryA 5 18000 0 true]).modMap .bayA fun _ => { map72 with generation := 41 }

/-- Steps 1 to 4 and 8 of section 7.8. -/
theorem test_map_probe : replyBody (exec (.mapProbe 0 5217) mapped) = some (.ok, [1#8, 1#8, 3#8, 0#8, 41#8, 0#8]) := by
  decide +kernel
theorem test_map_write_any :
    replyBody (exec (.mapWriteAny 0 7300 2) mapped) = some (.duplicate, []) ∧
    replyBody (exec (.mapWriteAny 0 7300 3) mapped) = some (.ok, [3#8, 4#8, 1#8, 41#8, 0#8]) := by decide +kernel
theorem test_map_clear :
    replyBody (exec (.mapClear 0 0) mapped) = some (.ok, [2#8, 1#8, 41#8, 0#8]) ∧
    replyBody (exec (.mapClear 0 2) mapped) = some (.busy, []) := by decide +kernel
theorem test_map_write :
    replyBody (exec (.mapWrite 0 1 5217 4) mapped) = some (.ok, [3#8, 1#8, 41#8, 0#8]) ∧
    replyBody (exec (.mapWrite 0 2 18960 5) mapped) = some (.badAddress, []) := by decide +kernel

/-! ### Media operations (section 9.6) -/

/-- Section 9.6, step 4: at fairness 4 the drain goes before the waiting READ. -/
def beside (fairness : Nat) : State :=
  ((State.queued ((loaded .ready 42).modRecord .bayA fun r => { r with typeCode := 2 }) [entryA 10 2002 0, entryA 11 5000 1]).modSlot
    .bayA fun _ => { state := .inProgress, request := some (.read 2000 4), staged := 2 }).modMedia .bayA fun m => { m with fairness }

theorem test_choice_at_fairness_4 :
    answers (exec (.mediaChoice .bayA) (beside 4)) (fun t =>
      (t.bayA.media.op.map fun o => o.arrival) = some (some 10) && t.bayA.media.fairness = 0) = true := by decide +kernel

/-- Before that, the READ's own sector is served from the queue where it holds the block, here block 2,002 (section 9.6). -/
theorem test_choice_serves_from_queue :
    answers (exec (.mediaChoice .bayA) (beside 3)) (fun t =>
      t.bayA.slot.staged = 3 && (t.bayA.media.op.map fun o => o.target) = some ⟨42, 1, 11⟩) = true := by decide +kernel

/-- Bay A's engine IDLE with the outcome of the drain write of block 300 under way, and block 4,000 waiting. -/
def reporting (r : LongRequest) : State :=
  ((State.queued ready [entryA 5 300 0 true, entryA 6 4000 1]).modSlot .bayA fun _ =>
    { state := .inProgress, request := some r }).send (.performed .bayA 5)

/-- Section 8.6, the second row: a READ taken before the removal of a performed entry returns the entry's data. -/
theorem test_question_meets_removal :
    answers (exec (.mediaChoice .bayA) (reporting (.read 300 1))) (fun t =>
      t.bayA.slot.state = .done && t.bayA.slot.staged = 1 && t.queue.items.length = 2) = true ∧
    answers (exec (.mediaChoice .bayA) (reporting (.read 301 1))) (fun t =>
      (t.bayA.media.op.map fun o => o.kind) = some .slotRead && t.bayA.media.fairness = 1) = true := by decide +kernel

/-- A drain write that is due waits while the bay has a WRITING entry (R131). -/
theorem test_drain_waits_for_outcome :
    answers (exec (.mediaChoice .bayA) ((reporting (.read 301 1)).modMedia .bayA fun m => { m with fairness := 4 })) (fun t =>
      t.bayA.media.op.isNone && t.bayA.media.state = .idle) = true := by decide +kernel

/-! ### Witnesses of the statements

For each statement with hypotheses, states and operands that meet them, one for each clause, at the ends of the ranges named. -/

/-- An engine of bay A that can choose: a label read is asked for. -/
def asked (b : BayId) : State :=
  { rest with
    bayA := if b = .bayA then { (loaded .mounting).bayA with media := { custody := some .labelRead } } else {}
    bayB := if b = .bayB then { (loaded .mounting).bayA with media := { custody := some .labelRead } } else {} }

/-- EmptyQueueGoesOn: a notice under way; an engine of either bay that can choose; nothing at all. -/
theorem witness_EmptyQueueGoesOn :
    (rest.send (.atStop .bayA)).signals = .atStop .bayA :: [] ∧
    ((asked .bayA).signals = [] ∧ (asked .bayA).engineReady .bayA = true) ∧
    ((asked .bayB).engineReady .bayA = false ∧ (asked .bayB).engineReady .bayB = true) ∧
    (rest.engineReady .bayA = false ∧ rest.engineReady .bayB = false ∧ rest.pending = []) := by decide +kernel

/-- A state with an accepted RESET. -/
def resetting (force : Bool) (s : State) : State := { s with link := { s.link with resetPending := some force } }

/-- SoftResetLeaves: each of the three cases of a bay. -/
theorem witness_SoftResetLeaves :
    (resetting false rest).link.resetPending = some false ∧
    ((resetting false rest).bayA.act.state = .unloaded ∧ (resetting false rest).bayA.spindle.state = .off) ∧
    (resetting true ready).bayA.act.state ≠ .unloaded ∧
    (let s := (resetting false ready).modAct .bayA fun _ => {}
     s.bayA.act.state = .unloaded ∧ s.bayA.spindle.state = .run) := by decide +kernel

/-- A unit whose assembly is open. -/
def opened (gathered : List Byte) : State := { rest with link := { assembly := .opened gathered } }

/-- AssemblyOpensAndDiscards: the four discards, the second at another unit's address and the third at lengths 1 and 1,041. -/
theorem witness_AssemblyOpensAndDiscards :
    (opened [0x05#8]).receives = true ∧ (opened [0x05#8]).link.assembly = .opened [0x05#8] ∧
    1#8 ≠ addressByte (opened []).link.unitAddress false ∧
    (ofBytes ([1#8] ++ [0#8]) < 2 ∧ 1040 < ofBytes ([0x11#8] ++ [0x04#8])) ∧
    (let g := [2#8, 0#8, 0x10#8, 0#8, 0#8]
     1 ≤ g.length ∧ frameComplete (g ++ [0#8]) = true ∧ frameGood (g ++ [0#8]) = false) ∧
    (rest.link.assembly = .idle ∧ (⟨0, true, false⟩ : LinkChar).stop = false ∧ (⟨0, false, true⟩ : LinkChar).ninth = false) ∧
    rest.link.assembly = .idle ∧ 0#8 = (opened []).link.unitAddress.setWidth 8 := by decide +kernel

/-- FrameReadsBack and FrameIsGathered: a message with every kind of field, and an unknown one. -/
theorem witness_FrameReadsBack :
    (Instr.set 255 7 255 0x01020304).wellFormed = true ∧
    (Instr.set 255 7 255 0x01020304).message = some (4, 255, [7#8, 255#8, 4#8, 3#8, 2#8, 1#8]) ∧
    (Instr.unknownMessage 0x10 0 [1#8]).wellFormed = true ∧
    (Instr.unknownMessage 0x10 0 [1#8]).message = some (0x10, 0, [1#8]) := by decide +kernel
theorem witness_FrameIsGathered :
    (Instr.readPhys 1 799 1 23 4).wellFormed = true ∧
    (Instr.readPhys 1 799 1 23 4).message = some (0x32, 1, [0x1F#8, 3#8, 1#8, 23#8, 4#8]) ∧
    rest.link.assembly = .idle := by decide +kernel

/-- BadMessagesAndBays: a bay 2 for START, a bay 0 for FAULTS. -/
theorem witness_BadMessagesAndBays :
    rest.receives = true ∧ (Instr.start 2).wellFormed = true ∧ (Instr.start 2).message = some (0x10, 2, []) ∧
    bodyOk 0x10 [] = true ∧ addressedToBay 0x10 = true ∧ 2#8 ≠ 0#8 ∧ 2#8 ≠ 1#8 ∧
    (Instr.faults 0).message = some (3, 0, []) ∧ addressedToBay 3 = false ∧ 0#8 ≠ 255#8 := by decide +kernel

/-- RefusalsChangeNothing: START in EMPTY is refused NOT READY. -/
theorem witness_RefusalsChangeNothing :
    rest.receives = true ∧ (Instr.start 0).message = some (0x10, 0, []) ∧
    answers (exec (.start 0) rest) (fun t => t.link.reply.any fun r => 0x10 ≤ r.status.code) = true := by decide +kernel

/-- IdentifyAnswers, ReportAnswers, SetStoresASetting, SetThresholdAndRefusals, GetAnswers, CapacityIsSet and the other
statements whose only premise is a unit that receives. -/
theorem witness_receives : rest.receives = true ∧ ready.receives = true := by decide +kernel

/-- LatchesAndAttention: an ordinary REPORT answers a next state. -/
theorem witness_LatchesAndAttention : answers (exec (.report 255 false) rest) (fun t => !t.attention) = true := by
  decide +kernel

/-- A unit with some fault records. -/
def faulty (n : Nat) : State := { rest with faults := { records := List.replicate n (.writeFailed .bayA 5), overflow := 255 } }

/-- FaultListAndFaults: 0, 1, 7 and 8 records. -/
theorem witness_FaultListAndFaults :
    (faulty 0).faults.records = [] ∧ ((faulty 1).faults.records ≠ [] ∧ (faulty 1).faults.records.length < 8) ∧
    ((faulty 7).faults.records ≠ [] ∧ (faulty 7).faults.records.length < 8) ∧ 8 ≤ (faulty 8).faults.records.length := by
  decide +kernel

/-- CountersRiseAndAnswer: a rise to the threshold itself, and a rise beyond it. -/
theorem witness_CountersRiseAndAnswer :
    let old := rest.bayA.counters.counts[CounterName.seekRetries.index]
    let threshold := rest.bayA.counters.thresholds[CounterName.seekRetries.index]
    (old < threshold ∧ threshold ≤ min 65535 (old + 65535)) ∧ ¬ (old < threshold ∧ threshold ≤ min 65535 (old + 1)) := by
  decide +kernel

/-- SetStoresASetting: a value in the set of each enumerated item and one out of it; heat settings in and out of order. -/
theorem witness_SetStoresASetting :
    (1 ≤ 1 ∧ ¬ (2 ≤ 1)) ∧ (17 ∈ [3, 5, 9, 17] ∧ 4 ∉ [3, 5, 9, 17]) ∧ (1000 ∈ [250, 500, 1000] ∧ 251 ∉ [250, 500, 1000]) ∧
    (rest.settings.heatRelease < 12001 ∧ 12001 < rest.settings.heatTrip) ∧ ¬ (rest.settings.heatRelease < 12000) ∧
    (2 ^ 31 - 1 < 2 ^ 31 ∧ ¬ (2 ^ 31 < 2 ^ 31)) := by decide +kernel

/-- SetThresholdAndRefusals: a threshold of each end, of bay A, of both and of a bay 2; the items refused. -/
theorem witness_SetThresholdAndRefusals :
    (20#8).toNat = 20 + CounterName.softReadErrors.index.val ∧ (26#8).toNat = 20 + CounterName.lostWrites.index.val ∧
    BayId.bayA.field = 0#8 ∧ (1 < (2#8).toNat ∧ 2#8 ≠ 255#8) ∧
    ((0#8).toNat = 0 ∧ 14 < (15#8).toNat ∧ (19#8).toNat < 20 ∧ 26 < (27#8).toNat ∧ ((14#8).toNat ≤ 14 ∧ 0#8 ≠ 255#8)) := by
  decide +kernel

/-- GetAnswers: the first and last of each range of items. -/
theorem witness_GetAnswers :
    BayId.bayB.field = 1#8 ∧ (26#8).toNat = 20 + CounterName.lostWrites.index.val ∧
    (14 < (15#8).toNat ∧ (19#8).toNat < 20) ∧ (26 < (27#8).toNat ∧ (39#8).toNat < 40) ∧ 42 < (43#8).toNat ∧
    ((19#8).toNat < 20 ∧ 0#8 ≠ 255#8) ∧ (26 < (42#8).toNat ∧ 0#8 ≠ 255#8) ∧
    (20 ≤ (20#8).toNat ∧ (20#8).toNat ≤ 26 ∧ 1 < (255#8).toNat) := by decide +kernel

/-- ResetIsJudged: no entry in the queue, and one; a reply to RESET being sent, and each kind of command then lost. -/
theorem witness_ResetIsJudged :
    (rest.receives = true ∧ entriesOf rest.queue.items = []) ∧
    (State.queued ready [entryA 3 500 0]).receives = true ∧ entriesOf (State.queued ready [entryA 3 500 0]).queue.items ≠ [] ∧
    (resetting true rest).link.resetPending ≠ none ∧ (Instr.start 0).message ≠ none := by decide +kernel

/-- StartAndStop: each row of the two tables. -/
theorem witness_StartAndStop :
    (let s := still .parked
     s.receives = true ∧ s.bayA.record.state ∈ [BayState.inserted, .parked] ∧ s.budget.supply ≠ .low ∧
       s.bayA.spindle.state = .off) ∧
    ({ still .inserted with budget := {} } : State).budget.supply = .low ∧
    (still .cleaning).bayA.record.state ∈ [BayState.spinning, .loading, .mounting, .ready, .raw, .cleaning] ∧
    (still .halted).bayA.record.state ∈ [BayState.empty, .parking, .ejecting, .halted, .fault] ∧
    (let s := State.queued ready [entryA 3 500 0]
     s.bayA.record.state ∈ [BayState.ready, .raw] ∧ s.queue.drained .bayA = false) ∧
    (ready.bayA.spindle.state ≠ .off ∧ ready.bayA.spindle.state ≠ .waiting) ∧
    (still .parked).bayA.record.state ∈ [BayState.parking, .parked] ∧
    (still .fault).bayA.record.state ∈
      [BayState.empty, .inserted, .spinning, .loading, .mounting, .cleaning, .ejecting, .halted, .fault] := by decide +kernel

/-- LockAndUnlock: the type codes 2 and 3. -/
theorem witness_LockAndUnlock :
    ((still .inserted 2).receives = true ∧ (still .inserted 2).bayA.record.typeCode = 2) ∧
    ((still .cleaning 3).bayA.record.typeCode ≠ 1 ∧ (still .cleaning 3).bayA.record.typeCode ≠ 2) := by decide +kernel

/-- Bay A ejecting, in a phase, with an eject record of a pulse. -/
def ejecting (p : EjectPhase) (pulse : Nat := 1) (pulsing : Bool := false) : State :=
  (still .ejecting).modRecord .bayA fun r => { r with phase := p, pulsing, eject := some ⟨.button, pulse, false⟩ }

/-- PresenceRisesAndFalls: EMPTY, AWAIT REMOVAL, a pulse cut off, a request waiting, and loaded heads with no entry of the bay and
with one, the fault list empty, with 7 records and with 8. -/
theorem witness_PresenceRisesAndFalls :
    rest.bayA.record.state = .empty ∧
    ((ejecting .awaitRemoval).bayA.record.state = .ejecting ∧ (ejecting .awaitRemoval).bayA.record.phase = .awaitRemoval) ∧
    (let s := ejecting .release 1 true
     s.bayA.record.state ≠ .empty ∧ ¬ (s.bayA.record.state = .ejecting ∧ s.bayA.record.phase = .awaitRemoval) ∧
       s.bayA.record.pulsing = true) ∧
    (let s := ejecting .release
     s.bayA.record.state = .ejecting ∧ s.bayA.record.phase = .release ∧ s.bayA.record.pulsing = false) ∧
    (ready.bayA.record.state ≠ .empty ∧ ready.bayA.act.state ≠ .unloaded) ∧
    ((entriesOf ready.queue.items).filter fun e => e.bay = .bayA).length = 0 ∧
    0 < ((entriesOf (State.queued ready [entryA 3 500 0]).queue.items).filter fun e => e.bay = .bayA).length ∧
    ready.faults.records = [] ∧ (faulty 7).faults.records.length < 8 ∧ ¬ ((faulty 8).faults.records.length < 8) := by decide +kernel

/-- A bay A in its insertion debounce, with SPIN AUTO and a supply-good state. -/
def debouncing (auto : Bool) (supply : SupplyState) : State :=
  { rest with
    budget := { supply }
    settings := { spinAuto := auto }
    bayA := { pins := { present := true }, record := { debouncing := true } } }

/-- InsertionIsTaken: the four codes are met by the sense inputs, and each way of the bay. -/
theorem witness_InsertionIsTaken :
    (ready.bayA.record.state ≠ .empty ∧ rest.bayA.record.debouncing = false) ∧
    (let s := debouncing false .good
     s.bayA.record.state = .empty ∧ s.bayA.record.debouncing = true ∧ s.bayA.pins.present = true ∧ s.settings.spinAuto = false) ∧
    (false.toNat + 2 * false.toNat = 0 ∧ true.toNat + 2 * true.toNat = 3 ∧ false.toNat + 2 * true.toNat = 2) ∧
    ((debouncing true .low).settings.spinAuto = true ∧ (debouncing true .low).budget.supply = .low) ∧
    ((debouncing true .good).budget.supply ≠ .low ∧ (debouncing true .good).bayA.spindle.state = .off) := by decide +kernel

/-- EjectsAreJudged: no cartridge, an eject under way, a stuck bay, a locked one, a slot taken, and a plain READY. -/
theorem witness_EjectsAreJudged :
    rest.bayA.record.state = .empty ∧ (ejecting .drain).bayA.record.state = .ejecting ∧
    (let s := (still .fault).modRecord .bayA fun r => { r with cause := .unloadFault }
     s.bayA.record.state = .fault ∧ s.bayA.record.cause = .unloadFault) ∧
    (let s := ready.modRecord .bayA fun r => { r with lock := true }
     s.bayA.record.lock = true ∧ s.bayA.record.state = .ready) ∧
    (let s := ready.modSlot .bayA fun x => { x with state := .done }
     s.receives = true ∧ s.bayA.slot.state ≠ .free) ∧
    (ready.bayA.record.lock = false ∧ ready.bayA.slot.state = .free ∧ ready.receives = true) := by decide +kernel

/-- EjectEntryPhases: each row of the table of R157. -/
theorem witness_EjectEntryPhases :
    (let s := State.queued ready [entryA 3 500 0]
     s.bayA.record.state = .ready ∧ ¬ (s.queue.drained .bayA = true)) ∧
    (let s := ready.modMap .bayA fun t => { t with dirty := true }
     s.queue.drained .bayA = true ∧ s.bayA.slot.mediaWork = false ∧ s.bayA.media.op = none ∧ s.bayA.map.dirty = true) ∧
    (ready.bayA.map.dirty = false ∧ ready.bayA.act.state ≠ .unloaded) ∧
    (still .parking).bayA.record.state = .parking ∧ (still .inserted).bayA.record.state = .inserted ∧
    (let s := (still .spinning).modSpindle .bayA fun x => { x with state := .waiting }
     s.bayA.record.state = .spinning ∧ s.bayA.spindle.state = .waiting) ∧
    (measuring .cleaning .accel 0).bayA.spindle.state = .accel ∧
    ((loaded .mounting).bayA.record.state = .mounting ∧ (loaded .mounting).bayA.act.state ≠ .unloaded) ∧
    ((loaded .cleaning).bayA.record.state = .cleaning ∧ (loaded .cleaning).bayA.spindle.state = .run) ∧
    (measuring .halted .stopping 0).bayA.spindle.state = .stopping ∧ (still .halted).bayA.spindle.state = .off ∧
    ((loaded .fault).bayA.record.state = .fault ∧ (loaded .fault).bayA.act.state ≠ .unloaded) ∧
    ((still .fault).bayA.act.state = .unloaded ∧ (still .fault).bayA.spindle.state = .off) := by decide +kernel

/-- ReleaseSequence: the grant in its three cases, the end of the pulse, and the end of the 2 s with and without the cartridge. -/
theorem witness_ReleaseSequence :
    (let s := (ejecting .release).send (.grant .bayA .solenoid 0)
     s.grantUnderWay .bayA .solenoid 0 [] [] ∧ s.bayA.act.state = .unloaded ∧ s.bayA.spindle.state = .off ∧
       s.queue.drained .bayA = true) ∧
    (let s := ((loaded .ejecting).modRecord .bayA fun r => { r with phase := .release }).send (.grant .bayA .solenoid 0)
     s.bayA.act.state ≠ .unloaded ∧ s.bayA.record.phase = .release) ∧
    (let s := (ejecting .release).modSpindle .bayA fun x => { x with state := .stopping }
     s.bayA.act.state = .unloaded ∧ s.bayA.spindle.state = .stopping) ∧
    (ejecting .release 1 true).bayA.record.pulsing = true ∧
    ((ejecting .awaitRemoval).bayA.pins.present = true ∧ (ejecting .awaitRemoval).bayA.record.eject = some ⟨.button, 1, false⟩) ∧
    (ejecting .awaitRemoval 2).bayA.record.eject = some ⟨.button, 2, false⟩ ∧
    ((ejecting .awaitRemoval).modPins .bayA fun p => { p with present := false }).bayA.pins.present = false := by
  unfold State.grantUnderWay; decide +kernel

/-- A halted bay A with the budget HOLDING. -/
def halted (p : EjectPhase) (x : SpindleState) : State :=
  ({ still .halted with budget := { supply := .holding, holdTimer := some 7 } }.modRecord .bayA fun r =>
    { r with phase := p }).modSpindle .bayA fun y => { y with state := x }

/-- SupplyRisesAndHoldEnds: LOW and HOLDING; a bay not halted, and one halted with each phase and spindle. -/
theorem witness_SupplyRisesAndHoldEnds :
    ({ rest with budget := {} } : State).budget.supply = .low ∧ rest.budget.supply ≠ .low ∧ rest.budget.supply ≠ .holding ∧
    ((halted .none .off).budget.supply = .holding ∧ (halted .none .off).budget.holdTimer = some 7) ∧
    (halted .none .off).bayB.record.state ≠ .halted ∧
    ((halted .none .off).bayA.record.phase ≠ .spindown ∧ (halted .none .off).bayA.spindle.state = .off) ∧
    (halted .none .stopping).bayA.spindle.state = .stopping ∧
    ((halted .spindown .stopping).bayA.record.phase = .spindown ∧ (halted .spindown .stopping).bayA.spindle.state = .stopping) ∧
    (halted .spindown .off).bayA.spindle.state = .off := by decide +kernel

/-- SupplyLossHalts: a bay that halts, one that ejects at a phase that halts, one in RELEASE, and one at rest. -/
theorem witness_SupplyLossHalts :
    ready.budget.supply ≠ .low ∧
    ready.bayA.record.state ∈ [BayState.spinning, .loading, .mounting, .ready, .raw, .cleaning, .parking] ∧
    (ejecting .drain).bayA.record.phase ∈ [EjectPhase.drain, .unload, .spindown] ∧
    ((ejecting .release).bayA.record.state = .ejecting ∧ (ejecting .release).bayA.record.phase = .release) ∧
    (still .parked).bayA.record.phase ≠ .release := by decide +kernel

/-- A request of bay A on its way to a budget. -/
def asking (k : RequestKind) (level : Nat) (u : Budget) : State := { ready with budget := u, signals := [.request .bayA k level] }
/-- A budget in GOOD with bay B's spindle under way and some headroom. -/
def budgetB (waits : List Request) : Budget :=
  { supply := .good, waitList := waits, claims := [⟨.bayA, .spindle, 5⟩, ⟨.bayB, .spindle, 28⟩] }

/-- BudgetTakesRequests: out of GOOD; a load in headroom 7 and a spin-up that does not fit; a seek fitted at level 2 and one of
none; behind a spin-up and behind a load. -/
theorem witness_BudgetTakesRequests :
    (asking .load 0 {}).nextNotice .bayA [] (.request .bayA .load 0) [] ∧
    (asking .load 0 (budgetB [])).budget.supply = .good ∧
    ((3 : Int) ≤ 40 - 33 ∧ (40 - 33 : Int) < 8) ∧
    ((6 : Int) ≤ 7 ∧ (7 : Int) < 9 ∧ (2 : Int) < 3) ∧
    (budgetB [⟨.bayB, .recover, 0⟩]).waitList = ⟨.bayB, .recover, 0⟩ :: [] ∧
    (∀ q ∈ (budgetB [⟨.bayB, .load, 0⟩]).waitList, q.bay ≠ .bayA) ∧
    (∀ c ∈ (budgetB []).claims, ¬ (c.bay = .bayA ∧ c.consumer = RequestKind.seek.consumer)) := by
  unfold State.nextNotice; decide +kernel

/-- ExaminationGrantsFromTheHead: both supply states; in headroom 7 a load that fits at the head of two requests, a solenoid that
does not, a seek fitted at level 2; in headroom 2 a seek that fits at no level. -/
theorem witness_ExaminationGrantsFromTheHead :
    ({} : Budget).supply ≠ .good ∧ ({} : Budget).waitList = [] ∧
    (let u := budgetB [⟨.bayA, .load, 0⟩, ⟨.bayB, .seek, 0⟩]
     u.supply = .good ∧ u.waitList = ⟨.bayA, .load, 0⟩ :: [⟨.bayB, .seek, 0⟩] ∧
       (∀ r ∈ u.waitList, ∀ c ∈ u.claims, ¬ (c.bay = r.bay ∧ c.consumer = r.kind.consumer)) ∧
       (u.waitList.map Request.bay).Nodup ∧ u.headroom = 7 ∧ (3 : Int) ≤ 7) ∧
    (budgetB [⟨.bayA, .load, 0⟩, ⟨.bayB, .recover, 0⟩]).examine.2 = [.grant .bayA .load 0] ∧
    ((budgetB [⟨.bayA, .solenoid, 0⟩]).waitList = ⟨.bayA, .solenoid, 0⟩ :: [] ∧ (7 : Int) < 8) ∧
    ((budgetB [⟨.bayA, .seek, 1⟩]).examine.2 = [.grant .bayA .seek 2] ∧ (6 : Int) ≤ 7 ∧ (7 : Int) < 9) ∧
    ({ budgetB [⟨.bayA, .seek, 3⟩] with pending := some 35 } : Budget).headroom = 2 := by decide +kernel

/-- BudgetTakesReleasesAndWithdrawals: a release; a withdrawal of the head, of the second, and of none with and without its
grant under way. -/
theorem witness_BudgetTakesReleasesAndWithdrawals :
    ({ rest with signals := [.release .bayA .actuator] } : State).nextNotice .bayA [] (.release .bayA .actuator) [] ∧
    (let s : State := { rest with signals := [.grant .bayA .seek 1, .withdraw .bayA .seek] }
     s.nextNotice .bayA [.grant .bayA .seek 1] (.withdraw .bayA .seek) [] ∧
       ([.grant .bayA .seek 1] ++ [] : List Signal) = [] ++ .grant .bayA .seek 1 :: []) ∧
    (budgetB [⟨.bayA, .seek, 0⟩]).waitList = ⟨.bayA, .seek, 0⟩ :: [] ∧
    (budgetB [⟨.bayB, .load, 0⟩, ⟨.bayA, .seek, 0⟩]).waitList = [⟨.bayB, .load, 0⟩, ⟨.bayA, .seek, 0⟩] ∧
    (∀ q ∈ (budgetB []).waitList, ¬ (q.bay = .bayA ∧ q.kind = .seek)) := by
  unfold State.nextNotice; decide +kernel

/-- CapacityIsSet: claims of 33 at the value 33, and claims of 34. -/
theorem witness_CapacityIsSet :
    rest.receives = true ∧ ((budgetB []).claims.map Claim.draw).sum ≤ max 33 (min 40 33) ∧
    max 33 (min 40 33) < (([⟨.bayA, .spindle, 28⟩, ⟨.bayB, .actuator, 6⟩] : List Claim).map Claim.draw).sum := by decide +kernel

/-- A grant on its way to bay A. -/
def granted (k : RequestKind) (s : State) : State := { s with signals := [.grant .bayA k 1] }

/-- GrantsStartTheirLoads: each grant at an owner that wants it, and at one that does not. -/
theorem witness_GrantsStartTheirLoads :
    (granted .spinUp (measuring .spinning .waiting 0)).grantUnderWay .bayA .spinUp 1 [] [] ∧
    (measuring .spinning .waiting 0).bayA.spindle.state = .waiting ∧ ready.bayA.spindle.state ≠ .waiting ∧
    (let x := ((measuring .ready .recoverWait 0).modSpindle .bayA fun x => { x with recoverAsked := true }).bayA.spindle
     x.state = .recoverWait ∧ x.recoverAsked = true) ∧
    (let x := ((still .loading).modAct .bayA fun x => { x with loadAttempt := some 1 }).bayA.act
     x.state = .unloaded ∧ x.loadAttempt ≠ none) ∧
    (let x := (ready.modAct .bayA fun x => { x with state := .recalibrating, recal := .waiting }).bayA.act
     x.state = .recalibrating ∧ x.recal = .waiting) ∧
    (ready.bayA.act.state = .tracking ∧ ready.bayA.act.seek = none ∧ ready.bayA.record.phase ≠ .release) := by
  unfold State.grantUnderWay; decide +kernel

/-- MeasurementsAreRecorded: a window of a RUN spindle, one of an OFF spindle, a stale one and none; readings at both ends. -/
theorem witness_MeasurementsAreRecorded :
    (RawOutcome.counted 1).wellFormed = true ∧ (RawOutcome.counted 65533).wellFormed = true ∧
    rest.bayA.spindle.window = none ∧ (measuring .ready .run 0).bayA.spindle.window = some ⟨9, 4460000, false⟩ ∧
    (measuring .inserted .off 0).bayA.spindle.state ∈ [SpindleState.off, .waiting, .recoverWait] := by decide +kernel

/-- The class of a reading of bay A in a window of edge count 9. -/
def classIn (s : State) (raw : RawOutcome) : SpeedClass := s.classAt ⟨9, 4460000, false⟩ raw 3600

/-- ReadingsAreCounted: in ACCEL a STALL first, second and too early, an UNDER, an ON first and second; in RUN an ON, and an UNDER
first and second; in RECOVER and STOPPING each. -/
theorem witness_ReadingsAreCounted :
    (let s := measuring .spinning .accel 1 true
     s.bayA.spindle.window = some ⟨9, 4460000, false⟩ ∧ s.bayA.spindle.state = .accel ∧ s.bayA.spindle.timer = some 0 ∧
       s.bayA.record.typeCode ≠ 3 ∧ RawOutcome.noEdge.wellFormed = true ∧ classIn s .noEdge = .stall ∧
       0 + 2000000 ≤ 4460000 ∧ s.bayA.spindle.count = 1 ∧ s.bayA.spindle.countsStall = true) ∧
    ¬ ((measuring .spinning .accel 0).bayA.spindle.count = 1 ∧ (measuring .spinning .accel 0).bayA.spindle.countsStall = true) ∧
    2000000 < 1 + 2000000 ∧
    (classIn ready (.counted 16927) = .on ∧ classIn ready (.counted 16928) = .under ∧ classIn ready (.counted 16407) = .on ∧
      classIn ready (.counted 16406) = .over ∧ (RawOutcome.counted 16928).wellFormed = true) ∧
    ((measuring .spinning .accel 1).bayA.spindle.count = 1 ∧ (measuring .spinning .accel 1).bayA.spindle.countsStall = false ∧
      (measuring .spinning .accel 1).bayA.record.state = .spinning) ∧
    ((measuring .ready .run 1).bayA.spindle.state = .run ∧ 1 ≤ (measuring .ready .run 1).bayA.spindle.count ∧
      (measuring .ready .run 0).bayA.spindle.count = 0) ∧
    ((measuring .ready .recover 0).bayA.spindle.state = .recover ∧ (measuring .ready .recover 0).bayA.spindle.count = 0) ∧
    (((budgetB []).reduce .bayB).1.claims = [⟨.bayA, .spindle, 5⟩, ⟨.bayB, .spindle, 5⟩] ∧
      ({ budgetB [] with pending := some 33 } : Budget).pending = some 33 ∧ 5 + 5 ≤ 33) ∧
    (measuring .parking .stopping 0).bayA.spindle.state = .stopping := by decide +kernel

/-- A spindle of bay A whose next STALL confirms its stop, the heads off. -/
def confirming (st : BayState) (f : BayRecord → BayRecord) (g : Spindle → Spindle) : State :=
  (((measuring st .stopping 1).modAct .bayA fun _ => {}).modRecord .bayA f).modSpindle .bayA g

/-- StopsAreConfirmed: an attempt below the limit and at it, a pending spin-up, and each state that waits for a stop. -/
theorem witness_StopsAreConfirmed :
    (let s := confirming .spinning (fun r => r) fun x => { x with attemptEnd := true }
     s.bayA.spindle.window = some ⟨9, 4460000, false⟩ ∧ s.bayA.spindle.state = .stopping ∧ 1 ≤ s.bayA.spindle.count ∧
       s.bayA.record.state = .spinning ∧ s.bayA.spindle.pendingSpinUp = false ∧ s.bayA.spindle.attemptEnd = true ∧
       min 8 (s.bayA.record.attempts + 1) < s.settings.attemptsLimit) ∧
    (let s := confirming .cleaning (fun r => { r with attempts := 2 }) fun x => { x with attemptEnd := true }
     s.settings.attemptsLimit ≤ min 8 (s.bayA.record.attempts + 1)) ∧
    (let s := confirming .spinning (fun r => r) fun x => { x with pendingSpinUp := true }
     s.bayA.spindle.attemptEnd = false ∧ s.bayA.spindle.pendingSpinUp = true) ∧
    (let s := confirming .parking (fun r => { r with parkStep := .spindown }) fun x => x
     s.bayA.record.state = .parking ∧ s.bayA.record.parkStep = .spindown ∧ s.bayA.record.resetPark = false ∧
       s.bayA.record.eject = none) ∧
    (confirming .parking (fun r => { r with parkStep := .spindown, eject := some ⟨.button, 1, false⟩ }) fun x => x).bayA.record.eject
      ≠ none ∧
    (confirming .parking (fun r => { r with parkStep := .spindown, resetPark := true }) fun x => x).bayA.record.resetPark = true ∧
    (confirming .ejecting (fun r => { r with phase := .spindown }) fun x => x).bayA.record.phase = .spindown ∧
    (confirming .fault (fun r => { r with cause := .cartridgeLost }) fun x => x).bayA.record.cause = .cartridgeLost := by
  decide +kernel

/-- SpindleTimersRunOut: an attempt, a recovery with the heads off in FAULT, and one with the heads on the stop. -/
theorem witness_SpindleTimersRunOut :
    ready.bayA.spindle.state ≠ .accel ∧ ready.bayA.spindle.state ≠ .recover ∧
    ((measuring .spinning .accel 0).bayA.spindle.timer = some 0 ∧ (measuring .spinning .accel 0).bayA.spindle.state = .accel) ∧
    (let s := measuring .fault .recover 0
     s.bayA.spindle.state = .recover ∧ s.bayA.record.state = .fault ∧ s.bayA.act.state ≠ .unloaded) ∧
    (let s := (measuring .ready .recover 0).modAct .bayA fun _ => {}
     s.bayA.record.state ∈ [BayState.loading, .mounting, .ready, .raw, .cleaning, .parking, .ejecting] ∧
       s.bayA.act.state = .unloaded) := by decide +kernel

/-- PlanFigures and DemandCoversTheDistance: distances at the ends of each form, at the levels 0 and 3. -/
theorem witness_PlanFigures :
    (0 ≤ 3 ∧ 3 ≤ 3) ∧ (799 ≤ 799 ∧ 2 * 156 ≤ 799) ∧ (0 < 1 ∧ 1 < 2 * 21) ∧ (41 < 2 * 21 ∧ 2 * 21 ≤ 42) := by decide

/-- DemandCoversTheDistance: a recalibration that runs, after a load and otherwise, and one that waits. -/
theorem witness_DemandCoversTheDistance :
    (let x : Actuator := { state := .recalibrating, recal := .running, recalForLoad := true }
     x.state = .recalibrating ∧ x.recal = .running ∧ x.recalForLoad = true ∧ x.recalGuard = 1) ∧
    (let x : Actuator := { state := .recalibrating, recal := .running }
     x.recal = .running ∧ x.recalForLoad = false) ∧
    (let x : Actuator := { state := .recalibrating, recal := .waiting }
     x.recal ≠ .running) := by decide

/-- A seek of bay A that runs, for the Media Engine's operation or for the sweep. -/
def seeking (r : Requester) (st : BayState) (kind : OpKind := .slotRead) : State :=
  (((loaded st).modAct .bayA fun x =>
    { x with state := .seeking
             seek := some { requester := r, cylinder := 100, head := 1, attempt := 1, standing := .running, distance := 100,
                            direction := .up, level := 0 }
             plan := some (makePlan 100 1 100 .up 0 0) }).modMedia .bayA fun m =>
    { m with state := .working
             op := if r = .media then some { kind, target := ⟨100, 1, 5⟩, passes := 0, attempt := 1, arrival := none,
                                             orphan := false, stage := .seeking } else none }).modSlot .bayA fun _ =>
      { state := .inProgress, request := some (.seek 100) }

/-- SeekCompletes: the last sample too early, the first and the last that can complete, and the first too late; a read, a SEEK, and
a sweep seek out and back, up to the last trip. -/
theorem witness_SeekCompletes :
    (let s := seeking .media .ready
     let p := makePlan 100 1 100 .up 0 0
     s.bayA.act.state = .seeking ∧ s.bayA.act.plan = some p ∧ p.outcome = .inForce ∧
       ¬ (max 1 (p.moving + p.settle) ≤ 17) ∧ (max 1 (p.moving + p.settle) ≤ 18 ∧ 18 ≤ p.timeout) ∧ 60 ≤ p.timeout ∧
       ¬ (61 ≤ p.timeout) ∧ (s.bayA.media.op.any fun o => o.kind = .slotRead) = true) ∧
    (let s := seeking .media .ready .slotSeek
     (s.bayA.media.op.any fun o => o.kind = .slotSeek ∧ o.orphan = false) = true ∧ s.bayA.slot.state = .inProgress ∧
       s.bayA.record.state = .ready) ∧
    (let s := seeking .sweep .cleaning
     (s.bayA.act.seek.any fun q => q.requester = .sweep) = true ∧ s.bayA.record.state = .cleaning ∧
       s.bayA.record.sweepOut = false) ∧
    (let r := ((seeking .sweep .cleaning).modRecord .bayA fun r => { r with sweepOut := true, trips := 14 }).bayA.record
     r.sweepOut = true ∧ r.trips + 1 < 16) ∧
    ((seeking .sweep .cleaning).modRecord .bayA fun r => { r with sweepOut := true, trips := 15 }).bayA.record.trips = 15 := by
  decide +kernel

/-- SeekAttemptsFail: a seek that runs. -/
theorem witness_SeekAttemptsFail :
    (seeking .media .ready).bayA.act.state = .seeking ∧ (seeking .media .ready).bayA.act.seek.isSome = true ∧
    (seeking .media .ready).bayA.act.plan = some (makePlan 100 1 100 .up 0 0) := by decide +kernel

/-- An operation of bay A at a stage, with the heads tracking. -/
def working (st : BayState) (kind : OpKind) (stage : OpStage) (passes attempt : Nat := 1) (arrival : Option Nat := none) : State :=
  (loaded st).modMedia .bayA fun m =>
    { m with state := .working, op := some { kind, target := ⟨0, 0, 3⟩, passes, attempt, arrival, orphan := false, stage } }

/-- A seek in hand of bay A. -/
def inHand (standing : SeekStanding) (attempt : Nat) : SeekInHand :=
  { requester := .media, cylinder := 7, head := 0, attempt, standing, distance := 7, direction := .up, level := 0 }

/-- A recalibration of bay A that runs. -/
def recalibrating (s : State) : State := s.modAct .bayA fun x => { x with state := .recalibrating, recal := .running }

/-- RecalibrationsEnd: a track loss with no operation, with a read, with a drain and with a seek that stood REQUESTED; and a
recalibration that ends in each of its states, with a seek at its second and third attempt. -/
theorem witness_RecalibrationsEnd :
    (still .inserted).bayA.act.state ≠ .tracking ∧ (ready.bayA.act.seek = none ∧ ready.bayA.media.op = none) ∧
    (((working .ready .slotRead .atSector).bayA.media.op.any fun o => o.kind.isRead ∧ o.stage = .atSector) = true) ∧
    (((working .ready .drainWrite .atSector 0 1 (some 9)).bayA.media.op.any fun o => o.arrival = some 9) = true) ∧
    (let s := (working .ready .slotRead .seeking).modAct .bayA fun x => { x with seek := some (inHand .requested 1) }
     s.bayA.act.state = .tracking ∧ (s.bayA.act.seek.any fun q => q.standing = .requested) = true ∧
       (s.bayA.media.op.all fun o => o.stage = .seeking) = true) ∧
    (let s := recalibrating ready
     s.bayA.act.state = .recalibrating ∧ s.bayA.act.recal = .running ∧ s.bayA.record.state = .ready ∧ s.bayA.act.seek = none ∧
       s.bayA.media.op = none ∧ s.bayA.media.state ≠ .stalled) ∧
    (let s := (recalibrating (loaded .loading)).modRecord .bayA fun r => { r with standing := .none }
     s.bayA.record.state = .loading ∧ s.bayA.record.standing = .none) ∧
    (recalibrating (loaded .loading)).bayA.record.standing = .labelled ∧
    (let s := (recalibrating (working .ready .drainWrite .seeking 0 1 (some 9))).modAct .bayA fun x =>
       { x with seek := some (inHand .retrying 2) }
     (s.bayA.act.seek.any fun q => q.standing = .retrying ∧ q.requester = .media ∧ q.attempt < 3 ∧ q.cylinder ≠ 0) = true ∧
       s.bayA.heat.hot = false) ∧
    (inHand .retrying 3).attempt = 3 ∧ (recalibrating (loaded .cleaning)).bayA.record.state = .cleaning := by decide +kernel

/-- An unload of bay A under way. -/
def unloading (s : State) (attempt : Option Nat := none) : State :=
  s.modAct .bayA fun x => { x with state := .unloading, unloadMoving := true, unloadAt := 7, loadAttempt := attempt }

/-- LoadsAndUnloadsEnd: a load; an unload after a first and a second failed load, of an eject, of PARKING and of a speed loss. -/
theorem witness_LoadsAndUnloadsEnd :
    ready.bayA.act.state ≠ .loading ∧
    ((loaded .loading).modAct .bayA fun x => { x with state := .loading }).bayA.act.state = .loading ∧
    (let s := unloading (loaded .loading) (some 1)
     s.bayA.act.state = .unloading ∧ s.bayA.act.unloadMoving = true ∧ s.bayA.act.loadAttempt = some 1) ∧
    ((unloading (loaded .loading) (some 2)).bayA.act.loadAttempt = some 2 ∧
      (unloading (loaded .loading) (some 2)).bayA.record.state = .loading) ∧
    (let s := unloading ((loaded .ejecting).modRecord .bayA fun r => { r with phase := .unload })
     s.bayA.act.loadAttempt = none ∧ s.bayA.record.phase = .unload ∧ s.bayA.spindle.state = .run) ∧
    (let s := unloading ((loaded .parking).modRecord .bayA fun r => { r with parkStep := .unload })
     s.bayA.record.state = .parking ∧ s.bayA.record.parkStep = .unload) ∧
    (let s := unloading (measuring .ready .recoverWait 0)
     s.bayA.record.state = .ready ∧ s.bayA.spindle.state = .recoverWait ∧ s.bayA.spindle.recoverAsked = false) := by
  decide +kernel

/-- EvaluationStepsTheHeat: an offset that rises, one that falls, one that stands; a flag that is set with a seek REQUESTED, and
one that is cleared with a seek HELD, to another cylinder and to the present one. -/
theorem witness_EvaluationStepsTheHeat :
    (let h : Heat := { estimate := 25601, overTop := true }
     24000 < h.estimate - h.estimate / 16 ∧ h.overTop = true ∧ h.offset < 3 ∧ h.delay - 1 = 0) ∧
    (let h : Heat := { estimate := 12798, offset := 3, delay := 1 }
     h.estimate - h.estimate / 16 < 12000 ∧ 0 < h.offset ∧ h.delay - 1 = 0) ∧
    (let h : Heat := { estimate := 51201, overTrip := true }
     h.hot = false ∧ 48000 < h.estimate - h.estimate / 16 ∧ h.overTrip = true) ∧
    (inHand .requested 1).standing = .requested ∧ (inHand .held 1).standing ≠ .requested ∧
    (let h : Heat := { estimate := 25600, hot := true }
     h.hot = true ∧ decide (24000 < h.estimate - h.estimate / 16) = false) ∧
    (let x := ((loaded .ready 8).modAct .bayA fun x => { x with seek := some (inHand .held 1) }).bayA.act
     x.state = .tracking ∧ x.cylinder = some 8 ∧ (inHand .held 1).cylinder ≠ 8 ∧ (inHand .held 1).cylinder = 7) := by
  decide +kernel

/-- A request in progress of bay A. -/
def requested (s : State) (r : LongRequest) : State := s.modSlot .bayA fun _ => { state := .inProgress, request := some r }

/-- EngineChooses: custody work of each kind, a drain at an idle slot, at 16 entries and at fairness 4, and each slot operation. -/
theorem witness_EngineChooses :
    (let s := (asked .bayA)
     s.bayA.media.state = .idle ∧ s.bayA.act.state = .tracking ∧ s.bayA.act.seek = none ∧
       s.bayA.record.state ∈ [BayState.mounting, .ready, .raw] ∧
       s.bayA.media.custody = some .labelRead) ∧
    (let s := (((loaded .ejecting).modRecord .bayA fun r => { r with phase := .drain }).modMedia .bayA fun m =>
       { m with custody := some .labelSave })
     s.bayA.record.state = .ejecting ∧ s.bayA.record.phase = .drain ∧ s.bayA.media.custody = some .labelSave) ∧
    (let s := State.queued ready [entryA 37 500 0, entryA 38 4000 1]
     s.queue.eligible .bayA ≠ [] ∧ (s.queue.writingOf .bayA).isNone = true ∧ s.bayA.slot.mediaWork = false ∧
       s.bayA.media.custody = none) ∧
    (let s := State.queued ready [entryA 37 500 0 true, entryA 38 4000 1]
     s.queue.eligible .bayA ≠ [] ∧ (s.queue.writingOf .bayA).isSome = true ∧ s.bayA.slot.mediaWork = false ∧
       s.bayA.media.custody = none) ∧
    ((beside 4).bayA.media.fairness = 4 ∧ (beside 4).queue.eligible .bayA ≠ []) ∧
    (State.queued ready ((List.range 16).map fun i => entryA i (48 * i) i)).queue.entryCount = 16 ∧
    (ready.queue.eligible .bayA = [] ∧ ready.bayA.slot.mediaWork = false) ∧
    ((requested ready (.readPhys ⟨3, 0, 20⟩ 4)).bayA.slot.request = some (.readPhys ⟨3, 0, 20⟩ 4) ∧
      (requested ready (.readPhys ⟨3, 0, 20⟩ 4)).queue.eligible .bayA = []) ∧
    (requested ready (.writePhys ⟨399, 1, 23⟩)).bayA.slot.state = .inProgress ∧
    (requested ready (.seek 399)).bayA.slot.request = some (.seek 399) ∧
    (requested ready .mapSave).bayA.slot.request = some .mapSave ∧
    (let s := requested ready (.read 18959 1)
     s.bayA.slot.staged < 1 ∧ s.queue.newest .bayA (18959 + s.bayA.slot.staged) = none) ∧
    (let s := requested (State.queued ready [entryA 5 300 0 true]) (.read 300 1)
     s.queue.eligible .bayA = [] ∧ s.bayA.slot.staged + 1 = 1 ∧
       (s.queue.newest .bayA 300).map WriteEntry.arrival = some 5) := by decide +kernel

/-- ReadPassesEnd: the passes 8 and 9 and 16 and 17 of a READ, and a label read; a label that is valid and one that is not. -/
theorem witness_ReadPassesEnd :
    (let s := requested (working .ready .slotRead .atSector 8) (.read 5 1)
     (s.bayA.media.op.any fun o => o.stage = .atSector ∧ o.kind.isRead ∧ o.passes + 1 = 9 ∧ o.kind ≠ .labelRead ∧
       o.orphan = false) = true ∧ s.bayA.slot.state = .inProgress ∧ s.bayA.record.state = .ready ∧
       s.bayA.slot.request = some (.read 5 1) ∧ (LongRequest.read 5 1).sectors ≤ s.bayA.slot.staged + 1 ∧
       s.bayA.slot.staged + 1 < (LongRequest.read 5 2).sectors) ∧
    (7 + 1 < 17 ∧ 7 + 1 ≠ 9) ∧ ((working .ready .slotRead .atSector 16).bayA.media.op.any fun o => 17 ≤ o.passes + 1) = true ∧
    (let s := working .mounting .labelRead .atSector 0
     s.bayA.record.state = .mounting ∧ (s.bayA.media.op.any fun o => o.kind = .labelRead) = true ∧
       s.bayA.record.typeCode = 1) := by decide +kernel
theorem witness_ReadPassesEnd_invalid : judgeLabel 1 (some Sector.zero) = .error .badMagic := by rfl
theorem witness_ReadPassesEnd_valid :
    (match judgeLabel 1 (some (map72.labelSector 1)) with
      | .ok (entries, generation) => entries.map MapEntry.block = [1000, 5217, 18000] && generation = 1
      | .error _ => false) = true := by
  rw [RemapTable.labelSector, judgeLabel_sectorOf]; decide +kernel

/-- WriteAttemptsEnd: each kind of write, a drain with its WRITING entry listed, the second and the third attempt, and a READY, a
RAW and an ejecting bay. -/
theorem witness_WriteAttemptsEnd :
    (((working .ready .drainWrite .atSector 0 1 (some 9)).bayA.media.op.any fun o => o.kind.isWrite ∧ o.stage = .atSector ∧
      o.arrival = some 9) = true) ∧
    (State.queued ready [entryA 9 500 15 true]).queue.items =
      [] ++ .entry { bay := .bayA, block := 500, slot := (15 : Fin 16).val, writing := true, attempts := 0, arrival := 9 } :: [] ∧
    (let s := requested (working .ready .slotWritePhys .atSector 0 2) (.writePhys ⟨0, 0, 3⟩)
     (s.bayA.media.op.any fun o => o.orphan = false ∧ o.attempt < 3) = true ∧ s.bayA.slot.state = .inProgress) ∧
    ((working .ready .slotWritePhys .atSector 0 3).bayA.media.op.any fun o => 3 ≤ o.attempt) = true ∧
    (requested (working .ready .slotMapSave .atSector) .mapSave).bayA.record.state = .ready ∧
    (requested (working .raw .slotMapSave .atSector) .mapSave).bayA.record.state = .raw ∧
    (let s := (working .ejecting .labelSave .atSector 0 2).modRecord .bayA fun r =>
       { r with phase := .drain, eject := some ⟨.button, 1, true⟩ }
     s.bayA.record.state = .ejecting ∧ s.bayA.record.phase = .drain ∧ s.bayA.record.eject = some ⟨.button, 1, true⟩ ∧
       s.bayA.act.state ≠ .unloaded) := by decide +kernel

/-- An outcome under way of the WRITING entry with arrival 60, some items after it. -/
def outcome (x : Signal) (attempts : Nat) (after : List Item) : State :=
  { State.queued ready (entryA 60 700 0 true attempts :: after) with signals := [x] }

/-- DrainOutcomesAreTaken: an entry listed, gone, with a newer one, at its second and third failure; the last of a bay that
parks. -/
theorem witness_DrainOutcomesAreTaken :
    (let s := outcome (.failed .bayA 60) 1 [entryA 61 700 1]
     s.signals = [] ++ .failed .bayA 60 :: [] ∧ s.queue.items = [] ++ entryA 60 700 0 true 1 :: [entryA 61 700 1] ∧
       (∀ f ∈ entriesOf ([] ++ [entryA 61 700 1]), ¬ (f.bay = .bayA ∧ f.writing = true)) ∧
       s.bayA.record.state ≠ .parking ∧ s.bayA.record.state ≠ .ejecting ∧
       [entryA 61 700 1] = [] ++ entryA 61 700 1 :: []) ∧
    (∀ f ∈ entriesOf ready.queue.items, ¬ (f.bay = .bayA ∧ f.arrival = 60 ∧ f.writing = true)) ∧
    (3 ≤ 2 + 1 ∧ 1 + 1 < 3) ∧
    (outcome (.performed .bayA 60) 0 []).signals = [] ++ .performed .bayA 60 :: [] ∧
    (outcome (.abandoned .bayA 60) 2 []).signals = [] ++ .abandoned .bayA 60 :: [] ∧
    (let s := (outcome (.performed .bayA 60) 0 []).modRecord .bayA fun r => { r with state := .parking, parkStep := .drain }
     s.bayA.record.state = .parking ∧ s.bayA.record.parkStep = .drain ∧ (∀ i ∈ ([] ++ [] : List Item), i.bay ≠ .bayA) ∧
       s.bayA.slot.mediaWork = false ∧ s.bayA.media.op = none ∧ s.bayA.act.state ≠ .unloaded) := by decide +kernel

/-- The rules of a queue, decided: the list of section 8.9 keeps them. -/
theorem witness_QueueRulesAreKept : list89.queue.Ok := by
  constructor <;> first | decide +kernel | (constructor <;> decide +kernel)

/-- WritesArePlaced: RAW, EJECTING, PARKED and READY; the last block in range and the first out of it; a merge, a free slot, and
none. -/
theorem witness_WritesArePlaced :
    list89.receives = true ∧ (still .raw).bayA.record.state = .raw ∧ (ejecting .drain).bayA.record.state = .ejecting ∧
    (still .parked).bayA.record.state ≠ .ready ∧
    (list89.bayA.record.state = .ready ∧ (18959#16).toNat < 18960 ∧ ¬ ((18960#16).toNat < 18960)) ∧
    (list89.queue.mergeTarget .bayA 9600).map WriteEntry.arrival = some 42 ∧ list89.queue.mergeTarget .bayA 500 ≠ none ∧
    (list89.queue.mergeTarget .bayA 4000 = none ∧ list89.queue.freeSlot = some 6) ∧
    (State.queued ready ((List.range 16).map fun i => entryA i (48 * i) i)).queue.freeSlot = none := by decide +kernel

/-- OrdersAndFlushes: no item of the bay, an entry last, a mark last; 7 and 8 marks; a slot taken; and a list whose first item of
the bay is an entry, an ORDER and a FLUSH. -/
theorem witness_OrdersAndFlushes :
    ready.receives = true ∧ (∀ i ∈ ready.queue.items, i.bay ≠ .bayA) ∧
    (State.queued ready [entryA 3 5 0]).queue.items = [] ++ entryA 3 5 0 :: [] ∧ (entryA 3 5 0).isEntry = true ∧
    (Item.mark .bayA .order).isEntry = false ∧
    (let s := State.queued ready (List.replicate 7 (.mark .bayB .order) ++ [entryA 3 5 0])
     s.queue.markCount < 8 ∧ s.bayA.record.state = .ready ∧ s.bayA.slot.state = .free) ∧
    8 ≤ (State.queued ready (List.replicate 8 (.mark .bayB .order) ++ [entryA 3 5 0])).queue.markCount ∧
    (requested ready .mapSave).bayA.slot.state ≠ .free ∧
    (requested (State.queued ready [.mark .bayA .flush]) .flush).queue.items = [] ++ .mark .bayA .flush :: [] ∧
    (requested (State.queued ready [.mark .bayA .flush]) .flush).bayA.slot.request = some .flush := by decide +kernel

/-- A result of bay A, with some sectors staged and the next one to return. -/
def done (r : LongRequest) (staged next : Nat) : State :=
  ready.modSlot .bayA fun _ => { state := .done, request := some r, staged, next }

/-- ResultsAndAborts: FREE, DONE with no sector, the first and the last of four, and IN PROGRESS with each kind of request. -/
theorem witness_ResultsAndAborts :
    ready.bayA.slot.state = .free ∧ (done .mapSave 0 1).bayA.slot.state = .done ∧ LongRequest.mapSave.sectors = 0 ∧
    ((done (.read 5 4) 4 1).bayA.slot.next = (0 : Fin 4).val + 1 ∧ (done (.read 5 4) 4 4).bayA.slot.next = (3 : Fin 4).val + 1 ∧
      (3 : Fin 4).val < (done (.read 5 4) 4 4).bayA.slot.staged ∧ 0 < (LongRequest.read 5 4).sectors) ∧
    ((requested ready (.read 5 4)).bayA.slot.state = .inProgress ∧ (LongRequest.read 5 4).isMedia = true ∧
      (requested ready (.read 5 4)).bayA.record.state ≠ .parking ∧ (requested ready (.read 5 4)).bayA.record.state ≠ .ejecting) ∧
    (requested ready .flush).bayA.slot.request = some .flush ∧
    (let s := requested (ejecting .spindown) .eject
     s.bayA.slot.request = some .eject ∧ ¬ (s.bayA.record.state = .ejecting ∧ s.bayA.record.phase = .drain)) ∧
    (let s := (requested (ejecting .drain) .eject).modRecord .bayA fun r => { r with standing := .labelled }
     s.receives = true ∧ s.bayA.slot.state = .inProgress ∧ s.bayA.slot.request = some .eject ∧
       s.bayA.record.state = .ejecting ∧ s.bayA.record.phase = .drain ∧ s.bayA.record.standing ≠ .none) := by decide +kernel

/-- MapMessages: a state where the table may not be touched, index 63 and 64, block and spare at and past their ends, a block
found and not, an edit BUSY, DUPLICATE, placed and with the table full. -/
theorem witness_MapMessages :
    mapped.receives = true ∧ (still .parked).bayA.record.state ≠ .ready ∧ mapped.bayA.record.state = .ready ∧
    (63 < (64#8).toNat ∧ (63#8).toNat ≤ 63) ∧ ((18959#16).toNat < 18960 ∧ ¬ ((18960#16).toNat < 18960)) ∧
    (191 < (192#8).toNat ∧ (191#8).toNat ≤ 191) ∧
    (mapped.bayA.map.entries[(1 : Fin 64)] = some ⟨5217, 1⟩ ∧ mapped.bayA.map.entries[(3 : Fin 64)] = none) ∧
    (mapped.queue.writingBlock .bayA 18000 = true ∧ mapped.queue.writingBlock .bayA 5217 = false) ∧
    (mapped.bayA.map.duplicates none 7300 2 = true ∧ mapped.bayA.map.duplicates none 7300 3 = false) ∧
    (mapped.bayA.map.find 7300 = none ∧ mapped.bayA.map.lowestInvalid = some 3) ∧
    (({ entries := Vector.ofFn fun i => some ⟨i.val, i.val⟩ } : RemapTable).lowestInvalid = none) := by decide +kernel

/-- LongRequestsAreJudged: counts 0, 1, 4 and 5; READY, RAW, EJECTING and PARKED; the slot taken; the last address in range and
the first out of it; a queue with and without an entry of the bay. -/
theorem witness_LongRequestsAreJudged :
    ready.receives = true ∧ (¬ (1 ≤ (0#8).toNat) ∧ 1 ≤ (1#8).toNat ∧ (4#8).toNat ≤ 4 ∧ ¬ ((5#8).toNat ≤ 4)) ∧
    (still .raw).bayA.record.state = .raw ∧ (ejecting .drain).bayA.record.state = .ejecting ∧
    (still .parked).bayA.record.state ≠ .ready ∧ (requested ready .mapSave).bayA.slot.state ≠ .free ∧
    (18957 + 3 - 1 < 18960 ∧ 18960 ≤ 18957 + 4 - 1) ∧
    ((399#16).toNat < 400 ∧ (1#8).toNat ≤ 1 ∧ (23#8).toNat ≤ 23 ∧ ¬ ((400#16).toNat < 400)) ∧
    (20 + 4 - 1 ≤ 23 ∧ ¬ (21 + 4 - 1 ≤ 23)) ∧ (∀ e ∈ entriesOf ready.queue.items, e.bay ≠ .bayA) ∧
    ¬ (∀ e ∈ entriesOf (State.queued ready [entryA 3 5 0]).queue.items, e.bay ≠ .bayA) := by decide +kernel

/-- BlocksHaveSectorsOfTheirOwn and BuiltLabelIsValid: the table of section 7.2 keeps its rules. -/
theorem witness_BlocksHaveSectorsOfTheirOwn :
    map72.Ok 1 ∧ blockOk 1 0 = true ∧ blockOk 1 18959 = true ∧ blockOk 2 38159 = true :=
  ⟨⟨by decide +kernel, by decide +kernel, by decide +kernel⟩, by decide, by decide, by decide⟩
theorem witness_BuiltLabelIsValid : map72.Ok 1 := witness_BlocksHaveSectorsOfTheirOwn.1
/-- The outcome of a judgement in numbers: the cause as reported, or 0 with the blocks, the spares and the generation. -/
def verdict (j : Except LabelCause (List MapEntry × Nat)) : Nat × List Nat :=
  match j with
  | .ok (entries, generation) => (0, entries.map MapEntry.block ++ entries.map MapEntry.spare ++ [generation])
  | .error c => (labelCauseCode (some c), [])

/-- The verdict in a bay with a cartridge of a type on the label that starts with some words, its other words 0. -/
def verdictOn (code : Nat) (words : List Nat) : Nat × List Nat := verdict (judgeLabel code (some (sectorOf (bytesOf words))))
theorem verdictOn_eq : verdictOn = fun code words =>
    verdict (judgeWords code (wordsOf ((List.range 512).map fun i => (bytesOf words).getD i 0#8))) := by
  funext code words; rw [verdictOn, judgeLabel_sectorOf]

/-- BuiltLabelIsValid: a label that fails each check of R117 and passes those before it, its generation putting the sum right
where the check of the sum must pass: a magic word, the version; the sum; the type; 65 entries; spare index 192, the first out
of range; block 18,960, the first out of range; one block twice; one spare twice. The last passes every check, with the last
block and the last spare in range. -/
theorem witness_BuiltLabelIsValid_causes :
    [verdictOn 1 [0x5A3D, 0xC3A5, 1, 1, 0, 0], verdictOn 1 [0x5A3C, 0xC3A5, 1, 2, 0, 0],
      verdictOn 1 [0x5A3C, 0xC3A5, 1, 1, 0, 57886], verdictOn 1 [0x5A3C, 0xC3A5, 2, 1, 0, 57884],
      verdictOn 1 [0x5A3C, 0xC3A5, 1, 1, 65, 57820], verdictOn 1 [0x5A3C, 0xC3A5, 1, 1, 1, 56692, 1000, 192],
      verdictOn 1 [0x5A3C, 0xC3A5, 1, 1, 1, 38924, 18960, 0], verdictOn 1 [0x5A3C, 0xC3A5, 1, 1, 2, 55882, 1000, 0, 1000, 1],
      verdictOn 1 [0x5A3C, 0xC3A5, 1, 1, 2, 55880, 1000, 1, 1001, 1],
      verdictOn 1 [0x5A3C, 0xC3A5, 1, 1, 1, 38734, 18959, 191]] =
    [(2, []), (2, []), (3, []), (4, []), (5, []), (5, []), (5, []), (5, []), (5, []), (0, [18959, 191, 38734])] := by
  rw [verdictOn_eq]; decide +kernel

/-- BudgetRulesAreKept: a request waits behind an acceleration. -/
theorem witness_BudgetRulesAreKept : ({ budgetB [⟨.bayA, .solenoid, 0⟩] with pending := none } : Budget).Ok := by
  constructor <;> decide +kernel

/-- The figures of a READY bay are in range. -/
theorem witness_bay_ranges : ready.bayA.RangesOk := by constructor <;> first | decide +kernel | (intro n; cases n <;> decide +kernel)
theorem witness_idle_ranges : ready.bayB.RangesOk := by constructor <;> first | decide +kernel | (intro n; cases n <;> decide +kernel)
theorem witness_settings : ready.settings.Ok := by constructor <;> decide +kernel
theorem witness_map : ∀ code, ({} : RemapTable).Ok code := fun code =>
  ⟨by decide +kernel, by decide +kernel, fun _ m h => absurd h (by
    have : ({} : RemapTable).valid = [] := by decide +kernel
    rw [this]; simp)⟩

/-- RangesAreKept: a READY bay. -/
theorem witness_RangesAreKept : ready.RangesOk :=
  ⟨witness_settings, witness_bay_ranges, witness_idle_ranges, by decide +kernel, by decide +kernel, by decide +kernel,
    witness_map _, witness_map _⟩

/-- MechanicsRulesAreKept: a READY bay whose queue holds the list of section 8.9, with no item of bay B. -/
theorem witness_MechanicsRulesAreKept : (State.queued ready [entryA 3 500 0]).MechanicsOk := by
  refine ⟨?_, ?_, by decide +kernel, ?_⟩
  · constructor <;> first | decide +kernel | (intro q h; simp [State.queued, ready, loaded, rest] at h)
  · constructor <;> first | decide +kernel | (intro q h; simp [State.queued, ready, loaded, rest, State.reset] at h)
  · constructor <;> first | decide +kernel | (constructor <;> decide +kernel)

/-- And a step from it answers a next state, as it does from every state. -/
theorem witness_step : answers (step (State.queued ready [entryA 3 500 0])) (fun t => t.bayA.media.state = .working) = true := by
  decide +kernel

/-! ### Outputs (00_scope.md, section 5) -/

/-- R144: a drain write that succeeds has written the slot of its WRITING entry at the target; a WRITE PHYS writes the first
staging slot. -/
theorem test_written_drain :
    let s := State.queued (working .ready .drainWrite .atSector 0 1 (some 9)) [entryA 9 500 15 true]
    let s := { s with queue := s.queue.putData 15 (Sector.zero.set 0 7#8) }
    answers (exec (.writeAttemptDone .bayA) s) (fun t => (t.bayA.media.written.map fun w => (w.1, w.2[0])) = some (⟨0, 0, 3⟩, 7#8))
      = true := by decide +kernel
theorem test_written_phys :
    let s := (working .ready .slotWritePhys .atSector).modMedia .bayA fun m =>
      { m with staging := m.staging.set 0 (Sector.zero.set 0 7#8) }
    answers (exec (.writeAttemptDone .bayA) s) (fun t => (t.bayA.media.written.map fun w => (w.1, w.2[0])) = some (⟨0, 0, 3⟩, 7#8))
      = true ∧ answers (exec (.writeFault .bayA) s) (fun t => t.bayA.media.written.isNone) = true := by decide +kernel

/-- R21: a retract draws 3 units of the reserve until the stop is seen, as an unload does. -/
theorem test_retract_draws :
    answers (exec .supplyLoss ready) (fun t => t.reserveDraw = 3) = true ∧ (unloading ready).reserveDraw = 3 ∧
    ready.reserveDraw = 0 ∧ answers (exec (.powerOn ⟨0, 0, true, true, true, false, false⟩) rest) (fun t => t.reserveDraw = 6) = true := by
  decide +kernel

/-- R63 and R78: a seek granted selects its head, and a recalibration head 0. -/
theorem test_head_select :
    let s := (ready.modAct .bayA fun x => { x with seek := some { inHand .requested 1 with head := 1 } }).send (.grant .bayA .seek 0)
    let r := ((seeking .media .ready).modAct .bayA fun x => { x with state := .recalibrating, recal := .waiting }).modPins .bayA
      fun p => { p with headSelect := 1 }
    answers (exec (.seekGrant .bayA) s) (fun t => t.bayA.pins.headSelect = 1 && t.bayA.act.head = 0) = true ∧
    answers (exec (.recalibrateGrant .bayA) (r.send (.grant .bayA .recalibrate 0))) (fun t => t.bayA.pins.headSelect = 0) = true := by
  decide +kernel

/-- R71: the sign of the demand; a plan that is no longer in force demands nothing. -/
theorem test_velocity_sign :
    let p := makePlan 5 0 10 .down 3 3
    (p.velocity 1, p.velocity 2, { p with outcome := .abandoned }.velocity 1) = (-1, -2, 0) ∧
    (makePlan 15 0 10 .up 3 3).velocity 1 = 1 := by decide +kernel

/-- R166: the first character of a reply of unit 2 is the address character 6 with its ninth bit 1, and the others have theirs 0;
that of bit 0 set stands on the line as start, 1, eight zeros, stop. -/
theorem test_reply_characters :
    let line := ({ status := .ok, code := 0x10, bay := 0, body := [] } : Reply).characters 2#2
    line.map (fun c => c.low.toNat) = [6, 3, 0, 0, 0x10, 0] ++ (line.drop 6).map (fun c => c.low.toNat) ∧
    line.map LinkChar.ninth = [true, false, false, false, false, false, false, false] ∧
    ({ low := 1, ninth := false, stop := true } : LinkChar).lineBits =
      [false, true, false, false, false, false, false, false, false, false, true] := by decide +kernel

end Sys2Proof.Tests
end

section
/-!
SUPPORT. The receive assembly, which every message taken leaves idle, under the updates that START makes; and the operations
START and STOP lead to: the start of a spin-up (R7, R46), the stop of the spindle (R47, R56), the unload (R88) and the drain
step of PARKING (R11).
-/

namespace Sys2Proof.Machine

/-! ### The receive assembly -/

theorem State.setAssembly_modRecord (s : State) (a : Assembly) (b : BayId) (f : BayRecord → BayRecord) :
    (s.setAssembly a).modRecord b f = (s.modRecord b f).setAssembly a := by cases b <;> rfl
theorem State.setAssembly_modSpindle (s : State) (a : Assembly) (b : BayId) (f : Spindle → Spindle) :
    (s.setAssembly a).modSpindle b f = (s.modSpindle b f).setAssembly a := by cases b <;> rfl
theorem State.setAssembly_request (s : State) (a : Assembly) (b : BayId) (k : RequestKind) (l : Nat) :
    (s.setAssembly a).request b k l = (s.request b k l).setAssembly a := rfl

/-- A spin-up request leaves the receive assembly alone. -/
theorem State.setAssembly_spinUp (s : State) (a : Assembly) (b : BayId) :
    (s.setAssembly a).spinUp b = (s.spinUp b).setAssembly a := by
  cases h : (s.bay b).spindle.state <;>
    simp [State.spinUp, h, State.setAssembly_modSpindle, State.setAssembly_request]

/-- The start of a spin-up leaves the receive assembly alone. -/
theorem State.setAssembly_startSpinning (s : State) (a : Assembly) (b : BayId) (n : BayState) :
    (s.setAssembly a).startSpinning b n = (s.startSpinning b n).setAssembly a := by
  by_cases h : s.budget.supply = .low <;>
    simp [State.startSpinning, h, State.setAssembly_modRecord, State.setAssembly_spinUp]

/-! ### The start of a spin-up -/

/-- A spindle at rest enters WAITING at the speed of its cartridge and asks for its claim (R46). -/
theorem State.spinUp_off {s : State} {b : BayId} (h : (s.bay b).spindle.state = .off) :
    s.spinUp b =
      (s.modSpindle b fun x =>
        { x with state := .waiting, nominal := nominalSpeed (s.bay b).record.typeCode }).request b .spinUp := by
  simp [State.spinUp, h]

/-- A spin-up request leaves the bay record alone. -/
@[simp] theorem State.spinUp_record (s : State) (b : BayId) : ((s.spinUp b).bay b).record = (s.bay b).record := by
  cases h : (s.bay b).spindle.state <;> simp [State.spinUp, h]

/-- While SUPPLY GOOD is low a bay that would spin up is HALTED (R15). -/
theorem State.startSpinning_low {s : State} (h : s.budget.supply = .low) (b : BayId) (n : BayState) :
    s.startSpinning b n = s.modRecord b fun r => { r with state := .halted, phase := .none } := if_pos h

/-- With the supply not low the bay enters its next state and asks for a spin-up (R7). -/
theorem State.startSpinning_powered {s : State} (h : s.budget.supply ≠ .low) (b : BayId) (n : BayState) :
    s.startSpinning b n =
      (s.modRecord b fun r => { r with state := n, trips := 0, sweepOut := false }).spinUp b := if_neg h

/-! ### The stop of the spindle -/

/-- A stop request to a spindle neither OFF nor WAITING changes the spindle alone, and is not confirmed at once (R47). -/
theorem State.askStop_turning {s : State} {b : BayId} (off : (s.bay b).spindle.state ≠ .off)
    (waiting : (s.bay b).spindle.state ≠ .waiting) :
    (s.askStop b).2 = false ∧ (s.askStop b).1.queue = s.queue ∧
      ∃ x, (s.askStop b).1.bay b = { s.bay b with spindle := x } := by
  cases h : (s.bay b).spindle.state with
  | off => exact absurd h off
  | waiting => exact absurd h waiting
  | accel | run | recover | stopping => simp only [State.askStop, h]; simp
  | recoverWait => simp only [State.askStop, h]; split <;> simp

/-- With no confirmation at once, the Bay Controller's stop request is all that happens (R56). -/
theorem State.stopSpindle_unconfirmed {s : State} {b : BayId} (h : (s.askStop b).2 = false) :
    s.stopSpindle b = (s.askStop b).1 := by
  cases k : s.askStop b with
  | mk t c => rw [k] at h; subst h; simp [State.stopSpindle, k]

/-! ### The unload -/

@[simp] theorem State.withdrawSeek_bay (s : State) (b c : BayId) : (s.withdrawSeek b).bay c = s.bay c := by
  simp only [State.withdrawSeek]; split <;> simp
@[simp] theorem State.withdrawSeek_queue (s : State) (b : BayId) : (s.withdrawSeek b).queue = s.queue := by
  simp only [State.withdrawSeek]; split <;> simp
@[simp] theorem State.releaseSeek_bay (s : State) (b c : BayId) : (s.releaseSeek b).bay c = s.bay c := by
  simp only [State.releaseSeek]; split <;> simp
@[simp] theorem State.releaseSeek_queue (s : State) (b : BayId) : (s.releaseSeek b).queue = s.queue := by
  simp only [State.releaseSeek]; split <;> simp

/-- The start of an unload changes the actuator record alone (R88). -/
@[simp] theorem State.startUnload_bay (s : State) (b : BayId) :
    (s.startUnload b).bay b = { s.bay b with
      act := { (s.bay b).act with state := .unloading, cylinder := none, seek := none, recal := .idle,
                                  recalForLoad := false, unloadMoving := true, unloadAt := s.clock } } := by
  simp only [State.startUnload]; split <;> simp
@[simp] theorem State.startUnload_queue (s : State) (b : BayId) : (s.startUnload b).queue = s.queue := by
  simp only [State.startUnload]; split <;> simp

/-- An unload request changes of its bay the actuator record alone, and leaves the Write Queue (R88). -/
theorem State.askUnload_frame (s : State) (b : BayId) :
    (s.askUnload b).1.queue = s.queue ∧ ∃ a, (s.askUnload b).1.bay b = { s.bay b with act := a } := by
  cases h : (s.bay b).act.state with
  | loading | tracking | seeking => simp only [State.askUnload, h]; simp
  | unloaded | unloading => simp only [State.askUnload, h]; split <;> simp
  | recalibrating => cases k : (s.bay b).act.recal <;> simp only [State.askUnload, h, k] <;> simp

/-! ### The drain step of PARKING -/

/-- A state whose bay stands in PARKING, and which holds the queue of another state and differs from it in the bay in the record,
the spindle and the actuator alone. -/
structure State.ParksFrom (b : BayId) (s t : State) : Prop where
  state : (t.bay b).record.state = .parking
  queue : t.queue = s.queue
  bay   : ∃ r x a, t.bay b = { s.bay b with record := r, spindle := x, act := a }

/-- The parts of its bay that a parking leaves. -/
theorem State.ParksFrom.keeps {b : BayId} {s t : State} (h : State.ParksFrom b s t) :
    (t.bay b).slot = (s.bay b).slot ∧ (t.bay b).map = (s.bay b).map := by
  obtain ⟨r, x, a, hb⟩ := h.bay
  simp [hb]

/-- UNLOADED reported in the unload step of PARKING sends a stop request, which a turning spindle does not confirm at once: the
bay stays in PARKING (R11). -/
theorem State.parksFrom_unloadedReport {s : State} {b : BayId} (parking : (s.bay b).record.state = .parking)
    (step : (s.bay b).record.parkStep = .unload) (off : (s.bay b).spindle.state ≠ .off)
    (waiting : (s.bay b).spindle.state ≠ .waiting) : State.ParksFrom b s (s.unloadedReport b) := by
  have report : s.unloadedReport b = (s.modRecord b fun r => { r with parkStep := .spindown }).stopSpindle b := by
    simp only [State.unloadedReport, parking, step, if_true]
  obtain ⟨unconfirmed, queue, x, bay⟩ :=
    State.askStop_turning (s := s.modRecord b fun r => { r with parkStep := .spindown }) (b := b)
      (by simpa using off) (by simpa using waiting)
  rw [report, State.stopSpindle_unconfirmed unconfirmed]
  exact ⟨by simp [bay, parking], by simp [queue], _, _, _, by rw [bay, State.modRecord_bay]⟩

/-- The unload request of PARKING, whether completed at once or later, leaves the bay in PARKING (R11, R88). -/
theorem State.parksFrom_unloadHeads {s : State} {b : BayId} (parking : (s.bay b).record.state = .parking)
    (step : (s.bay b).record.parkStep = .unload) (off : (s.bay b).spindle.state ≠ .off)
    (waiting : (s.bay b).spindle.state ≠ .waiting) : State.ParksFrom b s (s.unloadHeads b) := by
  obtain ⟨queue, a, bay⟩ := s.askUnload_frame b
  simp only [State.unloadHeads]
  split <;> rename_i t asked <;> simp only [asked] at bay queue
  · obtain ⟨state, queue', r, x, a', bay'⟩ :=
      State.parksFrom_unloadedReport (s := t) (b := b) (by rw [bay]; exact parking) (by rw [bay]; exact step)
        (by rw [bay]; exact off) (by rw [bay]; exact waiting)
    exact ⟨state, queue'.trans queue, r, x, a', by rw [bay', bay]⟩
  · exact ⟨by rw [bay]; exact parking, queue, _, _, a, bay⟩

/-- With items of the bay in the queue, or media work in its slot, the drain goes on (R11). -/
theorem State.checkDrain_waits {s : State} {b : BayId}
    (h : s.queue.drained b = false ∨ (s.bay b).slot.mediaWork = true) : s.checkDrain b = s := by
  have : ¬ (s.queue.drained b = true ∧ (s.bay b).slot.mediaWork = false ∧ (s.bay b).media.op = none) := by
    rintro ⟨drained, work, -⟩
    rcases h with h | h
    · simp [h] at drained
    · simp [h] at work
  simp only [State.checkDrain, if_neg this]

/-- The drain test leaves a bay in PARKING there, whether the drain goes on or ends (R11). -/
theorem State.parksFrom_checkDrain {s : State} {b : BayId} (parking : (s.bay b).record.state = .parking)
    (off : (s.bay b).spindle.state ≠ .off) (waiting : (s.bay b).spindle.state ≠ .waiting) :
    State.ParksFrom b s (s.checkDrain b) := by
  have stays : State.ParksFrom b s s := ⟨parking, rfl, _, _, _, rfl⟩
  simp only [State.checkDrain, parking]
  split
  · split
    · obtain ⟨state, queue, r, x, a, bay⟩ :=
        State.parksFrom_unloadHeads (s := s.modRecord b fun r => { r with parkStep := .unload }) (b := b)
          (by simpa using parking) (by simp) (by simpa using off) (by simpa using waiting)
      exact ⟨state, by simpa using queue, r, x, a, by rw [bay, State.modRecord_bay]⟩
    · exact stays
  · exact stays

/-- A bay that enters PARKING with its spindle turning stands in PARKING after the drain test too (R11). -/
theorem State.parksFrom_enterParking {s : State} {b : BayId} (off : (s.bay b).spindle.state ≠ .off)
    (waiting : (s.bay b).spindle.state ≠ .waiting) :
    State.ParksFrom b s ((s.modRecord b fun r => { r with state := .parking, parkStep := .drain }).checkDrain b) := by
  obtain ⟨state, queue, r, x, a, bay⟩ :=
    State.parksFrom_checkDrain (s := s.modRecord b fun r => { r with state := .parking, parkStep := .drain }) (b := b)
      (by simp) (by simpa using off) (by simpa using waiting)
  exact ⟨state, by simpa using queue, r, x, a, by rw [bay, State.modRecord_bay]⟩

end Sys2Proof.Machine
end

section
/-!
PROOFS. START and STOP in every bay state (R10): one equation for each row of the two tables, and the statement.
-/

namespace Sys2Proof.Machine

theorem exec_start (bay : Byte) (s : State) : exec (.start bay) s = execStart bay s := by rfl
theorem exec_stop (bay : Byte) (s : State) : exec (.stop bay) s = execStop bay s := by rfl

/-! ### START -/

/-- START in INSERTED or PARKED clears the attempts and starts a spin-up. -/
theorem exec_start_spins {s : State} {b : BayId} (h : s.receives = true)
    (hs : (s.bay b).record.state ∈ [BayState.inserted, .parked]) :
    exec (.start b.field) s =
      .next (((s.modRecord b fun r => { r with attempts := 0 }).startSpinning b .spinning).replied 0x10 b.field .ok) := by
  rw [exec_start, execStart, State.forBay_field h, State.setAssembly_bay, State.setAssembly_modRecord,
    State.setAssembly_startSpinning, State.respond_idle]
  simp only [List.mem_cons, List.not_mem_nil, or_false] at hs
  rcases hs with hs | hs <;> rw [hs]

/-- START in a bay already spinning up, or further on, is OK with no effect. -/
theorem exec_start_done {s : State} {b : BayId} (h : s.receives = true)
    (hs : (s.bay b).record.state ∈ [BayState.spinning, .loading, .mounting, .ready, .raw, .cleaning]) :
    exec (.start b.field) s = .next (s.replied 0x10 b.field .ok) := by
  rw [exec_start, execStart, State.forBay_field h, State.setAssembly_bay, State.respond_idle]
  simp only [List.mem_cons, List.not_mem_nil, or_false] at hs
  rcases hs with hs | hs | hs | hs | hs | hs <;> rw [hs]

/-- START in the other states is refused. -/
theorem exec_start_refused {s : State} {b : BayId} (h : s.receives = true)
    (hs : (s.bay b).record.state ∈ [BayState.empty, .parking, .ejecting, .halted, .fault]) :
    exec (.start b.field) s = .next (s.replied 0x10 b.field .notReady) := by
  rw [exec_start, execStart, State.forBay_field h, State.setAssembly_bay, State.respond_idle s _ _ .notReady]
  simp only [List.mem_cons, List.not_mem_nil, or_false] at hs
  rcases hs with hs | hs | hs | hs | hs <;> rw [hs]

/-- A bay started under power is SPINNING with its attempts cleared and its standing kept, whatever its spindle does. -/
theorem State.start_record {s : State} (h : s.budget.supply ≠ .low) (b : BayId) :
    ((((s.modRecord b fun r => { r with attempts := 0 }).startSpinning b .spinning).bay b).record) =
      { (s.bay b).record with attempts := 0, state := .spinning, trips := 0, sweepOut := false } := by
  rw [State.startSpinning_powered (by simpa using h)]
  simp

/-! ### STOP -/

/-- STOP in READY or RAW enters the drain step of PARKING, and the drain is tested at once (R11). -/
theorem exec_stop_parks {s : State} {b : BayId} (h : s.receives = true)
    (hs : (s.bay b).record.state ∈ [BayState.ready, .raw]) :
    exec (.stop b.field) s = .next ((((s.setAssembly .idle).modRecord b fun r =>
      { r with state := .parking, parkStep := .drain }).checkDrain b).respond 0x11 b.field .ok) := by
  rw [exec_stop, execStop, State.forBay_field h, State.setAssembly_bay]
  simp only [List.mem_cons, List.not_mem_nil, or_false] at hs
  rcases hs with hs | hs <;> rw [hs]

/-- STOP in PARKING or PARKED is OK with no effect. -/
theorem exec_stop_done {s : State} {b : BayId} (h : s.receives = true)
    (hs : (s.bay b).record.state ∈ [BayState.parking, .parked]) :
    exec (.stop b.field) s = .next (s.replied 0x11 b.field .ok) := by
  rw [exec_stop, execStop, State.forBay_field h, State.setAssembly_bay, State.respond_idle s _ _ .ok]
  simp only [List.mem_cons, List.not_mem_nil, or_false] at hs
  rcases hs with hs | hs <;> rw [hs]

/-- STOP in the other states is refused. -/
theorem exec_stop_refused {s : State} {b : BayId} (h : s.receives = true)
    (hs : (s.bay b).record.state ∈
      [BayState.empty, .inserted, .spinning, .loading, .mounting, .cleaning, .ejecting, .halted, .fault]) :
    exec (.stop b.field) s = .next (s.replied 0x11 b.field .notReady) := by
  rw [exec_stop, execStop, State.forBay_field h, State.setAssembly_bay, State.respond_idle s _ _ .notReady]
  simp only [List.mem_cons, List.not_mem_nil, or_false] at hs
  rcases hs with hs | hs | hs | hs | hs | hs | hs | hs | hs <;> rw [hs]

/-- With work of the bay left, STOP does no more than enter the drain step. -/
theorem exec_stop_waits {s : State} {b : BayId} (h : s.receives = true)
    (hs : (s.bay b).record.state ∈ [BayState.ready, .raw])
    (work : s.queue.drained b = false ∨ (s.bay b).slot.mediaWork = true) :
    exec (.stop b.field) s =
      .next ((s.modRecord b fun r => { r with state := .parking, parkStep := .drain }).replied 0x11 b.field .ok) := by
  rw [exec_stop_parks h hs, State.checkDrain_waits (by simpa using work), State.setAssembly_modRecord, State.respond_idle]

/-- STOP under a turning spindle leaves the bay in PARKING, with its slot, its table, the queue and the other bay untouched. -/
theorem exec_stop_parking {s : State} {b : BayId} (h : s.receives = true)
    (hs : (s.bay b).record.state ∈ [BayState.ready, .raw]) (off : (s.bay b).spindle.state ≠ .off)
    (waiting : (s.bay b).spindle.state ≠ .waiting) :
    ∃ t, exec (.stop b.field) s = .next t ∧ (t.bay b).record.state = .parking ∧ t.queue = s.queue ∧
      (t.bay b).slot = (s.bay b).slot ∧ (t.bay b).map = (s.bay b).map ∧ t.bay b.other = s.bay b.other ∧
      t.link.reply = some { status := .ok, code := 0x11, bay := b.field, body := [] } := by
  have parks := State.parksFrom_enterParking (s := s.setAssembly .idle) (b := b) (by simpa using off) (by simpa using waiting)
  obtain ⟨slot, map⟩ := parks.keeps
  refine ⟨_, exec_stop_parks h hs, ?_⟩
  simp only [State.respond_bay]
  exact ⟨parks.state, parks.queue, by simpa using slot, by simpa using map,
    (State.Within.other (s := s.setAssembly .idle) (by simp)).trans (State.setAssembly_bay ..), rfl⟩

/-- Settles O20: each row of the two tables by its own equation, and the two rows with an effect by what a spin-up and the drain
step of PARKING leave. -/
theorem startAndStop : Obligations.StartAndStop := by
  intro s b h
  refine ⟨?spinsFromRest, ?spins, ?halts, exec_start_done h, exec_start_refused h, exec_stop_waits h, exec_stop_parking h,
    exec_stop_done h, exec_stop_refused h⟩
  case spinsFromRest =>
    intro hs powered off
    rw [exec_start_spins h hs, State.startSpinning_powered (by simpa using powered), State.spinUp_off (by simpa using off)]
    simp
  case spins =>
    intro hs powered
    refine ⟨_, exec_start_spins h hs, ?_⟩
    simp [State.start_record powered]
  case halts =>
    intro hs low
    rw [exec_start_spins h hs, State.startSpinning_low (by simpa using low)]

end Sys2Proof.Machine
end

section
/-!
PROOFS. A seek attempt that fails (R85): the rules of the updates it makes, in the order of its steps, and the statement.
-/

namespace Sys2Proof.Machine

theorem exec_seekTimeout (b : BayId) (s : State) : exec (.seekTimeout b) s = execSeekTimeout b s := by rfl
theorem exec_servoLoss (b : BayId) (s : State) : exec (.servoLoss b) s = execServoLoss b s := by rfl

/-! ### The actuator record beside the counters and the latches -/

/-- A change of the actuator record puts in its place what it makes of the record held. -/
theorem State.modAct_const (s : State) (b : BayId) (f : Actuator → Actuator) :
    s.modAct b f = s.modAct b fun _ => f (s.bay b).act := by cases b <;> rfl

theorem State.modAct_latchCounter (s : State) (b : BayId) (n : CounterName) (f : Actuator → Actuator) :
    (s.modAct b f).latchCounter b n = (s.latchCounter b n).modAct b f := by cases b <;> rfl
theorem State.modAct_modCounters (s : State) (b : BayId) (f : Actuator → Actuator) (g : Counters → Counters) :
    (s.modAct b f).modCounters b g = (s.modCounters b g).modAct b f := by cases b <;> rfl
theorem State.latch_modAct (s : State) (b : BayId) (e : BayEvent) (f : Actuator → Actuator) :
    (s.latch b e).modAct b f = (s.modAct b f).latch b e := by cases b <;> rfl

/-- A counter rises alike before and after a change of the actuator record. -/
theorem State.modAct_raise (s : State) (b : BayId) (n : CounterName) (k : Nat) (f : Actuator → Actuator) :
    (s.modAct b f).raise b n k = (s.raise b n k).modAct b f := by
  simp only [State.raise, State.modAct_modCounters, State.modAct_latchCounter, State.modAct_bay]
  split <;> rfl

@[simp] theorem State.raise_act (s : State) (b : BayId) (n : CounterName) (k : Nat) :
    ((s.raise b n k).bay b).act = (s.bay b).act := by
  rcases State.raise_cases s b n k with h | h <;> rw [h] <;> simp [State.latchCounter]
@[simp] theorem State.raise_settings (s : State) (b : BayId) (n : CounterName) (k : Nat) :
    (s.raise b n k).settings = s.settings := by
  rcases State.raise_cases s b n k with h | h <;> rw [h] <;> simp [State.latchCounter]

/-! ### The plan and the claim of the attempt -/

/-- A seek in hand runs while the actuator is SEEKING. -/
theorem Actuator.runningSeek_seeking {x : Actuator} (h : x.state = .seeking) : x.runningSeek = x.seek := if_pos h

/-- A plan in force takes the outcome (R72). -/
theorem Actuator.endPlan_inForce {x : Actuator} {p : Plan} (plan : x.plan = some p) (force : p.outcome = .inForce)
    (o : PlanOutcome) : x.endPlan o = { x with plan := some { p with outcome := o } } := by
  simp [Actuator.endPlan, plan, force]

@[simp] theorem State.releaseSeek_settings (s : State) (b : BayId) : (s.releaseSeek b).settings = s.settings := by
  simp only [State.releaseSeek]; split <;> simp

/-- The claim of a seek is released unless its distance is 0. -/
theorem State.releaseSeek_plan {s : State} {b : BayId} {p : Plan} (plan : (s.bay b).act.plan = some p) :
    s.releaseSeek b = if p.distance = 0 then s else s.release b .actuator := by
  by_cases h : p.distance = 0 <;> simp [State.releaseSeek, Actuator.seekHoldsClaim, plan, h]

/-! ### The downshift test -/

/-- The downshift test as one change of the actuator record, and a latch if F rises. -/
theorem State.downshiftTest_eq (s : State) (b : BayId) :
    let low := s.settings.downshiftThreshold ≤ (s.bay b).act.failures
    let shifts := low ∧ (s.bay b).act.downshift < 3
    let t := s.modAct b fun x =>
      { x with failures := if low then 0 else x.failures, downshift := if shifts then x.downshift + 1 else x.downshift }
    s.downshiftTest b = if shifts then t.latch b .downshift else t := by
  intro low shifts t
  by_cases h : low
  · by_cases room : (s.bay b).act.downshift < 3 <;> simp [State.downshiftTest, t, shifts, low, room, h]
  · have unchanged : t = s := by
      simp only [t, shifts, h, false_and, if_false]
      exact State.modBay_id s b
    simp only [unchanged, shifts, h, false_and, if_false]
    exact if_neg h

/-! ### The attempt that fails -/

/-- The actuator record can be changed before a latch that an event may set. -/
theorem State.latchIf_modAct (s : State) (b : BayId) (e : BayEvent) (c : Prop) [Decidable c] (f : Actuator → Actuator) :
    (if c then s.latch b e else s).modAct b f = if c then (s.modAct b f).latch b e else s.modAct b f := by
  split
  · exact State.latch_modAct s b e f
  · rfl

/-- R85 with its changes of the actuator record gathered into one, behind the claim and SEEK RETRIES. -/
theorem State.seekFails_eq (s : State) (b : BayId) (q : SeekInHand) (o : PlanOutcome) :
    let x := (s.bay b).act
    let n := min 8 (x.failures + 1)
    let low := s.settings.downshiftThreshold ≤ n
    let shifts := low ∧ x.downshift < 3
    let t := ((s.releaseSeek b).raise b .seekRetries 1).modAct b fun _ =>
      { x with
        state := .recalibrating, cylinder := none, recal := .waiting, recalForLoad := false
        seek := some { q with standing := .retrying }, plan := (x.endPlan o).plan, failures := if low then 0 else n
        upshiftRun := 0, downshift := if shifts then x.downshift + 1 else x.downshift }
    s.seekFails b q o = (if shifts then t.latch b .downshift else t).request b .recalibrate := by
  have act : (((s.releaseSeek b).raise b .seekRetries 1).bay b).act = (s.bay b).act := by simp
  have settings : ((s.releaseSeek b).raise b .seekRetries 1).settings = s.settings := by simp
  simp only [State.seekFails, State.askRecal, State.modAct_raise, State.downshiftTest_eq, State.latchIf_modAct,
    State.modAct_modAct, State.modAct_bay, State.modAct_settings, act, settings]
  rw [State.modAct_const, act]
  rfl

/-- Settles O41: both events fail the attempt alike, with a plan in force, which takes the outcome and whose distance says
whether a claim is held. -/
theorem seekAttemptsFail : Obligations.SeekAttemptsFail := by
  intro s b q p y seeking seek plan force failed
  have running : y.act.runningSeek = some q := (Actuator.runningSeek_seeking seeking).trans seek
  have fails (o : PlanOutcome) : Host.Outcome.next (s.seekFails b q o) = failed o := by
    rw [State.seekFails_eq, State.releaseSeek_plan plan, Actuator.endPlan_inForce plan force]
  constructor
  · rw [exec_seekTimeout, execSeekTimeout, running, ← fails]
  · rw [exec_servoLoss, execServoLoss, running, ← fails]

end Sys2Proof.Machine
end

section
/-!
SUPPORT. The remap table read by index (R106): its list of entries, the first entry that meets a condition, the duplicate check,
and an edit. The blocks an edit touches beside the WRITING entries of the Write Queue (R114).
-/

namespace Sys2Proof.Machine

/-! ### The entries by index -/

/-- The entry at an index of the table is the table's entry there. -/
@[simp] theorem RemapTable.at_val (t : RemapTable) (i : Fin 64) : t.at i.val = t.entries[i] := by
  simp [RemapTable.at]

theorem RemapTable.indexed_eq (t : RemapTable) : t.indexed = (List.finRange 64).map fun i => (i.val, t.entries[i]) := by
  apply List.ext_getElem
  · simp [RemapTable.indexed]
  · intro i _ _
    simp [RemapTable.indexed]

/-- An index of the table divides its list: before it stand the entries of the lower indices alone. -/
theorem RemapTable.indexed_split (t : RemapTable) (i : Fin 64) :
    ∃ low high, t.indexed = low ++ (i.val, t.entries[i]) :: high ∧ ∀ p ∈ low, ∃ j < i, p = (j.val, t.entries[j]) := by
  obtain ⟨low, high, split⟩ := List.append_of_mem (List.mem_finRange i)
  have sorted := List.pairwise_lt_finRange 64
  rw [split, List.pairwise_append] at sorted
  obtain ⟨-, -, below⟩ := sorted
  refine ⟨low.map fun j => (j.val, t.entries[j]), high.map fun j => (j.val, t.entries[j]), ?_, ?_⟩
  · simp only [RemapTable.indexed_eq, split, List.map_append, List.map_cons]
  · intro p hp
    obtain ⟨j, hj, rfl⟩ := List.mem_map.1 hp
    exact ⟨j, below j hj i List.mem_cons_self, rfl⟩

/-! ### Lookups -/

/-- The first valid entry of a block is the one found (R110). -/
theorem RemapTable.find_first {t : RemapTable} {i : Fin 64} {m : MapEntry} {n : Nat} (here : t.entries[i] = some m)
    (holds : m.block = n) (first : ∀ j < i, ∀ k, t.entries[j] = some k → k.block ≠ n) : t.find n = some (i.val, m) := by
  obtain ⟨low, high, split, below⟩ := t.indexed_split i
  refine List.findSome?_eq_some_iff.2 ⟨low, _, high, split, by simp [here, holds], fun p hp => ?_⟩
  obtain ⟨j, hj, rfl⟩ := below p hp
  simpa using first j hj

/-- With no valid entry of a block, none is found (R110). -/
theorem RemapTable.find_none {t : RemapTable} {n : Nat} (absent : ∀ (j : Fin 64) k, t.entries[j] = some k → k.block ≠ n) :
    t.find n = none := by
  refine List.findSome?_eq_none_iff.2 fun p hp => ?_
  rw [RemapTable.indexed_eq] at hp
  obtain ⟨j, -, rfl⟩ := List.mem_map.1 hp
  simpa using absent j

/-- The first invalid index is the lowest (R112). -/
theorem RemapTable.lowestInvalid_first {t : RemapTable} {i : Fin 64} (here : t.entries[i] = none)
    (first : ∀ j < i, t.entries[j] ≠ none) : t.lowestInvalid = some i.val := by
  obtain ⟨low, high, split, below⟩ := t.indexed_split i
  have found : t.indexed.find? (fun p => p.2.isNone) = some (i.val, t.entries[i]) := by
    refine List.find?_eq_some_iff_append.2 ⟨by simp [here], low, high, split, fun p hp => ?_⟩
    obtain ⟨j, hj, rfl⟩ := below p hp
    simpa [Option.isSome_iff_ne_none] using first j hj
  exact congrArg (Option.map Prod.fst) found

/-- A table with no invalid index has no lowest one (R112). -/
theorem RemapTable.lowestInvalid_full {t : RemapTable} (full : ∀ i : Fin 64, t.entries[i] ≠ none) : t.lowestInvalid = none := by
  have none_found : t.indexed.find? (fun p => p.2.isNone) = none := by
    refine List.find?_eq_none.2 fun p hp => ?_
    rw [RemapTable.indexed_eq] at hp
    obtain ⟨j, -, rfl⟩ := List.mem_map.1 hp
    simpa using full j
  exact congrArg (Option.map Prod.fst) none_found

/-- A duplicate is a valid entry at another index than the one excepted, with the block or the spare (R109, step 5). -/
theorem RemapTable.duplicates_iff {t : RemapTable} {except : Option Nat} {n spare : Nat} :
    t.duplicates except n spare = true ↔
      ∃ (j : Fin 64) (m : MapEntry), some j.val ≠ except ∧ t.entries[j] = some m ∧ (m.block = n ∨ m.spare = spare) := by
  simp [RemapTable.duplicates, RemapTable.indexed_eq, Option.any_eq_true]

/-! ### Edits -/

/-- An edit at an index of the table sets its entry there, the dirty flag and the marker. -/
theorem RemapTable.edit_val (t : RemapTable) (i : Fin 64) (e : Option MapEntry) :
    t.edit i.val e = { t with entries := t.entries.set i e, dirty := true, edited := true } := by
  have entries : t.entries.setIfInBounds i.val e = t.entries.set i e :=
    Vector.toArray_inj.1 (by simp [Array.setIfInBounds])
  rw [RemapTable.edit, entries]

/-- The WRITING entries of a block (R114). -/
theorem WriteQueue.writingBlock_iff {q : WriteQueue} {b : BayId} {n : Nat} :
    q.writingBlock b n = true ↔ ∃ e ∈ entriesOf q.items, e.bay = b ∧ e.block = n ∧ e.writing = true := by
  simp [WriteQueue.writingBlock]

/-- MAP WRITE is BUSY for the block it names and for the block of a valid entry it replaces (R114). -/
theorem State.mapBusy_write {s : State} {b : BayId} {t : RemapTable} {i : Fin 64} {n : Nat} :
    s.mapBusy b (t.touchedByWrite i.val n) = true ↔
      s.queue.writingBlock b n = true ∨ ∃ m, t.entries[i] = some m ∧ s.queue.writingBlock b m.block = true := by
  cases h : t.entries[i] <;> simp [State.mapBusy, RemapTable.touchedByWrite, RemapTable.at_val, h]

/-- MAP WRITE ANY touches the block it names alone (R114). -/
theorem State.mapBusy_single (s : State) (b : BayId) (n : Nat) : s.mapBusy b [n] = s.queue.writingBlock b n := by
  simp [State.mapBusy]

/-- MAP CLEAR touches the block of a valid entry (R114). -/
theorem State.mapBusy_clear (s : State) (b : BayId) (t : RemapTable) (i : Nat) :
    s.mapBusy b (t.touchedByClear i) = (t.at i).any fun m => s.queue.writingBlock b m.block := by
  cases h : t.at i <;> simp [State.mapBusy, RemapTable.touchedByClear, h]

end Sys2Proof.Machine
end

section
/-!
SUPPORT. The judgement of a map message (R109) and its answers: which check refuses it, and the reply of one accepted.
-/

namespace Sys2Proof.Machine

/-! ### The checks of R109 -/

/-- The map messages go on in READY and RAW. -/
theorem BayState.refusesMedia_works {x : BayState} (works : x = .ready ∨ x = .raw) : x.refusesMedia = none := by
  rcases works with rfl | rfl <;> rfl

/-- In the other states they are refused, EJECTING in EJECTING and NOT READY elsewhere. -/
theorem BayState.refusesMedia_else {x : BayState} (works : ¬ (x = .ready ∨ x = .raw)) :
    x.refusesMedia = some (if x = .ejecting then .ejecting else .notReady) := by
  cases x with
  | ready | raw => simp at works
  | ejecting => rfl
  | _ => rfl

/-- The range check of a block by the block count of each type (R1, R4). -/
theorem blockOk_iff {typeCode n : Nat} :
    blockOk typeCode n = true ↔ n < (if typeCode = 1 then 18960 else if typeCode = 2 then 38160 else 0) := by
  have count : blockCount typeCode = if typeCode = 1 then 18960 else if typeCode = 2 then 38160 else 0 := by
    unfold blockCount; split <;> simp_all
  rw [blockOk, decide_eq_true_iff, count]

theorem spareOk_iff {n : Nat} : spareOk n = true ↔ n ≤ 191 := by simp [spareOk]

/-- An index up to 63, or none, passes the check of the index. -/
theorem not_any_past {index : Option Nat} (low : ∀ i ∈ index, i ≤ 63) : ¬ (index.any fun i => decide (64 ≤ i)) = true := by
  simpa [Option.any_eq_true, Nat.lt_succ_iff] using low

/-- An index past 63 is the first figure refused. -/
theorem mapFigures_index {typeCode i : Nat} {block spare : Option Nat} (high : 63 < i) :
    mapFigures typeCode (some i) block spare = some .badValue := if_pos (decide_eq_true high)

/-- A block out of range is refused after the index. -/
theorem mapFigures_block {typeCode n : Nat} {index spare : Option Nat} (low : ∀ i ∈ index, i ≤ 63)
    (bad : ¬ blockOk typeCode n = true) : mapFigures typeCode index (some n) spare = some .badAddress := by
  rw [mapFigures, if_neg (not_any_past low), if_pos (by simpa using bad)]

/-- A spare index past 191 is refused last. -/
theorem mapFigures_spare {typeCode n k : Nat} {index : Option Nat} (low : ∀ i ∈ index, i ≤ 63)
    (good : blockOk typeCode n = true) (high : 191 < k) : mapFigures typeCode index (some n) (some k) = some .badAddress := by
  rw [mapFigures, if_neg (not_any_past low), if_neg (by simpa using good), if_pos (by simpa [spareOk] using high)]

/-- Figures in range are not refused. -/
theorem mapFigures_pass {typeCode : Nat} {index block spare : Option Nat} (low : ∀ i ∈ index, i ≤ 63)
    (good : ∀ n ∈ block, blockOk typeCode n = true) (small : ∀ k ∈ spare, k ≤ 191) :
    mapFigures typeCode index block spare = none := by
  rw [mapFigures, if_neg (not_any_past low), if_neg (by simpa [Option.any_eq_true] using good),
    if_neg (by simpa [Option.any_eq_true, spareOk] using small)]

/-- The refusal of a map message by the bay state and, in READY and RAW, by the figures it names. -/
def State.mapRefusal (s : State) (b : BayId) (index block spare : Option Nat) : Option ReplyStatus :=
  (s.bay b).record.state.refusesMedia.or (mapFigures (s.bay b).record.typeCode index block spare)

section
variable {s : State} {b : BayId} {index block spare : Option Nat} {n : Nat}

/-- A message refused by the state or by its figures is answered so, and changes nothing. -/
theorem State.mapMessage_refused {r : ReplyStatus} (h : s.receives = true) (code : Byte) (act : State → BayId → State)
    (refusal : s.mapRefusal b index block spare = some r) :
    s.mapMessage code b.field index block spare act = s.replied code b.field r := by
  rw [State.mapMessage, State.forBay_field h, State.setAssembly_bay]
  rcases Option.or_eq_some_iff.1 refusal with state | ⟨state, figures⟩
  · rw [state]
    exact State.respond_idle ..
  · rw [state, figures]
    exact State.respond_idle ..

/-- A message that passes the state and its figures goes on to its own rule. -/
theorem State.mapMessage_judged (h : s.receives = true) (code : Byte) (act : State → BayId → State)
    (passes : s.mapRefusal b index block spare = none) :
    s.mapMessage code b.field index block spare act = act (s.setAssembly .idle) b := by
  obtain ⟨state, figures⟩ := Option.or_eq_none_iff.1 passes
  rw [State.mapMessage, State.forBay_field h, State.setAssembly_bay, state, figures]

/-- The state is judged before any figure. -/
theorem State.mapRefusal_state (works : ¬ ((s.bay b).record.state = .ready ∨ (s.bay b).record.state = .raw)) :
    s.mapRefusal b index block spare =
      some (if (s.bay b).record.state = .ejecting then .ejecting else .notReady) := by
  rw [State.mapRefusal, BayState.refusesMedia_else works, Option.some_or]

variable (works : (s.bay b).record.state = .ready ∨ (s.bay b).record.state = .raw)
include works

/-- In READY and RAW the figures decide. -/
theorem State.mapRefusal_works :
    s.mapRefusal b index block spare = mapFigures (s.bay b).record.typeCode index block spare := by
  rw [State.mapRefusal, BayState.refusesMedia_works works, Option.none_or]

end

end Sys2Proof.Machine
end

section
/-!
PROOFS. The map messages (R109 to R115): one equation for each message that passes its checks, and the statement.
-/

namespace Sys2Proof.Machine

theorem exec_mapProbe (bay : Byte) (block : BitVec 16) (s : State) :
    exec (.mapProbe bay block) s = execMapProbe bay block s := by rfl
theorem exec_mapRead (bay index : Byte) (s : State) : exec (.mapRead bay index) s = execMapRead bay index s := by rfl
theorem exec_mapWrite (bay index : Byte) (block : BitVec 16) (spare : Byte) (s : State) :
    exec (.mapWrite bay index block spare) s = execMapWrite bay index block spare s := by rfl
theorem exec_mapWriteAny (bay : Byte) (block : BitVec 16) (spare : Byte) (s : State) :
    exec (.mapWriteAny bay block spare) s = execMapWriteAny bay block spare s := by rfl
theorem exec_mapClear (bay index : Byte) (s : State) : exec (.mapClear bay index) s = execMapClear bay index s := by rfl

/-! ### The reply of an accepted map message -/

/-- A state once a map message has been accepted: a bay holds a table, and the reply carries an answer and its summary. -/
def State.mapAnswered (s : State) (code : Byte) (b : BayId) (status : ReplyStatus) (m : RemapTable) (answer : List Byte) : State :=
  (s.modMap b fun _ => m).replied code b.field status (answer ++ m.summary)

/-- An edit is answered with the summary of the table it leaves (R109). -/
theorem State.mapReply_edited (s : State) (code : Byte) (b : BayId) (status : ReplyStatus) (f : RemapTable → RemapTable)
    (answer : List Byte) :
    ((s.setAssembly .idle).modMap b f).mapReply code b.field b status answer =
      s.mapAnswered code b status (f (s.bay b).map) answer := by cases b <;> rfl

/-- A message that changes nothing is answered with the summary of the table as it stands (R109). -/
theorem State.mapReply_unchanged (s : State) (code : Byte) (b : BayId) (status : ReplyStatus) (answer : List Byte) :
    (s.setAssembly .idle).mapReply code b.field b status answer = s.mapAnswered code b status (s.bay b).map answer := by
  cases b <;> rfl

/-! ### The messages that pass their checks -/

section
variable {s : State} {b : BayId} {index : Byte} {block : BitVec 16} {spare : Byte} (h : s.receives = true)
include h

theorem exec_mapProbe_judged (passes : s.mapRefusal b none (some block.toNat) none = none) :
    exec (.mapProbe b.field block) s = .next (((s.bay b).map.find block.toNat).elim
      (s.mapAnswered 0x20 b .notFound (s.bay b).map []) fun p =>
        s.mapAnswered 0x20 b .ok (s.bay b).map [BitVec.ofNat 8 p.1, BitVec.ofNat 8 p.2.spare]) := by
  rw [exec_mapProbe, execMapProbe, State.mapMessage_judged h _ _ passes, State.setAssembly_bay]
  cases (s.bay b).map.find block.toNat <;> exact congrArg _ (State.mapReply_unchanged ..)

theorem exec_mapRead_judged (passes : s.mapRefusal b (some index.toNat) none none = none) :
    exec (.mapRead b.field index) s = .next (((s.bay b).map.at index.toNat).elim
      (s.mapAnswered 0x21 b .ok (s.bay b).map [0#8]) fun m => s.mapAnswered 0x21 b .ok (s.bay b).map
        [1#8, BitVec.ofNat 8 m.block, BitVec.ofNat 8 (m.block / 256), BitVec.ofNat 8 m.spare]) := by
  rw [exec_mapRead, execMapRead, State.mapMessage_judged h _ _ passes, State.setAssembly_bay]
  cases (s.bay b).map.at index.toNat <;> exact congrArg _ (State.mapReply_unchanged ..)

theorem exec_mapWrite_judged
    (passes : s.mapRefusal b (some index.toNat) (some block.toNat) (some spare.toNat) = none) :
    exec (.mapWrite b.field index block spare) s = .next (
      if s.mapBusy b ((s.bay b).map.touchedByWrite index.toNat block.toNat) then s.replied 0x22 b.field .busy
      else if (s.bay b).map.duplicates (some index.toNat) block.toNat spare.toNat then s.replied 0x22 b.field .duplicate
      else s.mapAnswered 0x22 b .ok
        ((s.bay b).map.edit index.toNat (some { block := block.toNat, spare := spare.toNat })) []) := by
  rw [exec_mapWrite, execMapWrite, State.mapMessage_judged h _ _ passes]
  simp only [State.setAssembly_bay, State.mapReply_edited, State.respond_idle]
  rfl

theorem exec_mapWriteAny_judged (passes : s.mapRefusal b none (some block.toNat) (some spare.toNat) = none) :
    exec (.mapWriteAny b.field block spare) s = .next (
      if s.queue.writingBlock b block.toNat then s.replied 0x23 b.field .busy
      else if (s.bay b).map.duplicates none block.toNat spare.toNat then s.replied 0x23 b.field .duplicate
      else (s.bay b).map.lowestInvalid.elim (s.replied 0x23 b.field .tableFull) fun i => s.mapAnswered 0x23 b .ok
        ((s.bay b).map.edit i (some { block := block.toNat, spare := spare.toNat })) [BitVec.ofNat 8 i]) := by
  rw [exec_mapWriteAny, execMapWriteAny, State.mapMessage_judged h _ _ passes]
  simp only [State.mapBusy_single, State.setAssembly_queue, State.setAssembly_bay, State.mapReply_edited, State.respond_idle]
  cases (s.bay b).map.lowestInvalid <;> rfl

theorem exec_mapClear_judged (passes : s.mapRefusal b (some index.toNat) none none = none) :
    exec (.mapClear b.field index) s = .next (((s.bay b).map.at index.toNat).elim
      (s.mapAnswered 0x24 b .ok (s.bay b).map []) fun m =>
        if s.queue.writingBlock b m.block then s.replied 0x24 b.field .busy
        else s.mapAnswered 0x24 b .ok ((s.bay b).map.edit index.toNat none) []) := by
  rw [exec_mapClear, execMapClear, State.mapMessage_judged h _ _ passes]
  simp only [State.mapBusy_clear, State.setAssembly_queue, State.setAssembly_bay, State.mapReply_edited,
    State.mapReply_unchanged, State.respond_idle]
  cases (s.bay b).map.at index.toNat <;> rfl

/-! ### The messages refused -/

theorem exec_mapProbe_refused {r : ReplyStatus} (refusal : s.mapRefusal b none (some block.toNat) none = some r) :
    exec (.mapProbe b.field block) s = .next (s.replied 0x20 b.field r) :=
  (exec_mapProbe ..).trans (congrArg _ (State.mapMessage_refused h _ _ refusal))
theorem exec_mapRead_refused {r : ReplyStatus} (refusal : s.mapRefusal b (some index.toNat) none none = some r) :
    exec (.mapRead b.field index) s = .next (s.replied 0x21 b.field r) :=
  (exec_mapRead ..).trans (congrArg _ (State.mapMessage_refused h _ _ refusal))
theorem exec_mapWrite_refused {r : ReplyStatus}
    (refusal : s.mapRefusal b (some index.toNat) (some block.toNat) (some spare.toNat) = some r) :
    exec (.mapWrite b.field index block spare) s = .next (s.replied 0x22 b.field r) :=
  (exec_mapWrite ..).trans (congrArg _ (State.mapMessage_refused h _ _ refusal))
theorem exec_mapWriteAny_refused {r : ReplyStatus}
    (refusal : s.mapRefusal b none (some block.toNat) (some spare.toNat) = some r) :
    exec (.mapWriteAny b.field block spare) s = .next (s.replied 0x23 b.field r) :=
  (exec_mapWriteAny ..).trans (congrArg _ (State.mapMessage_refused h _ _ refusal))
theorem exec_mapClear_refused {r : ReplyStatus} (refusal : s.mapRefusal b (some index.toNat) none none = some r) :
    exec (.mapClear b.field index) s = .next (s.replied 0x24 b.field r) :=
  (exec_mapClear ..).trans (congrArg _ (State.mapMessage_refused h _ _ refusal))

end

end Sys2Proof.Machine
end

section
/-!
PROOFS. The statement of the map messages, its cases in the order of the checks of R109.
-/

namespace Sys2Proof.Machine

/-- Settles O52: a case that refuses names the check that fails; in the others the message has passed its checks, and the state
of the table and of the Write Queue decides its answer. -/
theorem mapMessages : Obligations.MapMessages := by
  intro s b index block spare h y t n entry probe read write any clear answer refused edited works inRange writing taken
  have noFigure {p : Nat → Prop} : ∀ i ∈ (none : Option Nat), p i := by simp
  have figures {i k l : Option Nat} (hw : works) : s.mapRefusal b i k l = mapFigures y.record.typeCode i k l :=
    State.mapRefusal_works hw
  have range : blockOk y.record.typeCode n = true ↔ inRange := blockOk_iff
  have busy (k : Nat) : s.queue.writingBlock b k = true ↔ writing k := WriteQueue.writingBlock_iff
  have duplicate (except : Option Nat) : t.duplicates except n spare.toNat = true ↔ taken except := RemapTable.duplicates_iff
  refine ⟨?state, ?index, ?block, ?spare, ?probe, ?writeAny, ?indexed⟩
  case state =>
    intro hw
    exact ⟨exec_mapProbe_refused h (State.mapRefusal_state hw), exec_mapRead_refused h (State.mapRefusal_state hw),
      exec_mapWrite_refused h (State.mapRefusal_state hw), exec_mapWriteAny_refused h (State.mapRefusal_state hw),
      exec_mapClear_refused h (State.mapRefusal_state hw)⟩
  case index =>
    intro hw high
    have refusal {k l : Option Nat} : s.mapRefusal b (some index.toNat) k l = some .badValue :=
      (figures hw).trans (mapFigures_index high)
    exact ⟨exec_mapRead_refused h refusal, exec_mapWrite_refused h refusal, exec_mapClear_refused h refusal⟩
  case block =>
    intro hw out
    have refusal {i l : Option Nat} (low : ∀ j ∈ i, j ≤ 63) : s.mapRefusal b i (some n) l = some .badAddress :=
      (figures hw).trans (mapFigures_block low (mt range.1 out))
    exact ⟨exec_mapProbe_refused h (refusal noFigure), exec_mapWriteAny_refused h (refusal noFigure),
      fun low => exec_mapWrite_refused h (refusal (by simpa using low))⟩
  case spare =>
    intro hw good high
    have refusal {i : Option Nat} (low : ∀ j ∈ i, j ≤ 63) :
        s.mapRefusal b i (some n) (some spare.toNat) = some .badAddress :=
      (figures hw).trans (mapFigures_spare low (range.2 good) high)
    exact ⟨exec_mapWriteAny_refused h (refusal noFigure), fun low => exec_mapWrite_refused h (refusal (by simpa using low))⟩
  case probe =>
    intro hw good
    have judged := exec_mapProbe_judged h
      ((figures hw).trans (mapFigures_pass noFigure (by simpa using range.2 good) noFigure))
    constructor
    · intro i m here holds first
      rw [RemapTable.find_first here holds first] at judged
      exact judged
    · intro absent
      rw [RemapTable.find_none absent] at judged
      exact judged
  case writeAny =>
    intro hw good small
    have judged := exec_mapWriteAny_judged h
      ((figures hw).trans (mapFigures_pass noFigure (by simpa using range.2 good) (by simpa using small)))
    refine ⟨fun hb => judged.trans ?_, fun hb hd => judged.trans ?_, fun hb hd => ⟨fun i here first => judged.trans ?_,
      fun full => judged.trans ?_⟩⟩
    · rw [if_pos ((busy n).2 hb)]
    · rw [if_neg (mt (busy n).1 hb), if_pos ((duplicate none).2 hd)]
    · rw [if_neg (mt (busy n).1 hb), if_neg (mt (duplicate none).1 hd), RemapTable.lowestInvalid_first here first,
        Option.elim_some, RemapTable.edit_val]
      rfl
    · rw [if_neg (mt (busy n).1 hb), if_neg (mt (duplicate none).1 hd), RemapTable.lowestInvalid_full full, Option.elim_none]
  case indexed =>
    intro i hi hw
    have low : ∀ j ∈ some index.toNat, j ≤ 63 := by simp [hi]; omega
    have passes : s.mapRefusal b (some index.toNat) none none = none :=
      (figures hw).trans (mapFigures_pass low noFigure noFigure)
    have hread := exec_mapRead_judged h passes
    have hclear := exec_mapClear_judged h passes
    rw [hi, RemapTable.at_val] at hread hclear
    refine ⟨fun invalid => ⟨?_, ?_⟩, fun m valid => ⟨?_, ?_, ?_⟩, ?write⟩
    · rw [invalid] at hread
      exact hread
    · rw [invalid] at hclear
      exact hclear
    · rw [valid] at hread
      exact hread
    · intro hb
      rw [valid, Option.elim_some, if_pos ((busy _).2 hb)] at hclear
      exact hclear
    · intro hb
      rw [valid, Option.elim_some, if_neg (mt (busy _).1 hb), RemapTable.edit_val] at hclear
      exact hclear
    case write =>
      intro good small touched
      have judged := exec_mapWrite_judged h
        ((figures hw).trans (mapFigures_pass low (by simpa using range.2 good) (by simpa using small)))
      have busyWrite : s.mapBusy b (t.touchedByWrite i.val n) = true ↔ touched := by
        simp only [State.mapBusy_write, busy, touched]
      rw [hi] at judged
      refine ⟨fun hb => judged.trans ?_, fun hb hd => judged.trans ?_, fun hb hd => judged.trans ?_⟩
      · rw [if_pos (busyWrite.2 hb)]
      · rw [if_neg (mt busyWrite.1 hb), if_pos ((duplicate _).2 hd)]
      · rw [if_neg (mt busyWrite.1 hb), if_neg (mt (duplicate _).1 hd), RemapTable.edit_val]
        rfl

end Sys2Proof.Machine
end

section
/-!
SUPPORT. The list of the Write Queue taken apart: its last stretch and the WRITE it takes (R125), the lowest free slot (R123), a
bay's last item (R127), and the mark test by the first item of the bay (R129).
-/

namespace Sys2Proof.Machine

/-! ### Stretches -/

theorem lastStretch_concat_entry (b : BayId) (l : List Item) (e : WriteEntry) :
    lastStretch b (l ++ [.entry e]) = lastStretch b l ++ [.entry e] := by simp [lastStretch]
theorem lastStretch_concat_mark (b c : BayId) (l : List Item) (k : MarkKind) :
    lastStretch b (l ++ [.mark c k]) = if c = b then [] else lastStretch b l ++ [.mark c k] := by simp [lastStretch]

/-- What stands behind a point of the list with no mark of the bay belongs to the last stretch. -/
theorem lastStretch_append {b : BayId} (l : List Item) {tail : List Item} (unmarked : ∀ k, Item.mark b k ∉ tail) :
    lastStretch b (l ++ tail) = lastStretch b l ++ tail := by
  induction tail generalizing l with
  | nil => rw [List.append_nil, List.append_nil]
  | cons i tail ih =>
    have behind := ih (l ++ [i]) fun k hk => unmarked k (List.mem_cons_of_mem i hk)
    rw [List.append_assoc, List.singleton_append] at behind
    cases i with
    | entry e => rw [behind, lastStretch_concat_entry, List.append_assoc, List.singleton_append]
    | mark c k =>
      have other : c ≠ b := fun hc => unmarked k (hc ▸ List.mem_cons_self)
      rw [behind, lastStretch_concat_mark, if_neg other, List.append_assoc, List.singleton_append]

/-- An entry of the last stretch of two lists joined is in the last stretch of the first, the second holding no mark of the bay,
or stands in the second with no mark of the bay after it. -/
theorem mem_lastStretch_append {b : BayId} {e : WriteEntry} {done l : List Item} (h : .entry e ∈ lastStretch b (done ++ l)) :
    (.entry e ∈ lastStretch b done ∧ ∀ k, Item.mark b k ∉ l) ∨
      ∃ pre post, l = pre ++ .entry e :: post ∧ ∀ k, Item.mark b k ∉ post := by
  induction l generalizing done with
  | nil => exact .inl ⟨by rwa [List.append_nil] at h, fun _ => List.not_mem_nil⟩
  | cons i l ih =>
    rw [← List.singleton_append, ← List.append_assoc] at h
    rcases ih h with ⟨before, unmarked⟩ | ⟨pre, post, rfl, unmarked⟩
    · cases i with
      | entry f =>
        rw [lastStretch_concat_entry, List.mem_append, List.mem_singleton] at before
        rcases before with earlier | here
        · exact .inl ⟨earlier, by simpa using unmarked⟩
        · exact .inr ⟨[], l, by rw [here, List.nil_append], unmarked⟩
      | mark c k =>
        by_cases own : c = b
        · rw [lastStretch_concat_mark, if_pos own] at before
          exact absurd before List.not_mem_nil
        · rw [lastStretch_concat_mark, if_neg own] at before
          exact .inl ⟨by simpa using before, by simpa [Ne.symm own] using unmarked⟩
    · exact .inr ⟨i :: pre, post, rfl, unmarked⟩

/-- An entry of the last stretch stands in the list with no mark of the bay after it. -/
theorem split_of_mem_lastStretch {b : BayId} {e : WriteEntry} {l : List Item} (h : .entry e ∈ lastStretch b l) :
    ∃ pre post, l = pre ++ .entry e :: post ∧ ∀ k, Item.mark b k ∉ post :=
  (mem_lastStretch_append (done := []) h).resolve_left fun ⟨before, _⟩ => List.not_mem_nil before

theorem firstStretch_cons_entry (b : BayId) (e : WriteEntry) (l : List Item) :
    firstStretch b (.entry e :: l) = .entry e :: firstStretch b l := rfl
theorem firstStretch_cons_mark {b c : BayId} (other : c ≠ b) (k : MarkKind) (l : List Item) :
    firstStretch b (.mark c k :: l) = .mark c k :: firstStretch b l := by simp [firstStretch, other]

/-- A list with no mark of the bay is one stretch. -/
theorem firstStretch_unmarked {b : BayId} {l : List Item} (unmarked : ∀ k, Item.mark b k ∉ l) : firstStretch b l = l := by
  induction l with
  | nil => rfl
  | cons i l ih =>
    have rest : firstStretch b l = l := ih fun k hk => unmarked k (List.mem_cons_of_mem i hk)
    cases i with
    | entry e => rw [firstStretch_cons_entry, rest]
    | mark c k =>
      have other : c ≠ b := fun hc => unmarked k (hc ▸ List.mem_cons_self)
      rw [firstStretch_cons_mark other, rest]

/-- Of two entries of a bay and block in one stretch, the earlier is WRITING (R125). -/
theorem stretchesOk_earlier_writing {b : BayId} {pre post : List Item} {e f : WriteEntry}
    (ok : stretchesOk b (pre ++ .entry e :: post) = true) (he : e.bay = b) (hf : f ∈ entriesOf (firstStretch b post))
    (hb : f.bay = b) (block : f.block = e.block) : e.writing = true := by
  induction pre with
  | nil =>
    obtain ⟨pairs, -⟩ := Bool.and_eq_true_iff.1 ok
    simp only [he, ne_eq, not_true_eq_false, decide_false, Bool.false_or, List.all_eq_true] at pairs
    have pair := pairs f hf
    simp only [hb, block, not_true_eq_false, decide_false, Bool.false_or, Bool.and_eq_true] at pair
    exact pair.left
  | cons i pre ih =>
    cases i with
    | entry g =>
      obtain ⟨-, rest⟩ := Bool.and_eq_true_iff.1 ok
      exact ih rest
    | mark c k => exact ih ok

theorem WriteQueue.Ok.items {q : WriteQueue} (ok : q.Ok) (b : BayId) : ItemsOk q.items b := by
  cases b
  · exact ok.bayA
  · exact ok.bayB

/-! ### Placing (R125) -/

@[simp] theorem WriteEntry.queuedFor_iff {e : WriteEntry} {b : BayId} {n : Nat} :
    e.queuedFor b n = true ↔ e.bay = b ∧ e.block = n ∧ e.writing = false := by simp [WriteEntry.queuedFor]

/-- A QUEUED entry of the block with no mark of the bay after it is the one a WRITE merges into. -/
theorem WriteQueue.mergeTarget_eq_some {q : WriteQueue} (ok : q.Ok) {b : BayId} {n : Nat} {e : WriteEntry}
    {pre post : List Item} (split : q.items = pre ++ .entry e :: post) (queued : e.queuedFor b n = true)
    (unmarked : ∀ k, Item.mark b k ∉ post) : q.mergeTarget b n = some e := by
  have tail : ∀ k, Item.mark b k ∉ Item.entry e :: post := by simpa using unmarked
  have stretch : entriesOf (lastStretch b q.items) = entriesOf (lastStretch b pre) ++ e :: entriesOf post := by
    rw [split, lastStretch_append pre tail, entriesOf_append, entriesOf_entry]
  refine List.find?_eq_some_iff_append.2 ⟨queued, _, _, stretch, fun f hf => ?_⟩
  obtain ⟨early, late, rfl, free⟩ := split_of_mem_lastStretch (mem_entriesOf.1 hf)
  have stretches := (ok.items b).stretches
  rw [split, List.append_assoc, List.cons_append] at stretches
  have together : e ∈ entriesOf (firstStretch b (late ++ .entry e :: post)) := by
    rw [firstStretch_unmarked (by simpa using fun k => ⟨free k, unmarked k⟩)]
    simp
  obtain ⟨hb, hn, -⟩ := WriteEntry.queuedFor_iff.1 queued
  simp only [Bool.not_eq_true', Bool.eq_false_iff]
  intro both
  obtain ⟨fb, fn, waiting⟩ := WriteEntry.queuedFor_iff.1 both
  have writing := stretchesOk_earlier_writing stretches fb together hb (hn.trans fn.symm)
  rw [waiting] at writing
  contradiction

/-- With no such entry a WRITE merges into none. -/
theorem WriteQueue.mergeTarget_eq_none {q : WriteQueue} {b : BayId} {n : Nat}
    (absent : ∀ e pre post, q.items = pre ++ .entry e :: post → (∀ k, Item.mark b k ∉ post) → ¬ e.queuedFor b n = true) :
    q.mergeTarget b n = none := by
  refine List.find?_eq_none.2 fun e he => ?_
  obtain ⟨pre, post, split, unmarked⟩ := split_of_mem_lastStretch (mem_entriesOf.1 he)
  exact absent e pre post split unmarked

/-- The lowest free slot is the one no entry holds while each below it is held (R123). -/
theorem WriteQueue.freeSlot_eq_some {q : WriteQueue} {i : Nat} (hi : i < 16) (free : ∀ e ∈ entriesOf q.items, e.slot ≠ i)
    (held : ∀ j < i, ∃ e ∈ entriesOf q.items, e.slot = j) : q.freeSlot = some ⟨i, hi⟩ := by
  refine List.find?_eq_some_iff_getElem.2 ⟨by simpa using free, i, by simpa using hi, by simp, fun j hj => ?_⟩
  simpa using held j hj

/-- With every slot held there is no free one (R123). -/
theorem WriteQueue.freeSlot_eq_none {q : WriteQueue} (held : ∀ i < 16, ∃ e ∈ entriesOf q.items, e.slot = i) :
    q.freeSlot = none :=
  List.find?_eq_none.2 fun i _ => by simpa using held i.val i.isLt

section
variable {q : WriteQueue} {b : BayId} {n : Nat}

theorem WriteQueue.place_merged {e : WriteEntry} (target : q.mergeTarget b n = some e) (d : Sector) :
    q.place b n d = (q.putData e.slot d, .merged e.arrival) := by rw [WriteQueue.place, target]

theorem WriteQueue.place_appended {i : Fin 16} (target : q.mergeTarget b n = none) (lowest : q.freeSlot = some i) (d : Sector) :
    q.place b n d = ({ q.putData i.val d with
        items := q.items ++ [.entry { bay := b, block := n, slot := i.val, writing := false, attempts := 0,
                                      arrival := q.nextArrival }]
        nextArrival := (q.nextArrival + 1) % 65536 }, .appended q.nextArrival) := by rw [WriteQueue.place, target, lowest]

theorem WriteQueue.place_full (target : q.mergeTarget b n = none) (full : q.freeSlot = none) (d : Sector) :
    q.place b n d = (q, .full) := by rw [WriteQueue.place, target, full]

end

/-! ### ORDER (R127) -/

/-- An ORDER of a bay with no item leaves the list. -/
theorem WriteQueue.order_absent {q : WriteQueue} {b : BayId} (absent : ∀ i ∈ q.items, i.bay ≠ b) : q.order b = (q, true) := by
  have none_own : itemsOf b q.items = [] := by simpa [itemsOf] using absent
  simp [WriteQueue.order, none_own]

/-- The last item of the bay decides an ORDER: behind a mark it leaves the list, and behind an entry it adds a mark or is
refused. -/
theorem WriteQueue.order_of_last {q : WriteQueue} {b : BayId} {pre post : List Item} {last : Item}
    (split : q.items = pre ++ last :: post) (own : last.bay = b) (others : ∀ i ∈ post, i.bay ≠ b) :
    q.order b = if last.isEntry then
        if q.markCount < 8 then ({ q with items := q.items ++ [.mark b .order] }, true) else (q, false)
      else (q, true) := by
  have tail : itemsOf b post = [] := by simpa [itemsOf] using others
  have ends : (itemsOf b q.items).getLast? = some last := by
    rw [itemsOf] at tail
    simp [split, itemsOf, own, tail]
  cases last with
  | entry e =>
    rw [WriteQueue.order, ends]
    rfl
  | mark c k =>
    rw [WriteQueue.order, ends]
    rfl

/-! ### The mark test (R129) -/

/-- The mark test passes over the items of the other bay. -/
theorem dropMarks_append {b : BayId} {pre : List Item} (others : ∀ i ∈ pre, i.bay ≠ b) (l : List Item) :
    dropMarks b (pre ++ l) = (pre ++ (dropMarks b l).1, (dropMarks b l).2) := by
  induction pre with
  | nil => rfl
  | cons i pre ih =>
    obtain ⟨other, rest⟩ := List.forall_mem_cons.1 others
    cases i with
    | entry e => simp [dropMarks, ih rest, show e.bay ≠ b from other]
    | mark c k => simp [dropMarks, ih rest, show c ≠ b from other]

/-- The mark test stops at an entry of its bay. -/
theorem dropMarks_entry {b : BayId} {e : WriteEntry} (own : e.bay = b) (l : List Item) :
    dropMarks b (.entry e :: l) = (.entry e :: l, false) := by simp [dropMarks, own]

/-- The mark test takes a mark of its bay, and says whether it was a FLUSH. -/
theorem dropMarks_mark (b : BayId) (k : MarkKind) (l : List Item) :
    dropMarks b (.mark b k :: l) = ((dropMarks b l).1, (dropMarks b l).2 || decide (k = .flush)) := by simp [dropMarks]

/-- A mark of the bay before its first entry is taken, and the test gives what it gives without the mark. -/
theorem dropMarks_append_mark {b : BayId} {pre : List Item} (others : ∀ i ∈ pre, i.bay ≠ b) (k : MarkKind) (post : List Item) :
    dropMarks b (pre ++ .mark b k :: post) =
      ((dropMarks b (pre ++ post)).1, (dropMarks b (pre ++ post)).2 || decide (k = .flush)) := by
  rw [dropMarks_append others, dropMarks_append others, dropMarks_mark]

/-- The state with another list in the Write Queue. -/
def State.withItems (s : State) (items : List Item) : State := { s with queue := { s.queue with items } }

@[simp] theorem State.withItems_bay (s : State) (items : List Item) (b : BayId) : (s.withItems items).bay b = s.bay b := by
  cases b <;> rfl
@[simp] theorem State.withItems_items (s : State) (items : List Item) : (s.withItems items).queue.items = items := rfl

/-- The mark test is its list of items kept, and the completion of the slot when a FLUSH was among the marks taken. -/
theorem State.markTest_eq {s : State} {b : BayId} {kept : List Item} {flushed : Bool}
    (dropped : dropMarks b s.queue.items = (kept, flushed)) :
    s.markTest b = if flushed = true ∧ (s.bay b).slot.active = some .flush then (s.withItems kept).completeSlot b .done
      else s.withItems kept := by
  simp [State.markTest, dropped, State.withItems]

/-- A mark test that takes nothing changes nothing. -/
theorem State.markTest_kept {s : State} {b : BayId} (kept : dropMarks b s.queue.items = (s.queue.items, false)) :
    s.markTest b = s := (State.markTest_eq kept).trans (if_neg (by simp))

/-- With no FLUSH in progress the mark test changes the list alone. -/
theorem State.markTest_unrequested {s : State} {b : BayId} (unrequested : (s.bay b).slot.active ≠ some .flush) :
    s.markTest b = s.withItems (dropMarks b s.queue.items).1 :=
  (State.markTest_eq rfl).trans (if_neg fun ⟨_, requested⟩ => unrequested requested)

section
variable {s : State} {b : BayId} {pre post : List Item} (others : ∀ i ∈ pre, i.bay ≠ b)
include others

/-- An ORDER before the bay's first entry is taken, and the test goes on. -/
theorem State.markTest_order (split : s.queue.items = pre ++ .mark b .order :: post) :
    s.markTest b = (s.withItems (pre ++ post)).markTest b := by
  have here : dropMarks b s.queue.items = dropMarks b (pre ++ post) := by
    rw [split, dropMarks_append_mark others]
    simp
  rw [State.markTest_eq here, State.markTest_eq (s := s.withItems (pre ++ post)) rfl]
  rfl

/-- A FLUSH before the bay's first entry is taken and completes its slot, and the test goes on. -/
theorem State.markTest_flush (split : s.queue.items = pre ++ .mark b .flush :: post)
    (waits : (s.bay b).slot.state = .inProgress) (request : (s.bay b).slot.request = some .flush) :
    s.markTest b = ((s.withItems (pre ++ post)).completeSlot b .done).markTest b := by
  have here : dropMarks b s.queue.items = ((dropMarks b (pre ++ post)).1, true) := by
    rw [split, dropMarks_append_mark others]
    simp
  have active : (s.bay b).slot.active = some .flush := (if_pos waits).trans request
  rw [State.markTest_eq here, if_pos ⟨rfl, active⟩, State.completeSlot_inProgress (by simpa using waits),
    State.completeSlot_inProgress (by simpa using waits), State.markTest_unrequested (by simp [Slot.active])]
  cases b <;> rfl

end

end Sys2Proof.Machine
end

section
/-!
PROOFS. WRITE, ORDER and FLUSH (R124 to R129): their refusals by the bay state, one equation for each message that passes it, and
the two statements.
-/

namespace Sys2Proof.Machine

theorem exec_order (bay : Byte) (s : State) : exec (.order bay) s = execOrder bay s := by rfl
theorem exec_write (bay : Byte) (block : BitVec 16) (data : Sector) (s : State) :
    exec (.write bay block data) s = execWrite bay block data s := by rfl
theorem exec_flush (bay : Byte) (s : State) : exec (.flush bay) s = execFlush bay s := by rfl

/-- Outside READY, RAW and EJECTING a message of logical data is refused NOT READY. -/
theorem BayState.refusesData_else {x : BayState} (ready : x ≠ .ready) (raw : x ≠ .raw) (ejecting : x ≠ .ejecting) :
    x.refusesData = some .notReady := by
  cases x with
  | ready => contradiction
  | raw => contradiction
  | ejecting => contradiction
  | _ => rfl

theorem Slot.taken_iff {x : Slot} : x.taken = true ↔ x.state ≠ .free := by simp [Slot.taken]
theorem Slot.not_taken {x : Slot} (free : x.state = .free) : ¬ x.taken = true := fun taken => Slot.taken_iff.1 taken free

section
variable {s : State} {b : BayId} (h : s.receives = true)
include h

/-! ### The messages refused by the bay state -/

section
variable {r : ReplyStatus} (refusal : (s.bay b).record.state.refusesData = some r)
include refusal

theorem exec_order_refused : exec (.order b.field) s = .next (s.replied 0x14 b.field r) := by
  rw [exec_order, execOrder, State.forBay_field h, State.setAssembly_bay, refusal]
  rfl

theorem exec_write_refused (block : BitVec 16) (data : Sector) :
    exec (.write b.field block data) s = .next (s.replied 0x15 b.field r) := by
  rw [exec_write, execWrite, State.forBay_field h, State.setAssembly_bay, refusal]
  rfl

theorem exec_flush_refused : exec (.flush b.field) s = .next (s.replied 0x34 b.field r) := by
  rw [exec_flush, execFlush, State.forBay_field h, State.setAssembly_bay, refusal]
  rfl

end

/-! ### The messages of a READY bay -/

section
variable (ready : (s.bay b).record.state = .ready)
include ready

/-- ORDER is answered by what the Write Queue does with it (R127). -/
theorem exec_order_ready {q : WriteQueue} {taken : Bool} (order : s.queue.order b = (q, taken)) :
    exec (.order b.field) s = .next (if taken then { s with queue := q }.replied 0x14 b.field .ok
      else s.replied 0x14 b.field .queueFull) := by
  rw [exec_order, execOrder, State.forBay_field h, State.setAssembly_bay, ready, State.setAssembly_queue]
  simp only [BayState.refusesData, order]
  cases taken <;> rfl

/-- A WRITE of a block out of range is refused (R124). -/
theorem exec_write_badAddress {block : BitVec 16} (data : Sector)
    (out : ¬ blockOk (s.bay b).record.typeCode block.toNat = true) :
    exec (.write b.field block data) s = .next (s.replied 0x15 b.field .badAddress) := by
  rw [exec_write, execWrite, State.forBay_field h, State.setAssembly_bay, ready]
  simp only [BayState.refusesData, if_neg out]
  rfl

/-- A WRITE in range is answered by how the Write Queue places it (R125). -/
theorem exec_write_placed {block : BitVec 16} {data : Sector} {q : WriteQueue} {placed : Placed}
    (range : blockOk (s.bay b).record.typeCode block.toNat = true) (place : s.queue.place b block.toNat data = (q, placed)) :
    exec (.write b.field block data) s = .next (match placed with
      | .merged n => { s with queue := q }.replied 0x15 b.field .ok (bytes2 n ++ byte 0)
      | .appended n => { s with queue := q }.replied 0x15 b.field .ok (bytes2 n ++ byte 1)
      | .full => s.replied 0x15 b.field .queueFull) := by
  rw [exec_write, execWrite, State.forBay_field h, State.setAssembly_bay, ready, State.setAssembly_queue]
  simp only [BayState.refusesData, if_pos range, place]
  cases placed <;> rfl

/-- FLUSH is judged by the slot before the marks (R128). -/
theorem exec_flush_busy (taken : (s.bay b).slot.state ≠ .free) :
    exec (.flush b.field) s = .next (s.replied 0x34 b.field .busy) := by
  rw [exec_flush, execFlush, State.forBay_field h, State.setAssembly_bay, ready]
  simp only [BayState.refusesData, if_pos (Slot.taken_iff.2 taken)]
  rfl

theorem exec_flush_full (free : (s.bay b).slot.state = .free) (full : 8 ≤ s.queue.markCount) :
    exec (.flush b.field) s = .next (s.replied 0x34 b.field .queueFull) := by
  rw [exec_flush, execFlush, State.forBay_field h, State.setAssembly_bay, ready, State.setAssembly_queue]
  have noRoom : ¬ s.queue.markCount < Config.maxMarks := Nat.not_lt.2 full
  simp only [BayState.refusesData, if_neg (Slot.not_taken free), if_neg noRoom]
  rfl

/-- An accepted FLUSH takes the slot and appends its mark, and the mark test follows (R128). -/
theorem exec_flush_accepted (free : (s.bay b).slot.state = .free) (room : s.queue.markCount < 8) :
    exec (.flush b.field) s = .next
      ((((s.withItems (s.queue.items ++ [.mark b .flush])).occupySlot b .flush).replied 0x34 b.field .accepted).markTest b) := by
  rw [exec_flush, execFlush, State.forBay_field h, State.setAssembly_bay, ready, State.setAssembly_queue]
  simp only [BayState.refusesData, if_neg (Slot.not_taken free),
    if_pos (show s.queue.markCount < Config.maxMarks from room)]
  cases b <;> rfl

end
end

/-- Settles O49: the last stretch holds at most one QUEUED entry of a block, so an entry that a WRITE can merge into is the one
found; with none, the lowest free slot decides. -/
theorem writesArePlaced : Obligations.WritesArePlaced := by
  intro s b block data h ok r n q write refused answer inRange mergesInto
  have range : blockOk r.typeCode n = true ↔ inRange := blockOk_iff
  refine ⟨fun raw => exec_write_refused h (by rw [raw]; rfl) block data,
    fun ejecting => exec_write_refused h (by rw [ejecting]; rfl) block data,
    fun ready raw ejecting => exec_write_refused h (BayState.refusesData_else ready raw ejecting) block data,
    fun ready out => exec_write_badAddress h ready data (mt range.1 out), fun ready good => ⟨?merged, fun absent => ?unmerged⟩⟩
  case merged =>
    rintro e ⟨pre, post, split, hb, hn, waiting, unmarked⟩
    have target : q.mergeTarget b n = some e :=
      WriteQueue.mergeTarget_eq_some ok split (WriteEntry.queuedFor_iff.2 ⟨hb, hn, waiting⟩) unmarked
    exact exec_write_placed h ready (range.2 good) (WriteQueue.place_merged target data)
  case unmerged =>
    have target : q.mergeTarget b n = none := by
      refine WriteQueue.mergeTarget_eq_none fun e pre post split unmarked queued => absent e ?_
      obtain ⟨hb, hn, waiting⟩ := WriteEntry.queuedFor_iff.1 queued
      exact ⟨pre, post, split, hb, hn, waiting, unmarked⟩
    refine ⟨fun i hi free held => ?_, fun held => ?_⟩
    · have lowest : q.freeSlot = some ⟨i, hi⟩ := WriteQueue.freeSlot_eq_some hi free held
      exact exec_write_placed h ready (range.2 good) (WriteQueue.place_appended target lowest data)
    · have full : q.freeSlot = none := WriteQueue.freeSlot_eq_none held
      exact exec_write_placed h ready (range.2 good) (WriteQueue.place_full target full data)

/-- Settles O50: an ORDER is decided by the bay's last item, a FLUSH by the slot and the marks, and the mark test by the bay's
first item. -/
theorem ordersAndFlushes : Obligations.OrdersAndFlushes := by
  intro s b y order flush orderOk refusedBoth
  refine ⟨fun h => ?messages, fun absent => ?drained, fun pre first post split own others => ?test⟩
  case messages =>
    have refused {r : ReplyStatus} (refusal : y.record.state.refusesData = some r) : refusedBoth r :=
      ⟨exec_order_refused h refusal, exec_flush_refused h refusal⟩
    refine ⟨fun raw => refused (by rw [raw]; rfl), fun ejecting => refused (by rw [ejecting]; rfl),
      fun ready raw ejecting => refused (BayState.refusesData_else ready raw ejecting),
      fun ready => ⟨fun absent => ?_, fun pre last post split own others => ?last, exec_flush_busy h ready,
        exec_flush_full h ready, exec_flush_accepted h ready⟩⟩
    · exact exec_order_ready h ready (WriteQueue.order_absent absent)
    case last =>
      have judged := WriteQueue.order_of_last split own others
      refine ⟨fun mark => ?_, fun entry room => ?_, fun entry full => ?_⟩
      · rw [mark] at judged
        exact exec_order_ready h ready judged
      · rw [entry, if_pos rfl, if_pos room] at judged
        exact exec_order_ready h ready judged
      · rw [entry, if_pos rfl, if_neg (Nat.not_lt.2 full)] at judged
        exact exec_order_ready h ready judged
  case drained =>
    refine State.markTest_kept ?_
    simpa [dropMarks] using dropMarks_append absent []
  case test =>
    refine ⟨fun entry => ?_, ?_, ?_⟩
    · cases first with
      | entry e =>
        refine State.markTest_kept ?_
        rw [split, dropMarks_append others, dropMarks_entry own]
      | mark c k => contradiction
    · rintro rfl
      exact State.markTest_order others split
    · rintro rfl waits request
      have done := State.completeSlot_inProgress (s := s.withItems (pre ++ post)) (b := b) (by simpa using waits) .done
      exact (State.markTest_flush others split waits request).trans (congrArg (State.markTest · b) done)

end Sys2Proof.Machine
end

section
/-!
PROOFS. The eject button and EJECT (R155, R156): the standings of a bay that both are judged by, one equation for each way either
ends, and the statement.
-/

namespace Sys2Proof.Machine

theorem exec_ejectButtonPress (b : BayId) (s : State) : exec (.ejectButtonPress b) s = execEjectButtonPress b s := by rfl
theorem exec_eject (bay : Byte) (s : State) : exec (.eject bay) s = execEject bay s := by rfl

/-! ### The standings an eject is judged by -/

/-- The bay has no cartridge to eject, or is in the PARKING of a soft reset (R156, check 1). -/
def BayRecord.NoCartridge (r : BayRecord) : Prop :=
  r.state = .empty ∨ (r.state = .fault ∧ r.cause = .cartridgeLost) ∨ (r.state = .parking ∧ r.resetPark = true)

/-- The bay is EJECTING, or will be when its PARKING ends (R156, check 2). -/
def BayRecord.EjectUnderWay (r : BayRecord) : Prop := r.state = .ejecting ∨ (r.state = .parking ∧ r.eject ≠ none)

/-- The heads of the bay did not reach their stop (R156, check 3). -/
def BayRecord.HeadsStuck (r : BayRecord) : Prop := r.state = .fault ∧ r.cause = .unloadFault

/-- The model asks for the eject record of PARKING where the statement denies that there is none. -/
theorem BayRecord.ejectUnderWay_iff {r : BayRecord} :
    r.EjectUnderWay ↔ r.state = .ejecting ∨ (r.state = .parking ∧ r.eject.isSome = true) := by
  rw [BayRecord.EjectUnderWay, Option.isSome_iff_ne_none]

/-! ### The eject button (R155) -/

section
variable {s : State} {b : BayId}

/-- A press has no effect on a bay with no cartridge, or with an eject under way. -/
theorem exec_ejectButtonPress_ignored (idle : (s.bay b).record.NoCartridge ∨ (s.bay b).record.EjectUnderWay) :
    exec (.ejectButtonPress b) s = .next s := by
  rw [exec_ejectButtonPress, execEjectButtonPress]
  by_cases absent : (s.bay b).record.NoCartridge
  · exact if_pos absent
  · have underWay : (s.bay b).record.EjectUnderWay := idle.resolve_left absent
    exact (if_neg absent).trans (if_pos (BayRecord.ejectUnderWay_iff.1 underWay))

variable (present : ¬ (s.bay b).record.NoCartridge) (fresh : ¬ (s.bay b).record.EjectUnderWay)
include present fresh

/-- On any other bay a press is judged by the heads and the lock. -/
theorem exec_ejectButtonPress_judged : exec (.ejectButtonPress b) s =
    if ((s.bay b).record.state = .fault ∧ (s.bay b).record.cause = .unloadFault) ∨ (s.bay b).record.lock = true then
      .next (s.latch b .ejectRefused)
    else .next (s.startEject b .button) := by
  rw [exec_ejectButtonPress, execEjectButtonPress]
  exact (if_neg present).trans (if_neg (mt BayRecord.ejectUnderWay_iff.2 fresh))

theorem exec_ejectButtonPress_refused (barred : (s.bay b).record.HeadsStuck ∨ (s.bay b).record.lock = true) :
    exec (.ejectButtonPress b) s = .next (s.latch b .ejectRefused) :=
  (exec_ejectButtonPress_judged present fresh).trans (if_pos barred)

theorem exec_ejectButtonPress_starts (moved : ¬ (s.bay b).record.HeadsStuck) (unlocked : (s.bay b).record.lock = false) :
    exec (.ejectButtonPress b) s = .next (s.startEject b .button) := by
  have allowed : ¬ ((s.bay b).record.HeadsStuck ∨ (s.bay b).record.lock = true) := by simp [moved, unlocked]
  exact (exec_ejectButtonPress_judged present fresh).trans (if_neg allowed)

end

/-! ### The checks of EJECT (R156) -/

@[simp] theorem State.setAssembly_ejectRefusal (s : State) (a : Assembly) (b : BayId) :
    (s.setAssembly a).ejectRefusal b = s.ejectRefusal b := by
  simp only [State.ejectRefusal, State.setAssembly_bay]

section
variable {s : State} {b : BayId}

theorem State.ejectRefusal_noCartridge (absent : (s.bay b).record.NoCartridge) : s.ejectRefusal b = some .notReady :=
  if_pos absent

variable (present : ¬ (s.bay b).record.NoCartridge)
include present

theorem State.ejectRefusal_underWay (underWay : (s.bay b).record.EjectUnderWay) : s.ejectRefusal b = some .ejecting :=
  (if_neg present).trans (if_pos (BayRecord.ejectUnderWay_iff.1 underWay))

variable (fresh : ¬ (s.bay b).record.EjectUnderWay)
include fresh

/-- A bay with a cartridge and no eject under way is judged by its heads, then by its slot. -/
theorem State.ejectRefusal_judged : s.ejectRefusal b =
    if (s.bay b).record.state = .fault ∧ (s.bay b).record.cause = .unloadFault then some .fault
    else if (s.bay b).slot.taken = true then some .busy else none :=
  (if_neg present).trans (if_neg (mt BayRecord.ejectUnderWay_iff.2 fresh))

theorem State.ejectRefusal_headsStuck (stuck : (s.bay b).record.HeadsStuck) : s.ejectRefusal b = some .fault :=
  (State.ejectRefusal_judged present fresh).trans (if_pos stuck)

variable (moved : ¬ (s.bay b).record.HeadsStuck)
include moved

theorem State.ejectRefusal_taken (taken : (s.bay b).slot.state ≠ .free) : s.ejectRefusal b = some .busy :=
  (State.ejectRefusal_judged present fresh).trans ((if_neg moved).trans (if_pos (Slot.taken_iff.2 taken)))

theorem State.ejectRefusal_passes (free : (s.bay b).slot.state = .free) : s.ejectRefusal b = none :=
  (State.ejectRefusal_judged present fresh).trans ((if_neg moved).trans (if_neg (Slot.not_taken free)))

end

/-! ### EJECT -/

/-- A long request accepted takes the slot before it is answered (R170). -/
theorem State.accept_idle (s : State) (code : Byte) (b : BayId) (r : LongRequest) :
    (s.setAssembly .idle).accept code b.field b r = (s.occupySlot b r).replied code b.field .accepted := by
  cases b <;> rfl

section
variable {s : State} {b : BayId} (h : s.receives = true)
include h

/-- A refused EJECT is answered, and changes nothing else. -/
theorem exec_eject_refused {r : ReplyStatus} (refusal : s.ejectRefusal b = some r) :
    exec (.eject b.field) s = .next (s.replied 0x30 b.field r) := by
  rw [exec_eject, execEject, State.forBay_field h, State.setAssembly_ejectRefusal, refusal]
  rfl

/-- An EJECT that passes takes the slot, is answered ACCEPTED, and starts an eject; the lock plays no part. -/
theorem exec_eject_accepted (passes : s.ejectRefusal b = none) : exec (.eject b.field) s =
    .next (((s.occupySlot b .eject).replied 0x30 b.field .accepted).startEject b .message) := by
  rw [exec_eject, execEject, State.forBay_field h, State.setAssembly_ejectRefusal, passes, ← State.accept_idle]

end

/-- Settles O24: a press and an EJECT are judged by the same standings of the bay, a press then by the lock and an EJECT by the
slot. -/
theorem ejectsAreJudged : Obligations.EjectsAreJudged := by
  intro s b y r press eject refused noCartridge underWay stuck
  refine ⟨exec_ejectButtonPress_ignored, exec_ejectButtonPress_refused, exec_ejectButtonPress_starts,
    fun h => ⟨fun absent => ?_, fun present under => ?_, fun present fresh st => ?_, fun present fresh moved taken => ?_,
      fun present fresh moved free => ?_⟩⟩
  · exact exec_eject_refused h (State.ejectRefusal_noCartridge absent)
  · exact exec_eject_refused h (State.ejectRefusal_underWay present under)
  · exact exec_eject_refused h (State.ejectRefusal_headsStuck present fresh st)
  · exact exec_eject_refused h (State.ejectRefusal_taken present fresh moved taken)
  · exact exec_eject_accepted h (State.ejectRefusal_passes present fresh moved free)

end Sys2Proof.Machine
end

section
/-!
SUPPORT. The drain test and what it leads to, beside the request slots and the Write Queue: no stop request, no unload request and
no end of a drain touches either (R11, R158, R160, R161).
-/

namespace Sys2Proof.Machine

/-- The requests a bay has under way: the Write Queue and the bay's slot. -/
def State.work (s : State) (b : BayId) : WriteQueue × Slot := (s.queue, (s.bay b).slot)

@[simp] theorem State.modRecord_work (s : State) (b : BayId) (f : BayRecord → BayRecord) :
    (s.modRecord b f).work b = s.work b := by simp [State.work]
@[simp] theorem State.modMedia_work (s : State) (b : BayId) (f : Media → Media) :
    (s.modMedia b f).work b = s.work b := by simp [State.work]
@[simp] theorem State.latch_work (s : State) (b : BayId) (e : BayEvent) : (s.latch b e).work b = s.work b := by
  simp [State.work]
@[simp] theorem State.request_work (s : State) (b : BayId) (k : RequestKind) (l : Nat) :
    (s.request b k l).work b = s.work b := by simp [State.work]

/-! ### Stops -/

@[simp] theorem State.askStop_work (s : State) (b : BayId) : (s.askStop b).1.work b = s.work b := by
  cases h : (s.bay b).spindle.state with
  | off | waiting => simp [State.askStop, h, State.work]
  | accel | run | recover | recoverWait | stopping =>
    obtain ⟨-, queue, x, bay⟩ := State.askStop_turning (s := s) (b := b) (by simp [h]) (by simp [h])
    simp [State.work, queue, bay]

@[simp] theorem State.becomeEmpty_work (s : State) (b : BayId) : (s.becomeEmpty b).work b = s.work b := by
  simp only [State.becomeEmpty, State.startDebounce]; split <;> simp

@[simp] theorem State.enterRelease_work (s : State) (b : BayId) : (s.enterRelease b).work b = s.work b := by
  simp [State.enterRelease]

/-- A stop confirmed with no attempt ended counts no attempt and enters no FAULT, so that the bay's work stays. -/
@[simp] theorem State.stopConfirmed_work (s : State) (b : BayId) : (s.stopConfirmed b false).work b = s.work b := by
  simp only [State.stopConfirmed, Bool.false_eq_true, if_false]; (repeat' split) <;> simp

@[simp] theorem State.stopSpindle_work (s : State) (b : BayId) : (s.stopSpindle b).work b = s.work b := by
  have asked := s.askStop_work b
  simp only [State.stopSpindle]
  split <;> rename_i h <;> simpa [h] using asked

@[simp] theorem State.enterSpindown_work (s : State) (b : BayId) : (s.enterSpindown b).work b = s.work b := by
  simp [State.enterSpindown]

/-! ### Unloads -/

@[simp] theorem State.unloadedReport_work (s : State) (b : BayId) : (s.unloadedReport b).work b = s.work b := by
  simp only [State.unloadedReport]; (repeat' split) <;> simp

@[simp] theorem State.unloadHeads_work (s : State) (b : BayId) : (s.unloadHeads b).work b = s.work b := by
  obtain ⟨queue, a, bay⟩ := s.askUnload_frame b
  have asked : (s.askUnload b).1.work b = s.work b := by simp [State.work, queue, bay]
  simp only [State.unloadHeads]
  split <;> rename_i h <;> simpa [h] using asked

@[simp] theorem State.enterUnload_work (s : State) (b : BayId) : (s.enterUnload b).work b = s.work b := by
  simp [State.enterUnload]

/-! ### The drain test -/

@[simp] theorem State.checkDrain_work (s : State) (b : BayId) : (s.checkDrain b).work b = s.work b := by
  simp only [State.checkDrain]; (repeat' split) <;> simp

/-- Outside PARKING and EJECTING there is no drain to end. -/
theorem State.checkDrain_elsewhere {s : State} {b : BayId} (parking : (s.bay b).record.state ≠ .parking)
    (ejecting : (s.bay b).record.state ≠ .ejecting) : s.checkDrain b = s := by
  cases state : (s.bay b).record.state with
  | parking => contradiction
  | ejecting => contradiction
  | _ => simp only [State.checkDrain, state, ite_self]

/-! ### The slot freed and the operation left without a request (R170, R172) -/

@[simp] theorem State.freeSlot_work (s : State) (b : BayId) : (s.freeSlot b).work b = (s.queue, {}) := by
  simp [State.work, State.freeSlot]
@[simp] theorem State.freeSlot_record (s : State) (b : BayId) : ((s.freeSlot b).bay b).record = (s.bay b).record := by
  simp [State.freeSlot]
@[simp] theorem State.orphanOp_queue (s : State) (b : BayId) (p : OpKind → Bool) : (s.orphanOp b p).queue = s.queue := by
  simp [State.orphanOp, State.modOp]
@[simp] theorem State.orphanOp_record (s : State) (b : BayId) (p : OpKind → Bool) :
    ((s.orphanOp b p).bay b).record = (s.bay b).record := by simp [State.orphanOp, State.modOp]
@[simp] theorem State.within_orphanOp (s t : State) (b : BayId) (p : OpKind → Bool) :
    State.Within b s (t.orphanOp b p) ↔ State.Within b s t := by simp [State.orphanOp]

/-! ### FLUSH marks (R130) -/

theorem flushToOrder_eq (b : BayId) (l : List Item) :
    flushToOrder b l = l.map fun i => if i = .mark b .flush then .mark b .order else i := by
  refine List.map_congr_left fun i _ => ?_
  cases i with
  | entry e => simp
  | mark c k =>
    cases k with
    | order => simp
    | flush => by_cases h : c = b <;> simp [h]

end Sys2Proof.Machine
end

section
/-!
PROOFS. RESULT and ABORT (R171, R172): one equation for each state of the slot and each request in it, and the statement.
-/

namespace Sys2Proof.Machine

theorem exec_result (bay : Byte) (s : State) : exec (.result bay) s = execResult bay s := by rfl
theorem exec_abort (bay : Byte) (s : State) : exec (.abort bay) s = execAbort bay s := by rfl

/-- A slot freed beside a message is freed whether the reply is composed before or after. -/
theorem State.freeSlot_respond (s : State) (code field : Byte) (b : BayId) (r : ReplyStatus) (body : List Byte) :
    ((s.setAssembly .idle).respond code field r body).freeSlot b = (s.freeSlot b).replied code field r body := by
  cases b <;> rfl
theorem State.modSlot_respond (s : State) (code field : Byte) (b : BayId) (r : ReplyStatus) (body : List Byte)
    (f : Slot → Slot) :
    ((s.setAssembly .idle).respond code field r body).modSlot b f = (s.modSlot b f).replied code field r body := by
  cases b <;> rfl
theorem State.respond_freeSlot (s : State) (code field : Byte) (b : BayId) (r : ReplyStatus) (body : List Byte) :
    ((s.setAssembly .idle).freeSlot b).respond code field r body = (s.freeSlot b).replied code field r body := by
  cases b <;> rfl

section
variable {s : State} {b : BayId} (h : s.receives = true)
include h

/-! ### RESULT -/

theorem exec_result_free (free : (s.bay b).slot.state = .free) :
    exec (.result b.field) s = .next (s.replied 0x18 b.field .noResult) := by
  rw [exec_result, execResult, State.forBay_field h, State.setAssembly_bay]
  simp only [free, State.respond_idle]

section
variable {r : LongRequest} (request : (s.bay b).slot.request = some r)
include request

theorem exec_result_pending (waits : (s.bay b).slot.state = .inProgress) :
    exec (.result b.field) s = .next (s.replied 0x18 b.field .pending [BitVec.ofNat 8 r.code]) := by
  rw [exec_result, execResult, State.forBay_field h, State.setAssembly_bay]
  simp only [waits, request, State.respond_idle]
  rfl

variable (done : (s.bay b).slot.state = .done)
include done

/-- A result with no sector is returned, and the slot is FREE with it. -/
theorem exec_result_bare (bare : r.sectors = 0 ∨ (s.bay b).slot.staged = 0) :
    exec (.result b.field) s = .next ((s.freeSlot b).replied 0x18 b.field .ok
      [BitVec.ofNat 8 r.code, BitVec.ofNat 8 (s.bay b).slot.result.code, 0#8, 0#8]) := by
  have nothing : ¬ (((some r).any fun r => decide (0 < r.sectors)) = true ∧ 0 < (s.bay b).slot.staged) := by
    simp only [Option.any_some, decide_eq_true_eq]
    omega
  rw [exec_result, execResult, State.forBay_field h, State.setAssembly_bay]
  simp only [done, request, if_neg nothing, State.freeSlot_respond]
  rfl

/-- A staged sector is returned with the result, and the slot is FREE with the last. -/
theorem exec_result_staged (reads : 0 < r.sectors) (i : Fin 4) (next : (s.bay b).slot.next = i.val + 1)
    (staged : i.val < (s.bay b).slot.staged) :
    exec (.result b.field) s = .next ((if (s.bay b).slot.next = (s.bay b).slot.staged then s.freeSlot b
        else s.modSlot b fun x => { x with next := (s.bay b).slot.next + 1 }).replied 0x18 b.field .ok
      ([BitVec.ofNat 8 r.code, BitVec.ofNat 8 (s.bay b).slot.result.code, BitVec.ofNat 8 (s.bay b).slot.staged,
        BitVec.ofNat 8 (s.bay b).slot.next] ++ (s.bay b).media.staging[i].toList)) := by
  have some_sector : ((some r).any fun r => decide (0 < r.sectors)) = true ∧ 0 < (s.bay b).slot.staged := by
    simp only [Option.any_some, decide_eq_true_eq]
    omega
  have sector : (s.bay b).media.staging[(s.bay b).slot.next - 1]?.getD Sector.zero = (s.bay b).media.staging[i] := by
    simp [next]
  rw [exec_result, execResult, State.forBay_field h, State.setAssembly_bay]
  simp only [done, request, if_pos some_sector, sector, State.freeSlot_respond, State.modSlot_respond]
  split
  · rfl
  · cases b <;> rfl

end

/-! ### ABORT -/

theorem exec_abort_free (free : (s.bay b).slot.state = .free) :
    exec (.abort b.field) s = .next (s.replied 0x19 b.field .ok) := by
  rw [exec_abort, execAbort, State.forBay_field h, State.setAssembly_bay]
  simp only [free, State.respond_idle]

theorem exec_abort_done (done : (s.bay b).slot.state = .done) :
    exec (.abort b.field) s = .next ((s.freeSlot b).replied 0x19 b.field .ok) := by
  rw [exec_abort, execAbort, State.forBay_field h, State.setAssembly_bay]
  simp only [done, State.respond_freeSlot]

variable (waits : (s.bay b).slot.state = .inProgress)
include waits

section
variable {r : LongRequest} (request : (s.bay b).slot.request = some r) (media : r.isMedia = true)
include request media

/-- ABORT of media work: its operation in flight goes on with no request, the slot is FREE, and the drain is tested. -/
theorem exec_abort_media : exec (.abort b.field) s = .next
    (((((s.setAssembly .idle).orphanOp b OpKind.isSlot).freeSlot b).checkDrain b).respond 0x19 b.field .ok) := by
  rw [exec_abort, execAbort, State.forBay_field h, State.setAssembly_bay]
  simp only [waits, request]
  cases r with
  | eject | flush => contradiction
  | _ => rfl

/-- Whatever the drain test leads to, an ABORT of media work leaves a free slot, the Write Queue and the other bay. -/
theorem exec_abort_media_frame : ∃ t, exec (.abort b.field) s = .next t ∧ (t.bay b).slot = {} ∧ t.queue = s.queue ∧
    t.bay b.other = s.bay b.other ∧ t.link.reply = some { status := .ok, code := 0x19, bay := b.field, body := [] } := by
  refine ⟨_, exec_abort_media h waits request media, ?_⟩
  have work : ((((s.setAssembly .idle).orphanOp b OpKind.isSlot).freeSlot b).checkDrain b).work b = (s.queue, {}) := by simp
  have within : State.Within b (s.setAssembly .idle)
      ((((s.setAssembly .idle).orphanOp b OpKind.isSlot).freeSlot b).checkDrain b) := by simp
  obtain ⟨queue, slot⟩ := Prod.mk.inj work
  exact ⟨by simpa using slot, queue, by simpa using within.other, rfl⟩

end

theorem exec_abort_flush (request : (s.bay b).slot.request = some .flush) :
    exec (.abort b.field) s =
      .next (({ s with queue := { s.queue with items := flushToOrder b s.queue.items } }.freeSlot b).replied
        0x19 b.field .ok) := by
  rw [exec_abort, execAbort, State.forBay_field h, State.setAssembly_bay]
  simp only [waits, request]
  exact congrArg _ (State.respond_freeSlot { s with queue := { s.queue with items := flushToOrder b s.queue.items } } ..)

section
variable (request : (s.bay b).slot.request = some .eject)
include request

/-- Past DRAIN an EJECT is not to be aborted (R159). -/
theorem exec_abort_eject_busy (past : ¬ ((s.bay b).record.state = .ejecting ∧ (s.bay b).record.phase = .drain)) :
    exec (.abort b.field) s = .next (s.replied 0x19 b.field .busy) := by
  rw [exec_abort, execAbort, State.forBay_field h, State.setAssembly_bay]
  simp only [waits, request, if_neg past, State.respond_idle]

theorem exec_abort_eject_drain (ejecting : (s.bay b).record.state = .ejecting) (drain : (s.bay b).record.phase = .drain) :
    exec (.abort b.field) s = .next (((s.setAssembly .idle).abortEject b).respond 0x19 b.field .ok) := by
  rw [exec_abort, execAbort, State.forBay_field h, State.setAssembly_bay]
  simp only [waits, request, if_pos (And.intro ejecting drain)]

end
end

/-- Two changes that agree on the bay record held leave the same state. -/
theorem State.modRecord_congr {s : State} {b : BayId} {f g : BayRecord → BayRecord}
    (agree : f (s.bay b).record = g (s.bay b).record) : s.modRecord b f = s.modRecord b g := by
  cases b <;> simpa [State.modRecord, State.modBay] using agree

/-- A bay goes back to READY or RAW by its standing, with event READY latched either way (R9). -/
theorem State.enterByStanding (s : State) (b : BayId) :
    (if (s.bay b).record.standing = .labelled then s.enterReady b else s.enterRaw b) =
      (s.modRecord b fun r =>
        { r with state := if r.standing = .labelled then .ready else .raw, phase := .none }).latch b .ready := by
  split <;> rename_i standing
  · exact congrArg (State.latch · b .ready) (State.modRecord_congr (by simp [standing]))
  · exact congrArg (State.latch · b .ready) (State.modRecord_congr (by simp [standing]))

/-- An eject aborted in DRAIN takes its bay back to READY or RAW by its standing, and latches event READY (R159). -/
theorem State.abortEject_eq (s : State) (b : BayId) : s.abortEject b =
    (((s.freeSlot b).modRecord b fun z =>
      { z with state := if z.standing = .labelled then .ready else .raw, phase := .none, eject := none }).modMedia b fun m =>
        { m with custody := none, saveFailures := 0,
                 op := m.op.map fun o => if o.kind = .labelSave then { o with orphan := true } else o }).latch b .ready := by
  simp only [State.abortEject, State.enterByStanding, State.orphanOp, decide_eq_true_eq]
  cases b <;> rfl

/-- Settles O51: RESULT by the state of the slot and its sectors, ABORT by the request in it; the drain test that follows an
ABORT of media work leaves the slot and the Write Queue alone. -/
theorem resultsAndAborts : Obligations.ResultsAndAborts := by
  intro s b h y result abort free ended
  refine ⟨fun idle => ⟨exec_result_free h idle, exec_abort_free h idle⟩, exec_abort_done h, fun r request => ?requests⟩
  refine ⟨exec_result_pending h request, exec_result_bare h request, exec_result_staged h request,
    fun waits media parking ejecting => (exec_abort_media h waits request media).trans ?finishes,
    fun waits media => exec_abort_media_frame h waits request media, ?flush, ?busy, ?drain⟩
  case finishes =>
    rw [State.checkDrain_elsewhere (by simpa using parking) (by simpa using ejecting)]
    cases b <;> rfl
  case flush =>
    rintro waits rfl
    refine (exec_abort_flush h waits request).trans ?_
    rw [flushToOrder_eq]
    cases b <;> rfl
  case busy =>
    rintro waits rfl past
    exact exec_abort_eject_busy h waits request past
  case drain =>
    rintro waits rfl ejecting drain -
    refine (exec_abort_eject_drain h waits request ejecting drain).trans ?_
    rw [State.abortEject_eq]
    cases b <;> rfl

end Sys2Proof.Machine
end

section
/-!
PROOFS. IDENTIFY and REPORT (R174, R177): the bytes of their bodies at their places (section 11.6), and the two statements.
-/

namespace Sys2Proof.Machine

theorem exec_identify (bay : Byte) (clear : Bool) (s : State) : exec (.identify bay clear) s = execIdentify bay clear s := by rfl
theorem exec_report (bay : Byte) (peek : Bool) (s : State) : exec (.report bay peek) s = execReport bay peek s := by rfl

/-- A field of bits is sent in one byte. -/
theorem byte_toNat {w : Nat} (x : BitVec w) : byte x.toNat = [x.setWidth 8] := by
  rw [byte, BitVec.ofNat_toNat]

/-! ### IDENTIFY -/

/-- The body of an IDENTIFY reply, byte for byte. -/
theorem State.identity_eq (s : State) : s.identity =
    [1#8, 0xA4#8, 0x01#8, 1#8, 2#8, s.link.unitAddress.setWidth 8, s.link.linkRate.setWidth 8,
      BitVec.ofNat 8 s.link.errors, BitVec.ofNat 8 (s.link.errors / 256), BitVec.ofNat 8 s.bayA.record.typeCode,
      BitVec.ofNat 8 s.bayB.record.typeCode] := by
  rw [State.identity, byte_toNat, byte_toNat]
  rfl

/-- Settles O11: the reply is composed before CLEAR sets the count to 0. -/
theorem identifyAnswers : Obligations.IdentifyAnswers := by
  intro s clear h body t
  have reply : (s.setAssembly .idle).respond 0x01 255#8 .ok (s.setAssembly .idle).identity = t :=
    congrArg (fun bytes => s.replied 0x01 255#8 .ok bytes) s.identity_eq
  rw [exec_identify, execIdentify, State.forUnit_field h]
  simp only [reply]

/-! ### REPORT -/

/-- Where the figures of a bay begin in the body of a REPORT reply. -/
def BayId.reportBase : BayId → Nat
  | .bayA => 4
  | .bayB => 30

/-- The figures of a bay in a REPORT, one for each byte, which takes its low eight bits. -/
def State.reportFigures (s : State) (b : BayId) : List Nat :=
  let y := s.bay b
  let cylinder := cylinderCode y.act.cylinder
  let events := y.latches.events.toNat
  [y.record.state.code, y.record.phase.code, y.record.cause.code, y.record.lock.toNat, y.spindle.state.code,
    y.spindle.reading, y.spindle.reading / 256, y.spindle.speedClass.code, y.act.state.code, cylinder, cylinder / 256,
    y.effectiveLevel, y.heat.offset, y.act.downshift, y.heat.estimate, y.heat.estimate / 256, y.heat.hot.toNat,
    s.queue.entriesOfBay b, s.queue.marksOfBay b, y.slot.state.code, events, events / 256, events / 65536,
    events / 16777216, labelCauseCode y.latches.labelCause, y.latches.counterNames.toNat]

theorem State.reportBay_eq (s : State) (b : BayId) : s.reportBay b = (s.reportFigures b).map (BitVec.ofNat 8) := by
  unfold State.reportBay State.reportFigures
  simp only [byte, byteOn, bytes2, bytes4, List.cons_append, List.nil_append, List.map_cons, List.map_nil]

theorem State.reportBay_length (s : State) (b : BayId) : (s.reportBay b).length = 26 := by
  rw [State.reportBay_eq, List.length_map]
  rfl

/-- The unit's own figures come first, and then those of each bay. -/
theorem State.reportBody_eq (s : State) : s.reportBody =
    [s.events.setWidth 8, BitVec.ofNat 8 s.budget.supply.code, 0#8, 0#8] ++ (s.reportBay .bayA ++ s.reportBay .bayB) := by
  rw [State.reportBody, byte_toNat]
  simp [byte, bytes2]

theorem State.reportBody_length (s : State) : s.reportBody.length = 56 := by
  simp [State.reportBody_eq, State.reportBay_length]

theorem State.reportBody_unit (s : State) (i : Fin 4) :
    s.reportBody[i.val]? = [s.events.setWidth 8, BitVec.ofNat 8 s.budget.supply.code, 0#8, 0#8][i.val]? := by
  rw [State.reportBody_eq, List.getElem?_append_left (by simp)]

/-- The figures of a bay stand at their offsets from its base. -/
theorem State.reportBody_bay {s : State} {b : BayId} {i n : Nat} (figure : (s.reportFigures b)[i]? = some n) :
    s.reportBody[b.reportBase + i]? = some (BitVec.ofNat 8 n) := by
  have here : (s.reportBay b)[i]? = some (BitVec.ofNat 8 n) := by simp [State.reportBay_eq, figure]
  obtain ⟨low, -⟩ := List.getElem?_eq_some_iff.1 here
  have lengthA := s.reportBay_length .bayA
  rw [State.reportBody_eq, ← here]
  cases b with
  | bayA =>
    rw [List.getElem?_append_right (by simp [BayId.reportBase]), List.getElem?_append_left (by simp [BayId.reportBase]; omega)]
    exact congrArg ((s.reportBay .bayA)[·]?) (by simp [BayId.reportBase])
  | bayB =>
    rw [List.getElem?_append_right (by simp [BayId.reportBase]; omega),
      List.getElem?_append_right (by simp [BayId.reportBase]; omega)]
    exact congrArg ((s.reportBay .bayB)[·]?) (by simp [BayId.reportBase]; omega)

/-- Settles O12: the reply is composed before the latches are cleared, and each byte of its body is found by its place among
the unit's own figures or those of a bay. -/
theorem reportAnswers : Obligations.ReportAnswers := by
  refine ⟨fun s peek h => ?answer, fun s b => ?bytes⟩
  case answer =>
    rw [exec_report, execReport, State.forUnit_field h]
    cases peek <;> rfl
  case bytes =>
    intro r y base at1 at2
    have base_eq : base = b.reportBase := by cases b <;> rfl
    have one {i n : Nat} (figure : (s.reportFigures b)[i]? = some n) : at1 i n := by
      simp only [at1, base_eq]
      exact State.reportBody_bay figure
    have two {i n : Nat} (low : (s.reportFigures b)[i]? = some n)
        (high : (s.reportFigures b)[i + 1]? = some (n / 256)) : at2 i n := ⟨one low, one high⟩
    have cylinderBytes : at2 9 (cylinderCode y.act.cylinder) := two rfl rfl
    have cause : at1 24 (labelCauseCode y.latches.labelCause) := one rfl
    have topByte : (s.reportFigures b)[22 + 1]? = some (y.latches.events.toNat / 65536 / 256) := by
      rw [Nat.div_div_eq_div_mul]
      rfl
    refine ⟨s.reportBody_length, s.reportBody_unit 0, (s.reportBody_unit 1).trans ?supply, s.reportBody_unit 2,
      s.reportBody_unit 3, one rfl, one rfl, one rfl, one rfl, one rfl, two rfl rfl, one rfl, one rfl, ?cylinder, one rfl,
      one rfl, one rfl, two rfl rfl, one rfl, one rfl, one rfl, one rfl, two rfl rfl, two rfl topByte, cause, one rfl⟩
    case supply => cases s.budget.supply <;> rfl
    case cylinder =>
      cases known : y.act.cylinder with
      | none | some c =>
        rw [known] at cylinderBytes
        exact cylinderBytes

end Sys2Proof.Machine
end

section
/-!
SUPPORT. The rules of the Write Queue's list for one bay (R125, R129, R131) as rules of the bay's own items, and what keeps them:
a list with fewer entries, an entry whose WRITING marker changes, an item that joins the list at its end, and the mark test.
-/

namespace Sys2Proof.Machine

/-- An element that a list does not hold joins it without a duplicate. -/
theorem nodup_concat {α : Type} {l : List α} {a : α} (distinct : l.Nodup) (fresh : ∀ b ∈ l, b ∉ [a]) : (l ++ [a]).Nodup := by
  refine List.nodup_append.2 ⟨distinct, List.nodup_cons.2 ⟨List.not_mem_nil, List.nodup_nil⟩, ?_⟩
  rintro b mem _ here rfl
  exact fresh b mem here

/-! ### Stretches -/

/-- An entry that is not fenced stands in the list with no mark of the bay before it. -/
theorem mem_firstStretch {b : BayId} {l : List Item} {e : WriteEntry} :
    e ∈ entriesOf (firstStretch b l) ↔ ∃ pre post, l = pre ++ .entry e :: post ∧ ∀ k, Item.mark b k ∉ pre := by
  induction l with
  | nil => simp [firstStretch]
  | cons i l ih =>
    constructor
    · intro h
      cases i with
      | entry f =>
        rw [firstStretch_cons_entry, entriesOf_entry, List.mem_cons] at h
        rcases h with rfl | h
        · exact ⟨[], l, rfl, by simp⟩
        · obtain ⟨pre, post, rfl, free⟩ := ih.1 h
          exact ⟨.entry f :: pre, post, rfl, by simpa using free⟩
      | mark c k =>
        by_cases own : c = b
        · simp [firstStretch, own] at h
        · rw [firstStretch_cons_mark own, entriesOf_mark] at h
          obtain ⟨pre, post, rfl, free⟩ := ih.1 h
          exact ⟨.mark c k :: pre, post, rfl, by simpa [Ne.symm own] using free⟩
    · rintro ⟨pre, post, split, free⟩
      cases pre with
      | nil =>
        obtain ⟨rfl, rfl⟩ := List.cons.inj split
        simp [firstStretch_cons_entry]
      | cons j pre =>
        obtain ⟨rfl, rfl⟩ := List.cons.inj split
        have rest := ih.2 ⟨pre, post, rfl, fun k hk => free k (List.mem_cons_of_mem _ hk)⟩
        cases i with
        | entry f => rw [firstStretch_cons_entry, entriesOf_entry]; exact List.mem_cons_of_mem _ rest
        | mark c k =>
          have other : c ≠ b := fun own => free k (own ▸ List.mem_cons_self)
          rw [firstStretch_cons_mark other, entriesOf_mark]
          exact rest

/-- Two entries of a bay and block stand in one stretch, the first before the second. -/
def InOneStretch (b : BayId) (l : List Item) (e f : WriteEntry) : Prop :=
  e.bay = b ∧ f.bay = b ∧ f.block = e.block ∧
    ∃ pre mid post, l = pre ++ .entry e :: (mid ++ .entry f :: post) ∧ ∀ k, Item.mark b k ∉ mid

/-- The rule of the stretches: of two entries of a block in one stretch, the earlier is WRITING and the later QUEUED (R125). -/
theorem stretchesOk_iff {b : BayId} {l : List Item} :
    stretchesOk b l = true ↔ ∀ e f, InOneStretch b l e f → e.writing = true ∧ f.writing = false := by
  induction l with
  | nil => simp [stretchesOk, InOneStretch]
  | cons i l ih =>
    have later {e f : WriteEntry} : InOneStretch b l e f → InOneStretch b (i :: l) e f := by
      rintro ⟨he, hf, block, pre, mid, post, rfl, free⟩
      exact ⟨he, hf, block, i :: pre, mid, post, rfl, free⟩
    cases i with
    | mark c k =>
      rw [show stretchesOk b (.mark c k :: l) = stretchesOk b l from rfl, ih]
      refine ⟨fun h e f => ?_, fun h e f p => h e f (later p)⟩
      rintro ⟨he, hf, block, pre, mid, post, split, free⟩
      cases pre with
      | nil => simp at split
      | cons j pre =>
        obtain ⟨-, rfl⟩ := List.cons.inj split
        exact h e f ⟨he, hf, block, pre, mid, post, rfl, free⟩
    | entry g =>
      simp only [stretchesOk, Bool.and_eq_true, ih, Bool.or_eq_true, decide_eq_true_eq, List.all_eq_true, Bool.not_eq_true']
      refine ⟨fun ⟨first, rest⟩ e f => ?_, fun h => ⟨?_, fun e f p => h e f (later p)⟩⟩
      · rintro ⟨he, hf, block, pre, mid, post, split, free⟩
        cases pre with
        | nil =>
          obtain ⟨same, rfl⟩ := List.cons.inj split
          cases same
          exact ((first.resolve_left (by simp [he])) f (mem_firstStretch.2 ⟨mid, post, rfl, free⟩)).resolve_left
            (by simp [hf, block])
        | cons j pre =>
          obtain ⟨-, rfl⟩ := List.cons.inj split
          exact rest e f ⟨he, hf, block, pre, mid, post, rfl, free⟩
      · by_cases own : g.bay = b
        · refine .inr fun f hf => ?_
          by_cases same : f.bay = b ∧ f.block = g.block
          · obtain ⟨mid, post, rfl, free⟩ := mem_firstStretch.1 hf
            exact .inr (h g f ⟨own, same.1, same.2, [], mid, post, rfl, free⟩)
          · by_cases fb : f.bay = b
            · exact .inl (.inr fun eq => same ⟨fb, eq⟩)
            · exact .inl (.inl fb)
        · exact .inl own

/-! ### The rules read from the bay's own items -/

theorem entriesOf_itemsOf (b : BayId) (l : List Item) :
    entriesOf (itemsOf b l) = (entriesOf l).filter fun e => e.bay = b := by
  induction l with
  | nil => rfl
  | cons i l ih =>
    simp only [itemsOf] at ih
    cases i with
    | entry e => by_cases h : e.bay = b <;> simp [itemsOf, h, ih]
    | mark c k => by_cases h : c = b <;> simp [itemsOf, h, ih]

theorem firstStretch_itemsOf (b : BayId) (l : List Item) : firstStretch b (itemsOf b l) = itemsOf b (firstStretch b l) := by
  induction l with
  | nil => rfl
  | cons i l ih =>
    simp only [itemsOf] at ih
    cases i with
    | entry e => by_cases h : e.bay = b <;> simp [itemsOf, h, ih, firstStretch_cons_entry]
    | mark c k =>
      by_cases h : c = b
      · simp [itemsOf, h, firstStretch]
      · simp [itemsOf, h, ih, firstStretch_cons_mark h]

theorem stretchesOk_itemsOf (b : BayId) (l : List Item) : stretchesOk b (itemsOf b l) = stretchesOk b l := by
  induction l with
  | nil => rfl
  | cons i l ih =>
    cases i with
    | entry e =>
      by_cases h : e.bay = b
      · have own : itemsOf b (.entry e :: l) = .entry e :: itemsOf b l := by simp [itemsOf, h]
        rw [own]
        simp only [stretchesOk, ih, firstStretch_itemsOf, entriesOf_itemsOf, List.all_filter]
        congr 3
        funext f
        by_cases hf : f.bay = b <;> simp [hf]
      · have other : itemsOf b (.entry e :: l) = itemsOf b l := by simp [itemsOf, h]
        rw [other, ih]
        simp [stretchesOk, h]
    | mark c k =>
      by_cases h : c = b
      · have own : itemsOf b (.mark c k :: l) = .mark c k :: itemsOf b l := by simp [itemsOf, h]
        rw [own]
        exact ih
      · have other : itemsOf b (.mark c k :: l) = itemsOf b l := by simp [itemsOf, h]
        rw [other]
        exact ih

@[simp] theorem itemsOf_itemsOf (b : BayId) (l : List Item) : itemsOf b (itemsOf b l) = itemsOf b l := by simp [itemsOf]

/-- The rules of a bay are rules of its own items. -/
theorem itemsOk_itemsOf {b : BayId} {l : List Item} : ItemsOk (itemsOf b l) b ↔ ItemsOk l b := by
  have writing : (entriesOf (itemsOf b l)).filter (fun e => decide (e.bay = b) && e.writing) =
      (entriesOf l).filter fun e => decide (e.bay = b) && e.writing := by
    rw [entriesOf_itemsOf, List.filter_filter]
    refine List.filter_congr fun e _ => ?_
    by_cases h : e.bay = b <;> simp [h]
  have fence (e : WriteEntry) (own : e.bay = b) :
      e ∈ entriesOf (firstStretch b (itemsOf b l)) ↔ e ∈ entriesOf (firstStretch b l) := by
    rw [firstStretch_itemsOf, entriesOf_itemsOf]
    simp [own]
  have entry (e : WriteEntry) (own : e.bay = b) : e ∈ entriesOf (itemsOf b l) ↔ e ∈ entriesOf l := by
    rw [entriesOf_itemsOf]
    simp [own]
  constructor
  · rintro ⟨one, unfenced, head, stretches⟩
    exact ⟨writing ▸ one, fun e he own w => (fence e own).1 (unfenced e ((entry e own).2 he) own w),
      by simpa using head, stretchesOk_itemsOf b l ▸ stretches⟩
  · rintro ⟨one, unfenced, head, stretches⟩
    exact ⟨writing ▸ one, fun e he own w => (fence e own).2 (unfenced e ((entry e own).1 he) own w),
      by simpa using head, (stretchesOk_itemsOf b l).trans stretches⟩

/-- A list with the same items of a bay keeps the bay's rules. -/
theorem ItemsOk.congr {b : BayId} {l l' : List Item} (ok : ItemsOk l b) (same : itemsOf b l' = itemsOf b l) : ItemsOk l' b :=
  itemsOk_itemsOf.1 (same ▸ itemsOk_itemsOf.2 ok)

/-- A bay without items meets its rules. -/
theorem ItemsOk.of_drained {b : BayId} {l : List Item} (none : itemsOf b l = []) : ItemsOk l b :=
  itemsOk_itemsOf.1 (by rw [none]; exact ⟨by simp, by simp, rfl, rfl⟩)

/-- A bay has one WRITING entry at most. -/
theorem ItemsOk.writing_unique {b : BayId} {l : List Item} (ok : ItemsOk l b) {e f : WriteEntry} (he : e ∈ entriesOf l)
    (hf : f ∈ entriesOf l) (eb : e.bay = b) (fb : f.bay = b) (ew : e.writing = true) (fw : f.writing = true) : e = f := by
  have one := ok.oneWriting
  have e_mem : e ∈ (entriesOf l).filter fun x => decide (x.bay = b) && x.writing := by simpa [eb, ew] using he
  have f_mem : f ∈ (entriesOf l).filter fun x => decide (x.bay = b) && x.writing := by simpa [fb, fw] using hf
  match h : (entriesOf l).filter fun x => decide (x.bay = b) && x.writing with
  | [] => rw [h] at e_mem; exact absurd e_mem List.not_mem_nil
  | [x] => rw [h, List.mem_singleton] at e_mem f_mem; exact e_mem.trans f_mem.symm
  | _ :: _ :: _ => rw [h] at one; simp at one

/-! ### Fewer entries -/

theorem firstStretch_filter {b : BayId} {p : Item → Bool} (marks : ∀ k, p (.mark b k) = true) (l : List Item) :
    firstStretch b (l.filter p) = (firstStretch b l).filter p := by
  induction l with
  | nil => rfl
  | cons i l ih =>
    cases i with
    | entry e => cases h : p (.entry e) <;> simp [h, ih, firstStretch_cons_entry]
    | mark c k =>
      by_cases own : c = b
      · subst own
        simp [marks, firstStretch]
      · cases h : p (.mark c k) <;> simp [h, ih, firstStretch_cons_mark own]

theorem entriesOf_sublist {l l' : List Item} (h : l.Sublist l') : (entriesOf l).Sublist (entriesOf l') := by
  induction h with
  | slnil => exact .slnil
  | cons i _ ih => cases i with
    | entry e => exact .cons e ih
    | mark c k => exact ih
  | cons_cons i _ ih => cases i with
    | entry e => exact .cons_cons e ih
    | mark c k => exact ih

/-- The rule of the stretches is kept where entries leave and every mark of the bay stays. -/
theorem stretchesOk_filter {b : BayId} {p : Item → Bool} (marks : ∀ k, p (.mark b k) = true) {l : List Item}
    (ok : stretchesOk b l = true) : stretchesOk b (l.filter p) = true := by
  induction l with
  | nil => rfl
  | cons i l ih =>
    cases i with
    | entry e =>
      obtain ⟨first, rest⟩ := Bool.and_eq_true_iff.1 ok
      cases h : p (.entry e) with
      | false => simpa [h] using ih rest
      | true =>
        simp only [h, List.filter_cons_of_pos, stretchesOk, firstStretch_filter marks, Bool.and_eq_true, ih rest, and_true]
        have fewer := (entriesOf_sublist (List.filter_sublist (p := p) (l := firstStretch b l))).subset
        simp only [Bool.or_eq_true, decide_eq_true_eq, List.all_eq_true] at first ⊢
        exact first.imp id fun all f hf => all f (fewer hf)
    | mark c k =>
      have rest := ih ok
      cases h : p (.mark c k) with
      | false => simpa [h] using rest
      | true => simpa [h, stretchesOk] using rest

/-! ### The mark test (R129) -/

/-- The mark test takes the marks at the head of the bay's own items. -/
theorem itemsOf_dropMarks_own (b : BayId) (l : List Item) :
    itemsOf b (dropMarks b l).1 = (itemsOf b l).dropWhile fun i => !i.isEntry := by
  induction l with
  | nil => rfl
  | cons i l ih =>
    simp only [itemsOf] at ih
    cases i with
    | entry e => by_cases h : e.bay = b <;> simp [dropMarks, h, itemsOf, Item.isEntry, ih]
    | mark c k => by_cases h : c = b <;> simp [dropMarks, h, itemsOf, Item.isEntry, ih]

theorem dropMarks_sublist (b : BayId) (l : List Item) : ((dropMarks b l).1).Sublist l := by
  induction l with
  | nil => exact .slnil
  | cons i l ih =>
    cases i with
    | entry e =>
      by_cases h : e.bay = b
      · simp [dropMarks, h]
      · simpa [dropMarks, h] using ih
    | mark c k =>
      by_cases h : c = b
      · simpa [dropMarks, h] using ih.cons _
      · simpa [dropMarks, h] using ih

theorem stretchesOk_dropWhile {b : BayId} {l : List Item} (ok : stretchesOk b l = true) :
    stretchesOk b (l.dropWhile fun i => !i.isEntry) = true := by
  induction l with
  | nil => rfl
  | cons i l ih =>
    cases i with
    | entry e => simpa [Item.isEntry] using ok
    | mark c k => simpa [Item.isEntry] using ih ok

theorem entriesOf_dropWhile (l : List Item) : entriesOf (l.dropWhile fun i => !i.isEntry) = entriesOf l := by
  induction l with
  | nil => rfl
  | cons i l ih =>
    cases i with
    | entry e => simp [Item.isEntry]
    | mark c k => simpa [Item.isEntry] using ih

/-- The mark test brings a bay without a WRITING entry to its rules, whatever marks stand first. -/
theorem ItemsOk.dropMarks_of_none_writing {b : BayId} {l : List Item} (stretches : stretchesOk b l = true)
    (none : ∀ e ∈ entriesOf l, e.bay = b → e.writing = false) : ItemsOk (dropMarks b l).1 b := by
  refine ⟨?_, ?_, ?_, ?_⟩
  · rw [entriesOf_dropMarks, List.filter_eq_nil_iff.2]
    · simp
    · intro e he
      by_cases own : e.bay = b <;> simp [own, none e he]
  · intro e he own writing
    rw [entriesOf_dropMarks] at he
    simp [none e he own] at writing
  · rw [itemsOf_dropMarks_own]
    cases h : (itemsOf b l).dropWhile fun i => !i.isEntry with
    | nil => rfl
    | cons i rest => simpa [h] using List.head_dropWhile_not (l := itemsOf b l) (p := fun i => !i.isEntry) (by simp [h])
  · rw [← stretchesOk_itemsOf, itemsOf_dropMarks_own]
    exact stretchesOk_dropWhile (by rwa [stretchesOk_itemsOf])

/-- The mark test finds nothing to take where the bay's first item is an entry. -/
theorem ItemsOk.dropMarks {b : BayId} {l : List Item} (ok : ItemsOk l b) : ItemsOk (dropMarks b l).1 b := by
  refine ok.congr ?_
  rw [itemsOf_dropMarks_own]
  have head := ok.noMarkHead
  cases h : itemsOf b l with
  | nil => rfl
  | cons i rest =>
    rw [h] at head
    have entry : i.isEntry = true := by simpa using head
    simp [entry]

/-! ### An item that joins the list -/

theorem mem_firstStretch_append {b : BayId} {l m : List Item} {e : WriteEntry} (h : e ∈ entriesOf (firstStretch b l)) :
    e ∈ entriesOf (firstStretch b (l ++ m)) := by
  obtain ⟨pre, post, rfl, free⟩ := mem_firstStretch.1 h
  exact mem_firstStretch.2 ⟨pre, post ++ m, by simp, free⟩

/-- Two entries of a list with an item more are in one stretch of the list, or the item is the second of them. -/
theorem InOneStretch.of_concat {b : BayId} {l : List Item} {i : Item} {e f : WriteEntry} (h : InOneStretch b (l ++ [i]) e f) :
    InOneStretch b l e f ∨ (i = .entry f ∧ .entry e ∈ lastStretch b l) := by
  obtain ⟨he, hf, block, pre, mid, post, split, free⟩ := h
  rcases post.eq_nil_or_concat with rfl | ⟨post, j, rfl⟩
  · have ends : l ++ [i] = (pre ++ .entry e :: mid) ++ [.entry f] := by simp [split]
    obtain ⟨rfl, last⟩ := List.append_inj' ends rfl
    refine .inr ⟨by simpa using last, ?_⟩
    rw [lastStretch_append pre (by simpa using free)]
    simp
  · have ends : l ++ [i] = (pre ++ .entry e :: (mid ++ .entry f :: post)) ++ [j] := by simp [split]
    obtain ⟨rfl, -⟩ := List.append_inj' ends rfl
    exact .inl ⟨he, hf, block, pre, mid, post, rfl, free⟩

/-- A QUEUED entry joins the list where the last stretch holds no QUEUED entry of its block. -/
theorem ItemsOk.append_entry {b : BayId} {l : List Item} (ok : ItemsOk l b) {e : WriteEntry} (queued : e.writing = false)
    (alone : ∀ f ∈ entriesOf (lastStretch b l), f.bay = b → f.block = e.block → f.writing = true) :
    ItemsOk (l ++ [.entry e]) b := by
  refine ⟨?_, ?_, ?_, ?_⟩
  · simpa [queued] using ok.oneWriting
  · intro f hf own writing
    rw [entriesOf_append, List.mem_append] at hf
    rcases hf with hf | hf
    · exact mem_firstStretch_append (ok.unfenced f hf own writing)
    · simp only [entriesOf_entry, entriesOf_nil, List.mem_singleton] at hf
      simp [hf, queued] at writing
  · have head := ok.noMarkHead
    simp only [itemsOf, List.filter_append]
    simp only [itemsOf] at head
    cases h : l.filter fun i => decide (i.bay = b) with
    | nil => by_cases own : e.bay = b <;> simp [own, Item.isEntry]
    | cons i rest => simpa [h] using head
  · refine stretchesOk_iff.2 fun f g pair => ?_
    rcases pair.of_concat with within | ⟨last, earlier⟩
    · exact stretchesOk_iff.1 ok.stretches f g within
    · obtain ⟨fb, -, block, -⟩ := pair
      cases last
      exact ⟨alone f (mem_entriesOf.2 earlier) fb block.symm, queued⟩

/-- A mark joins the list of a bay: the rules but that of the first item. -/
theorem stretchesOk_append_mark {b c : BayId} {l : List Item} (ok : stretchesOk b l = true) (k : MarkKind) :
    stretchesOk b (l ++ [.mark c k]) = true :=
  stretchesOk_iff.2 fun _ _ pair =>
    stretchesOk_iff.1 ok _ _ (pair.of_concat.resolve_right fun ⟨last, _⟩ => Item.noConfusion last)

/-- A mark joins the list of a bay that has an entry. -/
theorem ItemsOk.append_mark {b : BayId} {l : List Item} (ok : ItemsOk l b) (some : itemsOf b l ≠ []) (k : MarkKind) :
    ItemsOk (l ++ [.mark b k]) b := by
  refine ⟨by simpa using ok.oneWriting, fun e he own writing => ?_, ?_, stretchesOk_append_mark ok.stretches k⟩
  · exact mem_firstStretch_append (ok.unfenced e (by simpa using he) own writing)
  · have head := ok.noMarkHead
    have joined : itemsOf b (l ++ [.mark b k]) = itemsOf b l ++ [.mark b k] := by simp [itemsOf]
    rw [joined]
    cases h : itemsOf b l with
    | nil => exact absurd h some
    | cons i rest => simpa [h] using head

/-! ### Items that change in their places -/

/-- A change of items that takes an entry to an entry of the same bay and block, and a mark to a mark of the same bay. -/
structure ChangesItems (h : Item → Item) (g : WriteEntry → WriteEntry) : Prop where
  entry : ∀ e, h (.entry e) = .entry (g e)
  mark  : ∀ c k, ∃ k', h (.mark c k) = .mark c k'
  bay   : ∀ e, (g e).bay = e.bay
  block : ∀ e, (g e).block = e.block

namespace ChangesItems

variable {h : Item → Item} {g : WriteEntry → WriteEntry} (c : ChangesItems h g)
include c

theorem item_bay (i : Item) : (h i).bay = i.bay := by
  cases i with
  | entry e => rw [c.entry]; exact c.bay e
  | mark d k => obtain ⟨k', hk⟩ := c.mark d k; rw [hk]; rfl

theorem item_isEntry (i : Item) : (h i).isEntry = i.isEntry := by
  cases i with
  | entry e => rw [c.entry]; rfl
  | mark d k => obtain ⟨k', hk⟩ := c.mark d k; rw [hk]; rfl

theorem of_entry {i : Item} {f : WriteEntry} (same : h i = .entry f) : ∃ e, i = .entry e ∧ g e = f := by
  cases i with
  | entry e => exact ⟨e, rfl, Item.entry.inj ((c.entry e).symm.trans same)⟩
  | mark d k => obtain ⟨k', hk⟩ := c.mark d k; rw [hk] at same; exact Item.noConfusion same

theorem entriesOf_map (l : List Item) : entriesOf (l.map h) = (entriesOf l).map g := by
  induction l with
  | nil => rfl
  | cons i l ih =>
    cases i with
    | entry e => simp [c.entry, ih]
    | mark d k => obtain ⟨k', hk⟩ := c.mark d k; simp [hk, ih]

theorem itemsOf_map (b : BayId) (l : List Item) : itemsOf b (l.map h) = (itemsOf b l).map h := by
  simp only [itemsOf, List.filter_map, Function.comp_def, c.item_bay]

/-- The marks of the bay stand where they stood. -/
theorem unmarked_of_map {b : BayId} {l : List Item} (free : ∀ k, Item.mark b k ∉ l.map h) (k : MarkKind) : Item.mark b k ∉ l := by
  obtain ⟨k', hk⟩ := c.mark b k
  exact fun there => free k' (hk ▸ List.mem_map_of_mem there)

theorem unmarked_map {b : BayId} {l : List Item} (free : ∀ k, Item.mark b k ∉ l) (k : MarkKind) : Item.mark b k ∉ l.map h := by
  intro there
  obtain ⟨i, hi, same⟩ := List.mem_map.1 there
  cases i with
  | entry e => rw [c.entry] at same; exact Item.noConfusion same
  | mark d k' =>
    obtain ⟨k'', hk⟩ := c.mark d k'
    rw [hk] at same
    obtain ⟨rfl, -⟩ := Item.mark.inj same
    exact free k' hi

theorem mem_firstStretch_map {b : BayId} {l : List Item} {e : WriteEntry} (he : e ∈ entriesOf (firstStretch b l)) :
    g e ∈ entriesOf (firstStretch b (l.map h)) := by
  obtain ⟨pre, post, rfl, free⟩ := mem_firstStretch.1 he
  exact mem_firstStretch.2 ⟨pre.map h, post.map h, by simp [c.entry], c.unmarked_map free⟩

/-- Two entries of one stretch come from two entries of one stretch. -/
theorem inOneStretch_of_map {b : BayId} {l : List Item} {e f : WriteEntry} (pair : InOneStretch b (l.map h) e f) :
    ∃ e' f', InOneStretch b l e' f' ∧ g e' = e ∧ g f' = f := by
  obtain ⟨he, hf, block, pre, mid, post, split, free⟩ := pair
  obtain ⟨pre', behind, rfl, rfl, fromFirst⟩ := List.map_eq_append_iff.1 split
  obtain ⟨i, between, rfl, first, afterFirst⟩ := List.map_eq_cons_iff.1 fromFirst
  obtain ⟨mid', last, rfl, rfl, fromSecond⟩ := List.map_eq_append_iff.1 afterFirst
  obtain ⟨j, post', rfl, second, rfl⟩ := List.map_eq_cons_iff.1 fromSecond
  obtain ⟨e', rfl, rfl⟩ := c.of_entry first
  obtain ⟨f', rfl, rfl⟩ := c.of_entry second
  exact ⟨e', f', ⟨(c.bay e').symm.trans he, (c.bay f').symm.trans hf, by simpa only [c.block] using block,
    pre', mid', post', rfl, c.unmarked_of_map free⟩, rfl, rfl⟩

theorem noMarkHead_map {b : BayId} {l : List Item} (head : (itemsOf b l).head?.all Item.isEntry = true) :
    (itemsOf b (l.map h)).head?.all Item.isEntry = true := by
  rw [c.itemsOf_map]
  cases k : itemsOf b l with
  | nil => rfl
  | cons i rest => simpa [k, c.item_isEntry] using head

/-- A change that leaves the items of a bay keeps the bay's rules. -/
theorem itemsOk_other {b : BayId} {l : List Item} (ok : ItemsOk l b) (others : ∀ i, i.bay = b → h i = i) :
    ItemsOk (l.map h) b := by
  refine ok.congr ?_
  rw [c.itemsOf_map]
  refine (List.map_congr_left fun i hi => ?_).trans (List.map_id _)
  exact others i (by simpa [itemsOf] using (List.mem_filter.1 hi).2)

/-- A change that keeps the WRITING markers of a bay keeps the bay's rules. -/
theorem itemsOk_writing {b : BayId} {l : List Item} (ok : ItemsOk l b) (writing : ∀ e, (g e).writing = e.writing) :
    ItemsOk (l.map h) b := by
  refine ⟨?_, ?_, c.noMarkHead_map ok.noMarkHead, ?_⟩
  · have one := ok.oneWriting
    rw [c.entriesOf_map, List.filter_map, List.length_map]
    simpa only [Function.comp_def, c.bay, writing] using one
  · intro e he own w
    rw [c.entriesOf_map] at he
    obtain ⟨f, hf, rfl⟩ := List.mem_map.1 he
    exact c.mem_firstStretch_map (ok.unfenced f hf (by rwa [c.bay] at own) (by rwa [writing] at w))
  · refine stretchesOk_iff.2 fun e f pair => ?_
    obtain ⟨e', f', before, rfl, rfl⟩ := c.inOneStretch_of_map pair
    simpa only [writing] using stretchesOk_iff.1 ok.stretches e' f' before

end ChangesItems

end Sys2Proof.Machine
end
section
/-!
SUPPORT. What each change of the Write Queue's list keeps of its rules: discards, the entry removed with the mark test that
follows, the entry that returns to QUEUED or becomes WRITING, a WRITE placed, and the marks (R123 to R137).
-/

namespace Sys2Proof.Machine

namespace WriteQueue

variable {q q' : WriteQueue} {b : BayId}

/-! ### Fewer items -/

theorem length_eq_entries_add_marks (l : List Item) : l.length = (entriesOf l).length + l.countP fun i => !i.isEntry := by
  induction l with
  | nil => rfl
  | cons i l ih => cases i <;> simp [Item.isEntry, ih] <;> omega

theorem markCount_eq (q : WriteQueue) : q.markCount = q.items.countP fun i => !i.isEntry := by
  simp only [WriteQueue.markCount, WriteQueue.entryCount, length_eq_entries_add_marks q.items]
  omega

/-- A list with fewer items keeps the rules, if it keeps those of each bay. -/
theorem Ok.of_sublist (ok : q.Ok) (fewer : q'.items.Sublist q.items) (arrival : q'.nextArrival = q.nextArrival)
    (items : ∀ b, ItemsOk q'.items b) : q'.Ok := by
  have entries := entriesOf_sublist fewer
  refine ⟨Nat.le_trans entries.length_le ok.entries, ?_, ok.slots.sublist (entries.map _), fun e he => ok.fields e (entries.subset he),
    arrival ▸ ok.arrival, items .bayA, items .bayB⟩
  have marks := ok.marks
  rw [markCount_eq] at marks ⊢
  exact Nat.le_trans fewer.countP_le marks

/-- A discard of a bay keeps the rules (R137). -/
theorem Ok.without (ok : q.Ok) (b : BayId) : ({ q with items := q.items.filter fun i => i.bay ≠ b } : WriteQueue).Ok := by
  refine ok.of_sublist List.filter_sublist rfl fun c => ?_
  by_cases own : c = b
  · exact ItemsOk.of_drained (by simp [itemsOf, own])
  · refine (ok.items c).congr ?_
    simp only [itemsOf, List.filter_filter]
    refine List.filter_congr fun i _ => ?_
    by_cases h : i.bay = c <;> simp [h, own]

theorem outcomeEntry_some {n : Nat} {e : WriteEntry} (h : q.outcomeEntry b n = some e) :
    e ∈ entriesOf q.items ∧ e.bay = b ∧ e.arrival = n ∧ e.writing = true := by
  have is := List.find?_some h
  simp only [Bool.decide_and, Bool.decide_eq_true, Bool.and_eq_true, decide_eq_true_eq] at is
  exact ⟨List.mem_of_find?_eq_some h, is⟩

theorem itemsOf_removeWriting_other {c : BayId} (other : c ≠ b) (n : Nat) (l : List Item) :
    itemsOf c (removeWriting b n l) = itemsOf c l := by
  simp only [removeWriting, itemsOf, List.filter_filter]
  refine List.filter_congr fun i _ => ?_
  cases i with
  | entry e => by_cases h : e.bay = c <;> simp [h, other]
  | mark d k => simp

/-- The entry of an outcome leaves the list, and the mark test follows (R133, R134). -/
theorem Ok.remove (ok : q.Ok) {n : Nat} {e : WriteEntry} (h : q.outcomeEntry b n = some e) :
    ({ q with items := (Machine.dropMarks b (removeWriting b n q.items)).1 } : WriteQueue).Ok := by
  obtain ⟨here, eb, en, ew⟩ := outcomeEntry_some h
  refine ok.of_sublist ((dropMarks_sublist b _).trans List.filter_sublist) rfl fun c => ?_
  by_cases own : c = b
  · subst own
    refine ItemsOk.dropMarks_of_none_writing (stretchesOk_filter (fun k => rfl) (ok.items c).stretches) fun f hf fb => ?_
    have gone := not_mem_removeWriting c n q.items f hf
    have there := (entriesOf_sublist List.filter_sublist).subset hf
    rw [Bool.eq_false_iff]
    intro fw
    have same := (ok.items c).writing_unique here there eb fb ew fw
    exact gone ⟨fb, same ▸ en, fw⟩
  · exact (ok.items c).congr ((itemsOf_dropMarks_other own _).trans (itemsOf_removeWriting_other own n _))

/-! ### Items that change in their places -/

/-- A change of the items in their places keeps the rules, if it keeps the slots and the ranges of the entries and the rules of
each bay. -/
theorem Ok.map (ok : q.Ok) {h : Item → Item} {g : WriteEntry → WriteEntry} (c : ChangesItems h g)
    (slot : ∀ e, (g e).slot = e.slot)
    (fields : ∀ e ∈ entriesOf q.items, (g e).attempts ≤ 2 ∧ (g e).arrival = e.arrival)
    (items : ∀ b, ItemsOk (q.items.map h) b) : ({ q with items := q.items.map h } : WriteQueue).Ok := by
  refine ⟨?_, ?_, ?_, ?_, ok.arrival, items .bayA, items .bayB⟩
  · have entries := ok.entries
    simpa [WriteQueue.entryCount, c.entriesOf_map] using entries
  · have marks := ok.marks
    rw [markCount_eq] at marks ⊢
    simpa [List.countP_map, Function.comp_def, c.item_isEntry] using marks
  · simpa [c.entriesOf_map, Function.comp_def, slot] using ok.slots
  · intro e he
    rw [c.entriesOf_map] at he
    obtain ⟨f, hf, rfl⟩ := List.mem_map.1 he
    obtain ⟨low, -, old⟩ := ok.fields f hf
    obtain ⟨few, same⟩ := fields f hf
    exact ⟨(slot f).symm ▸ low, few, same.symm ▸ old⟩

/-- The entry of an outcome as it returns to QUEUED. -/
def requeued (b : BayId) (n attempts : Nat) (e : WriteEntry) : WriteEntry :=
  if e.bay = b ∧ e.arrival = n ∧ e.writing then { e with writing := false, attempts } else e

theorem changeWriting_changes (b : BayId) (n attempts : Nat) : ∃ h, ChangesItems h (requeued b n attempts) ∧
    (∀ i : Item, i.bay ≠ b → h i = i) ∧
    ∀ l, changeWriting b n (fun e => { e with writing := false, attempts }) l = l.map h := by
  refine ⟨_, ⟨fun e => ?_, fun c k => ⟨k, rfl⟩, fun e => ?_, fun e => ?_⟩, fun i other => ?_, fun l => rfl⟩
  · simp only [requeued]; split <;> rfl
  · simp only [requeued]; split <;> rfl
  · simp only [requeued]; split <;> rfl
  · cases i with
    | entry e => simp [show e.bay ≠ b from other]
    | mark c k => rfl

/-- What stands after an entry of an outcome that no other entry of the list is. -/
theorem afterWriting_split {n : Nat} {e : WriteEntry} {pre post : List Item}
    (is : e.bay = b ∧ e.arrival = n ∧ e.writing = true)
    (first : ∀ f ∈ entriesOf pre, ¬ (f.bay = b ∧ f.arrival = n ∧ f.writing = true)) :
    afterWriting b n (pre ++ .entry e :: post) = post := by
  induction pre with
  | nil => simp [afterWriting, is]
  | cons i pre ih =>
    cases i with
    | entry f =>
      have later : ∀ g ∈ entriesOf pre, ¬ (g.bay = b ∧ g.arrival = n ∧ g.writing = true) := fun g hg =>
        first g (by simpa using .inr (mem_entriesOf.1 hg))
      have notHere := first f (by simp)
      simpa only [List.cons_append, afterWriting, if_neg notHere] using ih later
    | mark c k => exact ih first

/-- A QUEUED entry behind the WRITING one, in its stretch, supersedes it (R134). -/
theorem Ok.superseded (ok : q.Ok) {e f : WriteEntry} (writing : e.writing = true) (queued : f.writing = false)
    (pair : InOneStretch e.bay q.items e f) : q.superseded e = true := by
  obtain ⟨-, fb, block, pre, mid, post, split, free⟩ := pair
  have behind : afterWriting e.bay e.arrival q.items = mid ++ .entry f :: post := by
    rw [split]
    refine afterWriting_split ⟨rfl, rfl, writing⟩ fun g hg ⟨gb, _, gw⟩ => ?_
    have one := (ok.items e.bay).oneWriting
    rw [split, entriesOf_append, entriesOf_entry, List.filter_append, List.length_append,
      List.filter_cons_of_pos (by simp [writing]), List.length_cons] at one
    have some : 0 < ((entriesOf pre).filter fun x => decide (x.bay = e.bay) && x.writing).length :=
      List.length_pos_of_mem (List.mem_filter.2 ⟨hg, by simp [gb, gw]⟩)
    omega
  simp only [WriteQueue.superseded, behind, List.any_eq_true]
  exact ⟨f, mem_firstStretch.2 ⟨mid, post, rfl, free⟩, WriteEntry.queuedFor_iff.2 ⟨fb, block, queued⟩⟩

/-- The entry of an outcome that is not superseded returns to QUEUED (R134, R135). -/
theorem Ok.requeue (ok : q.Ok) {n attempts : Nat} {e : WriteEntry} (h : q.outcomeEntry b n = some e) (few : attempts ≤ 2)
    (alone : q.superseded e = false) :
    ({ q with items := changeWriting b n (fun e => { e with writing := false, attempts }) q.items } : WriteQueue).Ok := by
  obtain ⟨here, eb, en, ew⟩ := outcomeEntry_some h
  obtain ⟨ch, c, others, eq⟩ := changeWriting_changes b n attempts
  have is {f : WriteEntry} (hf : f ∈ entriesOf q.items) (fb : f.bay = b) (fw : f.writing = true) : f = e :=
    (ok.items b).writing_unique hf here fb eb fw ew
  have queued {f : WriteEntry} (hf : f ∈ entriesOf q.items) (fb : f.bay = b) : (requeued b n attempts f).writing = false := by
    cases fw : f.writing with
    | false => simp [requeued, fw]
    | true => rw [is hf fb fw]; simp [requeued, eb, en, ew]
  rw [eq]
  refine ok.map c (fun f => ?_) (fun f hf => ?_) fun d => ?_
  · simp only [requeued]; split <;> rfl
  · obtain ⟨-, old, -⟩ := ok.fields f hf
    simp only [requeued]
    split
    · exact ⟨few, rfl⟩
    · exact ⟨old, rfl⟩
  · by_cases own : d = b
    · subst own
      have none : ∀ f ∈ entriesOf (q.items.map ch), f.bay = d → f.writing = false := by
        intro f hf fb
        rw [c.entriesOf_map] at hf
        obtain ⟨g, hg, rfl⟩ := List.mem_map.1 hf
        exact queued hg ((c.bay g).symm.trans fb)
      refine ⟨?_, fun f hf fb fw => ?_, c.noMarkHead_map (ok.items d).noMarkHead, stretchesOk_iff.2 fun f g pair => ?_⟩
      · rw [List.filter_eq_nil_iff.2]
        · simp
        · intro f hf
          by_cases fb : f.bay = d <;> simp [fb, none f hf]
      · rw [none f hf fb] at fw
        contradiction
      · obtain ⟨f', g', before, -, -⟩ := c.inOneStretch_of_map pair
        obtain ⟨fw, gq⟩ := stretchesOk_iff.1 (ok.items d).stretches f' g' before
        have fb := before.1
        have member : f' ∈ entriesOf q.items := by
          obtain ⟨-, -, -, pre, mid, post, split, -⟩ := before
          simp [split]
        obtain rfl := is member fb fw
        rw [ok.superseded fw gq (fb.symm ▸ before)] at alone
        contradiction
    · exact c.itemsOk_other (ok.items d) fun i hi => others i (hi ▸ own)

/-- An entry as it becomes WRITING. -/
def taken (e f : WriteEntry) : WriteEntry := if f = e then { f with writing := true } else f

/-- The item of an entry as it becomes WRITING. -/
def takenItem (e : WriteEntry) : Item → Item
  | .entry f => .entry (taken e f)
  | .mark c k => .mark c k

theorem takenItem_changes (e : WriteEntry) : ChangesItems (takenItem e) (taken e) := by
  refine ⟨fun f => rfl, fun c k => ⟨k, rfl⟩, fun f => ?_, fun f => ?_⟩ <;> simp only [taken] <;> split <;> rfl

/-- In a list without duplicates an entry becomes WRITING in its place. -/
theorem markWriting_eq {e : WriteEntry} {l : List Item} (distinct : (entriesOf l).Nodup) :
    markWriting e l = l.map (takenItem e) := by
  induction l with
  | nil => rfl
  | cons i l ih =>
    cases i with
    | mark c k =>
      simpa [markWriting, takenItem] using ih distinct
    | entry f =>
      obtain ⟨absent, rest⟩ := List.nodup_cons.1 distinct
      by_cases same : f = e
      · subst same
        have unchanged : l.map (takenItem f) = l := by
          refine (List.map_congr_left fun i hi => ?_).trans (List.map_id _)
          cases i with
          | mark c k => rfl
          | entry g =>
            have other : g ≠ f := fun same => absent (same ▸ mem_entriesOf.2 hi)
            simp [takenItem, taken, other]
        simp [markWriting, takenItem, taken, unchanged]
      · simpa [markWriting, takenItem, taken, same] using ih rest

/-- An eligible entry of a bay without a WRITING one becomes WRITING (R131, R132). -/
theorem Ok.take (ok : q.Ok) {e : WriteEntry} (eligible : e ∈ q.eligible b) (none : q.writingOf b = none) :
    ({ q with items := markWriting e q.items } : WriteQueue).Ok := by
  obtain ⟨unfenced, is⟩ := List.mem_filter.1 eligible
  simp only [Bool.decide_and, Bool.and_eq_true, decide_eq_true_eq] at is
  obtain ⟨eb, eq⟩ := is
  have c := takenItem_changes e
  have queued {f : WriteEntry} (hf : f ∈ entriesOf q.items) (fb : f.bay = b) : f.writing = false := by
    simpa [fb] using List.find?_eq_none.1 none f hf
  have distinct : (entriesOf q.items).Nodup :=
    List.Pairwise.of_map WriteEntry.slot (fun _ _ differ same => differ (congrArg _ same)) ok.slots
  rw [markWriting_eq distinct]
  refine ok.map c (fun f => ?_) (fun f hf => ?_) fun d => ?_
  · simp only [taken]; split <;> rfl
  · obtain ⟨-, old, -⟩ := ok.fields f hf
    simp only [taken]
    split <;> exact ⟨old, rfl⟩
  · by_cases own : d = b
    · subst own
      refine ⟨?_, fun f hf fb fw => ?_, c.noMarkHead_map (ok.items d).noMarkHead, stretchesOk_iff.2 fun f g pair => ?_⟩
      · have writing : ∀ f ∈ entriesOf q.items, (decide ((taken e f).bay = d) && (taken e f).writing) = decide (f = e) := by
          intro f hf
          by_cases same : f = e
          · simp [taken, same, eb]
          · by_cases fb : f.bay = d <;> simp [taken, same, fb, queued hf]
        rw [c.entriesOf_map, List.filter_map, List.length_map]
        simp only [Function.comp_def]
        rw [List.filter_congr writing, ← List.countP_eq_length_filter]
        exact List.nodup_iff_count.1 distinct e
      · rw [c.entriesOf_map] at hf
        obtain ⟨g, hg, rfl⟩ := List.mem_map.1 hf
        have same : g = e := by
          refine Classical.byContradiction fun other => ?_
          simp [taken, other, queued hg ((c.bay g).symm.trans fb)] at fw
        exact c.mem_firstStretch_map (same ▸ unfenced)
      · obtain ⟨f', g', before, -, -⟩ := c.inOneStretch_of_map pair
        obtain ⟨fw, -⟩ := stretchesOk_iff.1 (ok.items d).stretches f' g' before
        obtain ⟨fb, -, -, pre, mid, post, split, -⟩ := before
        rw [queued (by simp [split]) fb] at fw
        contradiction
    · refine c.itemsOk_other (ok.items d) fun i hi => ?_
      cases i with
      | mark k n => rfl
      | entry f =>
        have other : f ≠ e := fun same => own (by rw [← hi, ← eb, same]; rfl)
        simp [takenItem, taken, other]

theorem flushToOrder_changes (b : BayId) : ChangesItems (fun i => match i with
    | .mark c .flush => if c = b then .mark c .order else i
    | _ => i) id := by
  refine ⟨fun e => rfl, fun c k => ?_, fun e => rfl, fun e => rfl⟩
  cases k with
  | order => exact ⟨.order, rfl⟩
  | flush => by_cases own : c = b <;> simp [own]

/-- FLUSH marks that become ORDER marks keep the rules (R130). -/
theorem Ok.flushToOrder (ok : q.Ok) (b : BayId) : ({ q with items := flushToOrder b q.items } : WriteQueue).Ok :=
  ok.map (flushToOrder_changes b) (fun _ => rfl) (fun e he => ⟨(ok.fields e he).2.1, rfl⟩)
    fun d => (flushToOrder_changes b).itemsOk_writing (ok.items d) fun _ => rfl

/-! ### Items that join the list -/

/-- Data put into a write slot keeps the rules, which do not read it. -/
theorem Ok.putData (ok : q.Ok) (slot : Nat) (d : Sector) : (q.putData slot d).Ok :=
  ⟨ok.entries, ok.marks, ok.slots, ok.fields, ok.arrival, ok.bayA, ok.bayB⟩

/-- An item of another bay keeps a bay's rules. -/
theorem itemsOk_append_other {c : BayId} {l : List Item} (ok : ItemsOk l c) {i : Item} (other : i.bay ≠ c) :
    ItemsOk (l ++ [i]) c := ok.congr (by simp [itemsOf, other])

/-- A WRITE placed keeps the rules (R123, R125). -/
theorem Ok.place (ok : q.Ok) (b : BayId) (block : Nat) (d : Sector) : (q.place b block d).1.Ok := by
  rcases q.place_cases b block d with ⟨e, -, h⟩ | ⟨i, target, free, h⟩ | ⟨-, -, h⟩ <;> rw [h]
  · exact ok.putData _ _
  · have unused := freeSlot_some free
    have alone : ∀ f ∈ entriesOf (lastStretch b q.items), f.bay = b → f.block = block → f.writing = true := fun f hf fb fn => by
      simpa [fb, fn] using List.find?_eq_none.1 target f hf
    have slots : ((entriesOf q.items).map WriteEntry.slot ++ [i.val]).Nodup := by
      refine nodup_concat ok.slots fun n hn => ?_
      obtain ⟨e, he, rfl⟩ := List.mem_map.1 hn
      simpa using unused e he
    have low : ∀ n ∈ (entriesOf q.items).map WriteEntry.slot ++ [i.val], n ∈ List.range 16 := fun n hn => by
      rcases List.mem_append.1 hn with hn | hn
      · obtain ⟨e, he, rfl⟩ := List.mem_map.1 hn
        exact List.mem_range.2 (ok.fields e he).1
      · rw [List.mem_singleton.1 hn]
        exact List.mem_range.2 i.isLt
    have count := slots.length_le_of_subset low
    refine ⟨?_, ?_, ?_, ?_, Nat.mod_lt _ (by omega), ?_, ?_⟩
    · simpa [WriteQueue.entryCount, Config.maxEntries] using count
    · have marks := ok.marks
      rw [markCount_eq] at marks ⊢
      simpa [Item.isEntry] using marks
    · simpa using slots
    · intro e he
      rw [entriesOf_append, List.mem_append] at he
      rcases he with he | he
      · exact ok.fields e he
      · simp only [entriesOf_entry, entriesOf_nil, List.mem_singleton] at he
        rw [he]
        exact ⟨i.isLt, Nat.zero_le _, ok.arrival⟩
    · cases b with
      | bayA => exact ok.bayA.append_entry rfl alone
      | bayB => exact itemsOk_append_other ok.bayA (by simp)
    · cases b with
      | bayA => exact itemsOk_append_other ok.bayB (by simp)
      | bayB => exact ok.bayB.append_entry rfl alone
  · exact ok

theorem markCount_append_mark (q : WriteQueue) (b : BayId) (k : MarkKind) :
    ({ q with items := q.items ++ [.mark b k] } : WriteQueue).markCount = q.markCount + 1 := by
  simp [markCount_eq, Item.isEntry]

/-- A mark joins the list while fewer than 8 are held: the rules but those of its bay. -/
theorem Ok.append_mark (ok : q.Ok) (b : BayId) (k : MarkKind) (room : q.markCount < Config.maxMarks)
    (items : ItemsOk (q.items ++ [.mark b k]) b) : ({ q with items := q.items ++ [.mark b k] } : WriteQueue).Ok := by
  refine ⟨?_, ?_, ?_, ?_, ok.arrival, ?_, ?_⟩
  · simpa [WriteQueue.entryCount] using ok.entries
  · rw [markCount_append_mark]; exact room
  · simpa using ok.slots
  · simpa using ok.fields
  · cases b with
    | bayA => exact items
    | bayB => exact itemsOk_append_other ok.bayA (by simp)
  · cases b with
    | bayA => exact itemsOk_append_other ok.bayB (by simp)
    | bayB => exact items

/-- An ORDER keeps the rules (R127). -/
theorem Ok.order (ok : q.Ok) (b : BayId) : (q.order b).1.Ok := by
  unfold WriteQueue.order
  split
  · rename_i e last
    have some : itemsOf b q.items ≠ [] := fun none => by simp [none] at last
    split
    · exact ok.append_mark b .order ‹_› ((ok.items b).append_mark some _)
    · exact ok
  · exact ok

/-- A FLUSH mark joins the list, and the mark test follows (R128, R129). -/
theorem Ok.flush (ok : q.Ok) (b : BayId) (room : q.markCount < Config.maxMarks) :
    ({ q with items := (Machine.dropMarks b (q.items ++ [.mark b .flush])).1 } : WriteQueue).Ok := by
  by_cases none : itemsOf b q.items = []
  · have same : (Machine.dropMarks b (q.items ++ [.mark b .flush])).1 = q.items := by
      have others : ∀ i ∈ q.items, i.bay ≠ b := by simpa [itemsOf] using none
      rw [dropMarks_append others, dropMarks_mark]
      simp [Machine.dropMarks]
    rw [same]
    exact ok
  · have joined := ok.append_mark b .flush room ((ok.items b).append_mark none _)
    refine joined.of_sublist (dropMarks_sublist b _) rfl fun c => ?_
    by_cases own : c = b
    · exact own ▸ (joined.items b).dropMarks
    · exact (joined.items c).congr (itemsOf_dropMarks_other own _)

end WriteQueue

end Sys2Proof.Machine
end
section
/-!
SUPPORT. What each operation of the Supply Budget keeps of its rules (R22 to R36): a grant, an arrival, the examination, a release,
a reduction, a withdrawal, a new capacity, supply loss and the soft reset.
-/

namespace Sys2Proof.Machine.Budget

variable {u : Budget}

/-! ### Draws and owners -/

theorem drawSum_append (l m : List Claim) : drawSum (l ++ m) = drawSum l + drawSum m := by simp [drawSum]

theorem drawSum_cons (c : Claim) (l : List Claim) : drawSum (c :: l) = c.draw + drawSum l := by
  simp only [drawSum, List.map_cons, List.sum_cons]

theorem drawSum_sublist {l m : List Claim} (h : l.Sublist m) : drawSum l ≤ drawSum m := by
  induction h with
  | slnil => exact Nat.le_refl _
  | cons c _ ih =>
    rw [drawSum_cons]
    omega
  | cons_cons c _ ih =>
    rw [drawSum_cons, drawSum_cons]
    omega

/-- Claims of a few units each draw that many times their number at most. -/
theorem drawSum_le_mul {l : List Claim} {n : Nat} (small : ∀ c ∈ l, c.draw ≤ n) : drawSum l ≤ l.length * n := by
  induction l with
  | nil => exact Nat.zero_le _
  | cons c l ih =>
    obtain ⟨first, rest⟩ := List.forall_mem_cons.1 small
    have later := ih rest
    rw [drawSum_cons, List.length_cons, Nat.succ_mul]
    omega

theorem drawSum_map_le {f : Claim → Claim} (less : ∀ c, (f c).draw ≤ c.draw) (l : List Claim) :
    drawSum (l.map f) ≤ drawSum l := by
  induction l with
  | nil => exact Nat.le_refl _
  | cons c l ih =>
    have first := less c
    simp only [drawSum, List.map_cons, List.sum_cons] at ih ⊢
    omega

/-- No two bays are more than two. -/
theorem bays_length_le {l : List BayId} (distinct : l.Nodup) : l.length ≤ 2 := by
  have all : ∀ b ∈ l, b ∈ [BayId.bayA, .bayB] := fun b _ => by cases b <;> simp
  simpa using distinct.length_le_of_subset all

/-- A capacity held pending is in range: it is below what is granted (R24). -/
theorem Ok.judging_range (ok : u.Ok) : Config.minCapacity ≤ u.judging ∧ u.judging ≤ Config.maxCapacity := by
  have capacity := ok.capacity
  have sum := ok.sum
  cases h : u.pending with
  | none => simpa [Budget.judging, h] using capacity
  | some p =>
    have pending := ok.pending p (by simp [h])
    simp only [Budget.judging, h, Option.getD_some]
    omega

/-! ### The wait list -/

/-- The rules do not say what waits, but for the bays of the requests. -/
theorem Ok.withWaitList (ok : u.Ok) {l : List Request} (distinct : (l.map Request.bay).Nodup) : ({ u with waitList := l } : Budget).Ok :=
  ⟨ok.capacity, ok.pending, ok.sum, ok.owners, by simpa using bays_length_le distinct, distinct, ok.good⟩

/-- A list with fewer requests keeps the rules. -/
theorem Ok.fewerWait (ok : u.Ok) {l : List Request} (fewer : l.Sublist u.waitList) : ({ u with waitList := l } : Budget).Ok :=
  ok.withWaitList (ok.waitBays.sublist (fewer.map _))

theorem Ok.join (ok : u.Ok) (r : Request) : (u.join r).Ok := by
  refine ok.withWaitList ?_
  rw [List.map_append]
  refine nodup_concat (ok.waitBays.sublist (List.filter_sublist.map _)) fun b hb => ?_
  obtain ⟨q, hq, rfl⟩ := List.mem_map.1 hb
  simpa using (List.mem_filter.1 hq).2

/-! ### Grants -/

/-- A claim that the free headroom covers is granted: no capacity is pending then, since it would be exceeded (R22, R24). -/
theorem Ok.addClaim (ok : u.Ok) (good : u.supply = .good) {c : Claim} (fits : (c.draw : Int) ≤ u.headroom) :
    (u.addClaim c).Ok := by
  have none : u.pending = none := by
    cases h : u.pending with
    | none => rfl
    | some p =>
      have pending := ok.pending p (by simp [h])
      simp only [Budget.headroom, Budget.judging, h, Option.getD_some] at fits
      omega
  have room : c.draw + drawSum u.claims ≤ u.effective := by
    simp only [Budget.headroom, Budget.judging, none, Option.getD_none] at fits
    omega
  have others := drawSum_sublist (List.filter_sublist (p := fun d => !(d.bay = c.bay ∧ d.consumer = c.consumer)) (l := u.claims))
  refine ⟨ok.capacity, by simp [none], ?_, ?_, ok.waitCount, ok.waitBays, fun bad => absurd good bad⟩
  · rw [Budget.addClaim, drawSum_append]
    simp only [drawSum, List.map_cons, List.map_nil, List.sum_cons, List.sum_nil, Nat.add_zero] at others room ⊢
    omega
  · rw [Budget.addClaim, List.map_append]
    refine nodup_concat (ok.owners.sublist (List.filter_sublist.map _)) fun o ho => ?_
    obtain ⟨d, hd, rfl⟩ := List.mem_map.1 ho
    have different := (List.mem_filter.1 hd).2
    simp only [Bool.not_eq_eq_eq_not, Bool.not_true, decide_eq_false_iff_not] at different
    simpa [Claim.owner] using different

theorem Ok.examineFrom (ok : u.Ok) (good : u.supply = .good) {l : List Request} (waits : (l.map Request.bay).Nodup) :
    (u.examineFrom l).1.Ok := by
  induction l generalizing u with
  | nil => exact ok.withWaitList List.nodup_nil
  | cons r rest ih =>
    simp only [Budget.examineFrom]
    split
    · exact ih (ok.addClaim good (Request.fit_le ‹_›)) good (List.nodup_cons.1 waits).2
    · exact ok.withWaitList waits

theorem Ok.examine (ok : u.Ok) : u.examine.1.Ok := by
  by_cases good : u.supply = .good
  · rw [Budget.examine_good good]
    exact ok.examineFrom good ok.waitBays
  · rw [Budget.examine_else good]
    exact ok

/-- The headroom of an arrival is the free headroom or less, and is given in GOOD alone (R25, R28, R35). -/
theorem arrivalHeadroom_le {r : Request} {h : Int} (some : u.arrivalHeadroom r = some h) : u.supply = .good ∧ h ≤ u.headroom := by
  unfold Budget.arrivalHeadroom at some
  split at some
  · contradiction
  · refine ⟨Decidable.not_not.1 ‹_›, ?_⟩
    split at some
    · exact Int.le_of_eq (Option.some.inj some).symm
    · split at some
      · have := Option.some.inj some
        omega
      · contradiction

theorem Ok.take (ok : u.Ok) (r : Request) : (u.take r).1.Ok := by
  rcases u.take_cases r with h | ⟨room, l, d, arrival, fits, h⟩ <;> rw [h]
  · exact ok.join r
  · obtain ⟨good, le⟩ := arrivalHeadroom_le arrival
    exact ok.addClaim good (Int.le_trans (Request.fit_le fits) le)

/-! ### Releases, reductions, withdrawals and the capacity -/

/-- The rules but that a pending capacity is exceeded by the claims: with a pending capacity that may be met they hold once R24
has been applied. -/
theorem meetPending_ok (capacity : Config.minCapacity ≤ u.effective ∧ u.effective ≤ Config.maxCapacity)
    (pending : ∀ p ∈ u.pending, Config.minCapacity ≤ p ∧ p ≤ Config.maxCapacity) (sum : drawSum u.claims ≤ u.effective)
    (owners : (u.claims.map Claim.owner).Nodup) (waits : (u.waitList.map Request.bay).Nodup)
    (good : u.supply ≠ .good → u.claims = []) : u.meetPending.Ok := by
  have count : u.waitList.length ≤ 2 := by simpa using bays_length_le waits
  unfold Budget.meetPending
  split
  · rename_i p hp
    have range := pending p (by simp [hp])
    split
    · exact ⟨range, by simp, ‹_›, owners, count, waits, good⟩
    · refine ⟨capacity, fun q hq => ?_, sum, owners, count, waits, good⟩
      obtain rfl : p = q := by simpa [hp] using hq
      exact ⟨range.1, by omega⟩
  · rename_i none
    exact ⟨capacity, by simp [none], sum, owners, count, waits, good⟩

/-- Claims with smaller draws, of owners no two alike, keep the rules once R24 has been applied. -/
theorem Ok.lessClaims (ok : u.Ok) {l : List Claim} (less : drawSum l ≤ drawSum u.claims) (owners : (l.map Claim.owner).Nodup)
    (none : u.claims = [] → l = []) : ({ u with claims := l } : Budget).meetPending.Ok := by
  have sum := ok.sum
  have capacity := ok.capacity
  refine meetPending_ok ok.capacity (fun p hp => ?_) (Nat.le_trans less ok.sum) owners ok.waitBays fun bad => none (ok.good bad)
  have pending := ok.pending p hp
  omega

theorem Ok.free (ok : u.Ok) (b : BayId) (c : Consumer) : (u.free b c).1.Ok :=
  (ok.lessClaims (drawSum_sublist List.filter_sublist) (ok.owners.sublist (List.filter_sublist.map _))
    fun none => by rw [none]; rfl).examine

theorem Ok.reduce (ok : u.Ok) (b : BayId) : (u.reduce b).1.Ok := by
  refine (ok.lessClaims (drawSum_map_le (fun d => ?_) _) ?_ fun none => by rw [none]; rfl).examine
  · split
    · exact Nat.min_le_left _ _
    · exact Nat.le_refl _
  · rw [List.map_map]
    refine Eq.mpr (congrArg List.Nodup (List.map_congr_left fun d _ => ?_)) ok.owners
    simp only [Function.comp_apply]
    split <;> rfl

theorem Ok.drop (ok : u.Ok) (b : BayId) (k : RequestKind) : (u.drop b k).1.Ok := by
  rcases u.drop_cases b k with h | ⟨q, rest, waits, -, -, h⟩ | ⟨q, rest, waits, -, h⟩ <;> rw [h]
  · exact ok
  · exact (ok.fewerWait (waits ▸ List.sublist_cons_self q rest)).examine
  · exact ok.fewerWait (waits ▸ List.filter_sublist.cons_cons q)

theorem Ok.setCapacity (ok : u.Ok) {v : Nat} (low : Config.minCapacity ≤ v) (high : v ≤ Config.maxCapacity) :
    (u.setCapacity v).1.Ok := by
  rcases u.setCapacity_cases v with ⟨met, h⟩ | ⟨exceeded, h⟩ <;> rw [h]
  · have ok' : ({ u with effective := v, pending := none } : Budget).Ok :=
      ⟨⟨low, high⟩, by simp, met, ok.owners, ok.waitCount, ok.waitBays, ok.good⟩
    exact ok'.examine
  · refine ⟨ok.capacity, fun p hp => ?_, ok.sum, ok.owners, ok.waitCount, ok.waitBays, ok.good⟩
    obtain rfl : v = p := by simpa using hp
    exact ⟨low, exceeded⟩

/-! ### The supply -/

/-- With no claim the rules do not depend on the supply-good state. -/
theorem Ok.withSupply (ok : u.Ok) (before : u.supply ≠ .good) (x : SupplyState) (hold : Bool) (timer : Option Nat) :
    ({ u with supply := x, powerOnHold := hold, holdTimer := timer } : Budget).Ok :=
  ⟨ok.capacity, ok.pending, ok.sum, ok.owners, ok.waitCount, ok.waitBays, fun _ => ok.good before⟩

theorem Ok.lose (ok : u.Ok) : u.lose.Ok :=
  ⟨ok.judging_range, by simp [Budget.lose], by simp [drawSum], List.nodup_nil, by simp, List.nodup_nil, fun _ => rfl⟩

/-- The claims of spindles in RUN are two at most, of 5 units each. -/
theorem drawSum_running_le {l : List Claim} (owners : (l.map Claim.owner).Nodup)
    (running : ∀ c ∈ l, c.consumer = .spindle ∧ c.draw ≤ Config.runDraw) : drawSum l ≤ 2 * Config.runDraw := by
  have all : ∀ o ∈ l.map Claim.owner, o ∈ [(BayId.bayA, Consumer.spindle), (.bayB, .spindle)] := fun o ho => by
    obtain ⟨c, hc, rfl⟩ := List.mem_map.1 ho
    have spindle := (running c hc).1
    cases h : c.bay <;> simp [Claim.owner, spindle, h]
  have count : l.length ≤ 2 := by simpa using owners.length_le_of_subset all
  have sum : drawSum l ≤ l.length * Config.runDraw := drawSum_le_mul fun c hc => (running c hc).2
  exact Nat.le_trans sum (Nat.mul_le_mul_right _ count)

theorem Ok.softReset (ok : u.Ok) (running : BayId → Bool) : (u.softReset running).Ok := by
  have range := ok.judging_range
  refine ⟨range, by simp [Budget.softReset], ?_, ok.owners.sublist (List.filter_sublist.map _), by simp [Budget.softReset],
    List.nodup_nil, fun bad => ?_⟩
  · refine Nat.le_trans (drawSum_running_le (ok.owners.sublist (List.filter_sublist.map _)) fun c hc => ?_) ?_
    · have kept := (List.mem_filter.1 hc).2
      simp only [Bool.and_eq_true, beq_iff_eq, decide_eq_true_eq] at kept
      exact kept.1
    · simp only [Config.minCapacity] at range
      simp only [Budget.softReset, Config.runDraw]
      omega
  · simp only [Budget.softReset]
    rw [ok.good bad]
    rfl

end Sys2Proof.Machine.Budget
end
section
/-!
SUPPORT. What keeps the figures of the unit in their ranges: the remap tables by index (R107), the label that fills one (R117,
R118), the coil heat (R94 to R104), the counters and thresholds (R152) and the settings (R176).
-/

namespace Sys2Proof.Machine

/-! ### The remap tables (R107) -/

namespace RemapTable

variable {t : RemapTable} {typeCode : Nat}

theorem mem_valid {m : MapEntry} : m ∈ t.valid ↔ ∃ i : Fin 64, t.entries[i] = some m := by
  simp only [RemapTable.valid, List.mem_filterMap, id_eq, exists_eq_right, Vector.mem_toList_iff, Vector.mem_iff_getElem]
  exact ⟨fun ⟨i, hi, h⟩ => ⟨⟨i, hi⟩, h⟩, fun ⟨i, h⟩ => ⟨i.val, i.isLt, h⟩⟩

theorem noDuplicates_iff {l : List MapEntry} :
    noDuplicates l = true ↔ l.Pairwise fun m k => m.block ≠ k.block ∧ m.spare ≠ k.spare := by
  induction l with
  | nil => simp [noDuplicates]
  | cons m l ih =>
    simp only [noDuplicates, Bool.and_eq_true, ih, List.pairwise_cons, List.all_eq_true, Bool.decide_and, decide_eq_true_eq]
    exact and_congr_left' (forall₂_congr fun k _ => and_congr ne_comm ne_comm)

/-- No two valid entries have the same block or the same spare, read by index (R107). -/
theorem noDuplicates_valid_iff : noDuplicates t.valid = true ↔
    ∀ (i j : Fin 64) (m k : MapEntry), i ≠ j → t.entries[i] = some m → t.entries[j] = some k →
      m.block ≠ k.block ∧ m.spare ≠ k.spare := by
  rw [noDuplicates_iff, RemapTable.valid, List.pairwise_filterMap, List.pairwise_iff_getElem]
  simp only [id_eq, Vector.length_toList, Vector.getElem_toList]
  constructor
  · intro ordered i j m k other hi hj
    rcases Nat.lt_or_gt_of_ne fun same => other (Fin.ext same) with less | less
    · exact ordered i.val j.val i.isLt j.isLt less m hi k hj
    · exact (ordered j.val i.val j.isLt i.isLt less k hj m hi).imp Ne.symm Ne.symm
  · intro all i j hi hj less m mi k kj
    exact all ⟨i, hi⟩ ⟨j, hj⟩ m k (fun same => Nat.ne_of_lt less (congrArg Fin.val same)) mi kj

/-- The rules of a remap table read by index (R107). -/
theorem ok_iff : t.Ok typeCode ↔
    (∀ (i j : Fin 64) (m k : MapEntry), i ≠ j → t.entries[i] = some m → t.entries[j] = some k →
      m.block ≠ k.block ∧ m.spare ≠ k.spare) ∧
    ∀ (i : Fin 64) (m : MapEntry), t.entries[i] = some m →
      spareOk m.spare = true ∧ (typeCode ≠ 0 → blockOk typeCode m.block = true) := by
  constructor
  · intro ok
    refine ⟨noDuplicates_valid_iff.1 ok.distinct, fun i m h => ?_⟩
    have valid := mem_valid.2 ⟨i, h⟩
    exact ⟨ok.spares m valid, fun type => ok.blocks type m valid⟩
  · rintro ⟨distinct, ranges⟩
    refine ⟨noDuplicates_valid_iff.2 distinct, fun m hm => ?_, fun type m hm => ?_⟩ <;> obtain ⟨i, h⟩ := mem_valid.1 hm
    · exact (ranges i m h).1
    · exact (ranges i m h).2 type

/-- An empty table meets the rules in every bay. -/
theorem ok_empty (typeCode : Nat) : ({} : RemapTable).Ok typeCode := by
  have none (i : Fin 64) (m : MapEntry) : ({} : RemapTable).entries[i] ≠ some m := by simp
  exact ok_iff.2 ⟨fun i _ m _ _ hi => absurd hi (none i m), fun i m h => absurd h (none i m)⟩

/-- With no cartridge type the blocks have no range. -/
theorem Ok.untyped (ok : t.Ok typeCode) : t.Ok 0 := ⟨ok.distinct, ok.spares, fun type => absurd rfl type⟩

/-- The rules are rules of the entries. -/
theorem Ok.congr (ok : t.Ok typeCode) {t' : RemapTable} (same : t'.entries = t.entries) : t'.Ok typeCode := by
  have valid : t'.valid = t.valid := by rw [RemapTable.valid, RemapTable.valid, same]
  exact ⟨valid ▸ ok.distinct, valid ▸ ok.spares, valid ▸ ok.blocks⟩

theorem edit_entries (t : RemapTable) (i j : Fin 64) (e : Option MapEntry) :
    (t.edit i.val e).entries[j] = if i = j then e else t.entries[j] := by
  rw [edit_val]
  simp [Vector.getElem_set, Fin.ext_iff]

/-- An edit that clears an index keeps the rules (R113). -/
theorem Ok.clear (ok : t.Ok typeCode) (i : Fin 64) : (t.edit i.val none).Ok typeCode := by
  obtain ⟨distinct, ranges⟩ := ok_iff.1 ok
  have old {j : Fin 64} {m : MapEntry} (h : (t.edit i.val none).entries[j] = some m) : t.entries[j] = some m := by
    rw [edit_entries] at h
    split at h
    · contradiction
    · exact h
  exact ok_iff.2 ⟨fun j k m n other hm hn => distinct j k m n other (old hm) (old hn), fun j m h => ranges j m (old h)⟩

/-- An edit that writes an entry in range, no duplicate of another's, keeps the rules (R111, R112). -/
theorem Ok.write (ok : t.Ok typeCode) (i : Fin 64) {e : MapEntry} (block : blockOk typeCode e.block = true)
    (spare : spareOk e.spare = true)
    (new : ∀ (j : Fin 64) (m : MapEntry), j ≠ i → t.entries[j] = some m → m.block ≠ e.block ∧ m.spare ≠ e.spare) :
    (t.edit i.val (some e)).Ok typeCode := by
  obtain ⟨distinct, ranges⟩ := ok_iff.1 ok
  have entry {j : Fin 64} {m : MapEntry} (h : (t.edit i.val (some e)).entries[j] = some m) :
      (i = j ∧ e = m) ∨ (i ≠ j ∧ t.entries[j] = some m) := by
    rw [edit_entries] at h
    split at h
    · exact .inl ⟨‹_›, Option.some.inj h⟩
    · exact .inr ⟨‹_›, h⟩
  refine ok_iff.2 ⟨fun j k m n other hm hn => ?_, fun j m h => ?_⟩
  · rcases entry hm with ⟨rfl, rfl⟩ | ⟨away, hm⟩ <;> rcases entry hn with ⟨rfl, rfl⟩ | ⟨away', hn⟩
    · exact absurd rfl other
    · exact (new k n away'.symm hn).imp Ne.symm Ne.symm
    · exact new j m away.symm hm
    · exact distinct j k m n other hm hn
  · rcases entry h with ⟨-, rfl⟩ | ⟨-, h⟩
    · exact ⟨spare, fun _ => block⟩
    · exact ranges j m h

theorem labelEntries_length_le (n : Nat) (l : List Nat) : (labelEntries n l).length ≤ n := by
  induction n generalizing l with
  | zero => cases l <;> simp [labelEntries]
  | succ n ih =>
    match l with
    | [] | [_] => simp [labelEntries]
    | b :: s :: rest =>
      simp only [labelEntries, List.length_cons]
      exact Nat.succ_le_succ (ih rest)

/-- What a label that passes its judgement has been found to hold (R117). -/
theorem judgeLabel_ok {data : Option Sector} {entries : List MapEntry} {generation : Nat}
    (judged : judgeLabel typeCode data = .ok (entries, generation)) :
    entries.length ≤ 64 ∧ noDuplicates entries = true ∧
      ∀ m ∈ entries, blockOk typeCode m.block = true ∧ spareOk m.spare = true := by
  unfold judgeLabel at judged
  split at judged
  · contradiction
  · simp only [judgeWords] at judged
    iterate 3 (split at judged; · contradiction)
    split at judged
    · contradiction
    · rename_i figures
      split at judged
      · contradiction
      · rename_i distinct
        simp only [Except.ok.injEq, Prod.mk.injEq] at judged
        obtain ⟨rfl, -⟩ := judged
        simp only [Bool.not_eq_true', not_or, Nat.not_lt, Bool.not_eq_false, List.all_eq_true, Bool.and_eq_true] at figures
        exact ⟨Nat.le_trans (labelEntries_length_le _ _) figures.1, by simpa using distinct, figures.2⟩

theorem fill_entries (t : RemapTable) (entries : List MapEntry) (generation : Nat) (i : Fin 64) :
    (t.fill entries generation).entries[i] = entries[i.val]? := by simp [RemapTable.fill]

/-- A table filled from a label that passes its judgement, or emptied, meets the rules (R118). -/
theorem fill_ok (t : RemapTable) {entries : List MapEntry} (distinct : noDuplicates entries = true)
    (ranges : ∀ m ∈ entries, blockOk typeCode m.block = true ∧ spareOk m.spare = true) (generation : Nat) :
    (t.fill entries generation).Ok typeCode := by
  have pairs := List.pairwise_iff_getElem.1 (noDuplicates_iff.1 distinct)
  refine ok_iff.2 ⟨fun i j m k other hm hk => ?_, fun i m h => ?_⟩
  · rw [fill_entries] at hm hk
    obtain ⟨hi, rfl⟩ := List.getElem?_eq_some_iff.1 hm
    obtain ⟨hj, rfl⟩ := List.getElem?_eq_some_iff.1 hk
    rcases Nat.lt_or_gt_of_ne fun same => other (Fin.ext same) with less | less
    · exact pairs i j hi hj less
    · exact (pairs j i hj hi less).imp Ne.symm Ne.symm
  · rw [fill_entries] at h
    obtain ⟨block, spare⟩ := ranges m (List.mem_of_getElem? h)
    exact ⟨spare, fun _ => block⟩

end RemapTable

/-! ### The settings (R96, R176) -/

theorem clamp_range (v : Nat) {lo hi : Nat} (range : lo ≤ hi) : lo ≤ clamp lo hi v ∧ clamp lo hi v ≤ hi := by
  simp only [clamp]
  omega

/-- The heat settings stay in range when they are in order and the one stored is clamped (R96). -/
theorem Settings.Ok.heatStored {c d : Settings} {w : Nat} (ok : c.Ok) (v : Nat)
    (changed : d = { c with heatTop := clamp 1024 65000 v } ∨ d = { c with heatRelease := clamp 1024 65000 v } ∨
      d = { c with heatTrip := clamp 1024 65000 v })
    {r : Settings × Nat} (stored : (if d.heatOrdered then some (d, w) else none) = some r) : r.1.Ok := by
  split at stored
  · rename_i ordered
    obtain rfl := Option.some.inj stored
    have heat := ok.heat
    have range := clamp_range v (show 1024 ≤ 65000 by omega)
    simp only [Settings.heatOrdered, Bool.decide_and, Bool.and_eq_true, decide_eq_true_eq] at ordered
    rcases changed with rfl | rfl | rfl <;> dsimp only at ordered ⊢ <;>
      exact ⟨ok.attempts, ok.edges, ok.period, ok.tolerance, ok.downshift, ok.upshift, by dsimp only; omega, ok.delay⟩
  · contradiction

/-- A setting stored keeps every setting in its range (R176). -/
theorem Settings.Ok.store {c : Settings} (ok : c.Ok) {item v : Nat} {r : Settings × Nat} (stored : c.store item v = some r) :
    r.1.Ok := by
  simp only [Settings.store] at stored
  split at stored
  · obtain ⟨on, -, rfl⟩ := Option.map_eq_some_iff.1 stored
    exact ⟨ok.attempts, ok.edges, ok.period, ok.tolerance, ok.downshift, ok.upshift, ok.heat, ok.delay⟩
  · obtain rfl := Option.some.inj stored
    exact ⟨clamp_range v (by omega), ok.edges, ok.period, ok.tolerance, ok.downshift, ok.upshift, ok.heat, ok.delay⟩
  · split at stored
    · obtain rfl := Option.some.inj stored
      exact ⟨ok.attempts, ‹_›, ok.period, ok.tolerance, ok.downshift, ok.upshift, ok.heat, ok.delay⟩
    · contradiction
  · split at stored
    · obtain rfl := Option.some.inj stored
      exact ⟨ok.attempts, ok.edges, ‹_›, ok.tolerance, ok.downshift, ok.upshift, ok.heat, ok.delay⟩
    · contradiction
  · obtain rfl := Option.some.inj stored
    exact ⟨ok.attempts, ok.edges, ok.period, clamp_range v (by omega), ok.downshift, ok.upshift, ok.heat, ok.delay⟩
  · obtain ⟨on, -, rfl⟩ := Option.map_eq_some_iff.1 stored
    exact ⟨ok.attempts, ok.edges, ok.period, ok.tolerance, ok.downshift, ok.upshift, ok.heat, ok.delay⟩
  · obtain rfl := Option.some.inj stored
    exact ⟨ok.attempts, ok.edges, ok.period, ok.tolerance, clamp_range v (by omega), ok.upshift, ok.heat, ok.delay⟩
  · obtain rfl := Option.some.inj stored
    exact ⟨ok.attempts, ok.edges, ok.period, ok.tolerance, ok.downshift, clamp_range v (by omega), ok.heat, ok.delay⟩
  · exact ok.heatStored v (.inl rfl) stored
  · exact ok.heatStored v (.inr (.inl rfl)) stored
  · exact ok.heatStored v (.inr (.inr rfl)) stored
  · obtain rfl := Option.some.inj stored
    exact ⟨ok.attempts, ok.edges, ok.period, ok.tolerance, ok.downshift, ok.upshift, ok.heat, clamp_range v (by omega)⟩
  · split at stored
    · obtain rfl := Option.some.inj stored
      exact ⟨ok.attempts, ok.edges, ok.period, ok.tolerance, ok.downshift, ok.upshift, ok.heat, ok.delay⟩
    · contradiction
  · contradiction

/-! ### The figures of a bay -/

/-- The figures of a bay in range, with the rules of its remap table (R107). -/
structure Bay.FiguresOk (y : Bay) : Prop where
  ranges : y.RangesOk
  map    : y.map.Ok y.record.typeCode

/-- The figures of a bay record that a range is stated of stay in their ranges, and the type code stays or is cleared. -/
@[simp] def BayRecord.KeepsFigures (r r' : BayRecord) : Prop :=
  (r'.typeCode = r.typeCode ∨ r'.typeCode = 0) ∧ (r.attempts ≤ 8 → r'.attempts ≤ 8) ∧ (r.trips ≤ 16 → r'.trips ≤ 16)

/-- The figures of a spindle that a range is stated of stay in their ranges. -/
@[simp] def Spindle.KeepsFigures (x x' : Spindle) : Prop :=
  (x.count ≤ 2 → x'.count ≤ 2) ∧ (x.reading ≤ 65535 → x'.reading ≤ 65535)

/-- The figures of an actuator record that a range is stated of stay in their ranges. -/
@[simp] def Actuator.KeepsFigures (x x' : Actuator) : Prop :=
  (x.failures ≤ 8 → x'.failures ≤ 8) ∧ (x.upshiftRun ≤ 1024 → x'.upshiftRun ≤ 1024) ∧ (x.downshift ≤ 3 → x'.downshift ≤ 3)

/-- The figures of a coil heat monitor that a range is stated of stay in their ranges. -/
def Heat.KeepsFigures (h h' : Heat) : Prop :=
  (h.estimate ≤ 65535 → h'.estimate ≤ 65535) ∧ (h.offset ≤ 3 → h'.offset ≤ 3) ∧ (h.delay ≤ 480 → h'.delay ≤ 480)

/-- The counters and thresholds of a bay stay in their ranges. -/
def Counters.KeepsFigures (c c' : Counters) : Prop :=
  ((∀ n : CounterName, c.counts[n.index] ≤ 65535) → ∀ n : CounterName, c'.counts[n.index] ≤ 65535) ∧
  ((∀ n : CounterName, 1 ≤ c.thresholds[n.index] ∧ c.thresholds[n.index] ≤ 65535) →
    ∀ n : CounterName, 1 ≤ c'.thresholds[n.index] ∧ c'.thresholds[n.index] ≤ 65535)

theorem Heat.add_keepsFigures (h : Heat) (n : Nat) : h.KeepsFigures (h.add n) :=
  ⟨fun _ => Nat.min_le_left _ _, id, id⟩

theorem Heat.evaluate_keepsFigures (h : Heat) {c : Settings} (ok : c.Ok) : h.KeepsFigures (h.evaluate c) := by
  have adjust := ok.delay
  refine ⟨fun low => ?_, fun low => ?_, fun low => ?_⟩
  · simp only [Heat.evaluate, Heat.decay]
    omega
  · simp only [Heat.evaluate]
    split
    · rename_i up
      simp only [Heat.stepsUp, Bool.decide_and, Bool.and_eq_true, decide_eq_true_eq] at up
      omega
    · have same : h.decay.offset = h.offset := rfl
      split <;> omega
  · simp only [Heat.evaluate, delayLoad]
    split
    · omega
    · simp only [Heat.decay]
      omega

/-- A counter that rises holds at 65,535. -/
theorem Counters.raised_keepsFigures (c : Counters) (n : CounterName) (k : Nat) :
    c.KeepsFigures { c with counts := c.counts.set n.index (min Config.max16 k) } := by
  refine ⟨fun low m => ?_, id⟩
  simp only [Fin.getElem_fin, Vector.getElem_set]
  split
  · exact Nat.min_le_left _ _
  · exact low m

/-- A threshold stored is clamped to its range. -/
theorem Counters.threshold_keepsFigures (c : Counters) (n : CounterName) (v : Nat) :
    c.KeepsFigures { c with thresholds := c.thresholds.set n.index (clamp 1 65535 v) } := by
  refine ⟨id, fun low m => ?_⟩
  simp only [Fin.getElem_fin, Vector.getElem_set]
  split
  · exact clamp_range v (by omega)
  · exact low m

theorem Counters.cleared_keepsFigures (c : Counters) : c.KeepsFigures { c with counts := Vector.replicate 7 0 } :=
  ⟨fun _ m => by simp, id⟩

end Sys2Proof.Machine
end
section
/-!
SUPPORT. The arms of exec, each once: the meaning of a command is the function named after it.
-/

namespace Sys2Proof.Machine

theorem exec_powerOn (pins : PinLevels) (s : State) : exec (.powerOn pins) s = execPowerOn pins s := by rfl
theorem exec_softReset (s : State) : exec .softReset s = execSoftReset s := by rfl
theorem exec_frameDiscard (chars : List LinkChar) (s : State) :
    exec (.frameDiscard chars) s = execFrameDiscard chars s := by rfl
theorem exec_characterGapTimeout (s : State) : exec .characterGapTimeout s = execCharacterGapTimeout s := by rfl
theorem exec_unknownMessage (code bay : Byte) (body : List Byte) (s : State) :
    exec (.unknownMessage code bay body) s = execUnknownMessage code bay body s := by rfl
theorem exec_faults (bay : Byte) (s : State) : exec (.faults bay) s = execFaults bay s := by rfl
theorem exec_set (bay item itemBay : Byte) (value : BitVec 32) (s : State) :
    exec (.set bay item itemBay value) s = execSet bay item itemBay value s := by rfl
theorem exec_get (bay item itemBay : Byte) (s : State) : exec (.get bay item itemBay) s = execGet bay item itemBay s := by rfl
theorem exec_counters (bay : Byte) (clear : Bool) (s : State) :
    exec (.counters bay clear) s = execCounters bay clear s := by rfl
theorem exec_reset (bay : Byte) (force : Bool) (s : State) : exec (.reset bay force) s = execReset bay force s := by rfl
theorem exec_lock (bay : Byte) (s : State) : exec (.lock bay) s = execLock bay s := by rfl
theorem exec_unlock (bay : Byte) (s : State) : exec (.unlock bay) s = execUnlock bay s := by rfl
theorem exec_read (bay : Byte) (block : BitVec 16) (count : Byte) (s : State) :
    exec (.read bay block count) s = execRead bay block count s := by rfl
theorem exec_readPhys (bay : Byte) (cylinder : BitVec 16) (head sector count : Byte) (s : State) :
    exec (.readPhys bay cylinder head sector count) s = execReadPhys bay cylinder head sector count s := by rfl
theorem exec_writePhys (bay : Byte) (cylinder : BitVec 16) (head sector : Byte) (data : Sector) (s : State) :
    exec (.writePhys bay cylinder head sector data) s = execWritePhys bay cylinder head sector data s := by rfl
theorem exec_seek (bay : Byte) (cylinder : BitVec 16) (s : State) :
    exec (.seek bay cylinder) s = execSeek bay cylinder s := by rfl
theorem exec_mapSave (bay : Byte) (s : State) : exec (.mapSave bay) s = execMapSave bay s := by rfl
theorem exec_supplyGoodRises (s : State) : exec .supplyGoodRises s = execSupplyGoodRises s := by rfl
theorem exec_holdEnd (s : State) : exec .holdEnd s = execHoldEnd s := by rfl
theorem exec_supplyLoss (s : State) : exec .supplyLoss s = execSupplyLoss s := by rfl
theorem exec_presentSenseRise (bay : BayId) (s : State) : exec (.presentSenseRise bay) s = execPresentSenseRise bay s := by rfl
theorem exec_insertion (bay : BayId) (typeSense0 typeSense1 : Bool) (s : State) :
    exec (.insertion bay typeSense0 typeSense1) s = execInsertion bay typeSense0 typeSense1 s := by rfl
theorem exec_presentSenseFall (bay : BayId) (s : State) : exec (.presentSenseFall bay) s = execPresentSenseFall bay s := by rfl
theorem exec_solenoidPulseEnd (bay : BayId) (present : Bool) (s : State) :
    exec (.solenoidPulseEnd bay present) s = execSolenoidPulseEnd bay present s := by rfl
theorem exec_removalTimeout (bay : BayId) (s : State) : exec (.removalTimeout bay) s = execRemovalTimeout bay s := by rfl
theorem exec_measurementWindowStart (bay : BayId) (s : State) :
    exec (.measurementWindowStart bay) s = execMeasurementWindowStart bay s := by rfl
theorem exec_measurementComplete (bay : BayId) (raw : RawOutcome) (s : State) :
    exec (.measurementComplete bay raw) s = execMeasurementComplete bay raw s := by rfl
theorem exec_attemptTimeout (bay : BayId) (s : State) : exec (.attemptTimeout bay) s = execAttemptTimeout bay s := by rfl
theorem exec_recoveryTimeout (bay : BayId) (s : State) : exec (.recoveryTimeout bay) s = execRecoveryTimeout bay s := by rfl
theorem exec_budgetRequest (bay : BayId) (kind : RequestKind) (s : State) :
    exec (.budgetRequest bay kind) s = execBudgetRequest bay kind s := by rfl
theorem exec_claimRelease (bay : BayId) (consumer : Consumer) (s : State) :
    exec (.claimRelease bay consumer) s = execClaimRelease bay consumer s := by rfl
theorem exec_withdrawal (bay : BayId) (kind : RequestKind) (s : State) :
    exec (.withdrawal bay kind) s = execWithdrawal bay kind s := by rfl
theorem exec_spinUpGrant (bay : BayId) (s : State) : exec (.spinUpGrant bay) s = execSpinUpGrant bay s := by rfl
theorem exec_recoverGrant (bay : BayId) (s : State) : exec (.recoverGrant bay) s = execRecoverGrant bay s := by rfl
theorem exec_seekGrant (bay : BayId) (s : State) : exec (.seekGrant bay) s = execSeekGrant bay s := by rfl
theorem exec_loadGrant (bay : BayId) (s : State) : exec (.loadGrant bay) s = execLoadGrant bay s := by rfl
theorem exec_recalibrateGrant (bay : BayId) (s : State) : exec (.recalibrateGrant bay) s = execRecalibrateGrant bay s := by rfl
theorem exec_solenoidGrant (bay : BayId) (s : State) : exec (.solenoidGrant bay) s = execSolenoidGrant bay s := by rfl
theorem exec_seekComplete (bay : BayId) (sample : Nat) (s : State) :
    exec (.seekComplete bay sample) s = execSeekComplete bay sample s := by rfl
theorem exec_trackLoss (bay : BayId) (s : State) : exec (.trackLoss bay) s = execTrackLoss bay s := by rfl
theorem exec_loadGuardFound (bay : BayId) (s : State) : exec (.loadGuardFound bay) s = execLoadGuardFound bay s := by rfl
theorem exec_loadTimeout (bay : BayId) (s : State) : exec (.loadTimeout bay) s = execLoadTimeout bay s := by rfl
theorem exec_recalibrationComplete (bay : BayId) (s : State) :
    exec (.recalibrationComplete bay) s = execRecalibrationComplete bay s := by rfl
theorem exec_recalibrationFailed (bay : BayId) (s : State) :
    exec (.recalibrationFailed bay) s = execRecalibrationFailed bay s := by rfl
theorem exec_unloadComplete (bay : BayId) (s : State) : exec (.unloadComplete bay) s = execUnloadComplete bay s := by rfl
theorem exec_unloadFailed (bay : BayId) (s : State) : exec (.unloadFailed bay) s = execUnloadFailed bay s := by rfl
theorem exec_evaluation (s : State) : exec .evaluation s = execEvaluation s := by rfl
theorem exec_mediaChoice (bay : BayId) (s : State) : exec (.mediaChoice bay) s = execMediaChoice bay s := by rfl
theorem exec_readPassEnd (bay : BayId) (result : PassResult) (s : State) :
    exec (.readPassEnd bay result) s = execReadPassEnd bay result s := by rfl
theorem exec_sectorIdTimeout (bay : BayId) (s : State) : exec (.sectorIdTimeout bay) s = execSectorIdTimeout bay s := by rfl
theorem exec_writeAttemptDone (bay : BayId) (s : State) : exec (.writeAttemptDone bay) s = execWriteAttemptDone bay s := by rfl
theorem exec_writeFault (bay : BayId) (s : State) : exec (.writeFault bay) s = execWriteFault bay s := by rfl
theorem exec_entryPerformed (bay : BayId) (s : State) : exec (.entryPerformed bay) s = execEntryPerformed bay s := by rfl
theorem exec_entryFailed (bay : BayId) (s : State) : exec (.entryFailed bay) s = execEntryFailed bay s := by rfl
theorem exec_entryAbandoned (bay : BayId) (s : State) : exec (.entryAbandoned bay) s = execEntryAbandoned bay s := by rfl
theorem exec_addressCharacter (low : Byte) (s : State) : exec (.addressCharacter low) s = execAddressCharacter low s := by rfl

end Sys2Proof.Machine
end


section
/-!
SUPPORT. What every command is made of. `State.Keeps s t` says that t comes from s by changes each of which keeps the rules of
chapter 2 (the budget), chapter 8 (the queue) and section 11.4 (the ranges), and leaves the commands that wait: changes of a bay, of
the Write Queue, and of the unit's other records. One lemma for each operation of the bays' blocks says that it is made of such
changes; what each change keeps is then kept by every command.
-/

namespace Sys2Proof.Machine

/-- The fault list is no longer than its limits (R138). -/
def FaultList.InRange (f : FaultList) : Prop := f.records.length ≤ 8 ∧ f.overflow ≤ 255

/-- An accepted RESET without FORCE, not yet taken, finds no write entry (R178). -/
def State.ResetOk (s : State) : Prop := s.link.resetPending = some false → s.queue.entryCount = 0

/-- A state that differs from another in no bay and not in the queue, with the rules of what it does change kept. -/
structure State.KeepsUnit (s t : State) : Prop where
  bays     : ∀ b, t.bay b = s.bay b
  queue    : t.queue = s.queue
  pending  : t.pending = s.pending
  budget   : s.budget.Ok → t.budget.Ok
  settings : s.settings.Ok → t.settings.Ok
  faults   : s.faults.InRange → t.faults.InRange
  errors   : s.link.errors ≤ 65535 → t.link.errors ≤ 65535
  reset    : s.ResetOk → t.ResetOk

/-- A list with fewer items holds fewer entries. -/
theorem entryCount_le_of_sublist {q q' : WriteQueue} (fewer : q'.items.Sublist q.items) : q'.entryCount ≤ q.entryCount :=
  (entriesOf_sublist fewer).length_le

theorem entryCount_map {q q' : WriteQueue} {h : Item → Item} {g : WriteEntry → WriteEntry} (c : ChangesItems h g)
    (same : q'.items = q.items.map h) : q'.entryCount = q.entryCount := by
  rw [WriteQueue.entryCount, WriteQueue.entryCount, same, c.entriesOf_map, List.length_map]

theorem entryCount_changeWriting (q : WriteQueue) (b : BayId) (n attempts : Nat) :
    ({ q with items := changeWriting b n (fun e => { e with writing := false, attempts }) q.items } : WriteQueue).entryCount =
      q.entryCount := by
  obtain ⟨h, c, -, same⟩ := WriteQueue.changeWriting_changes b n attempts
  exact entryCount_map c (same q.items)

theorem entryCount_flushToOrder (q : WriteQueue) (b : BayId) :
    ({ q with items := flushToOrder b q.items } : WriteQueue).entryCount = q.entryCount :=
  entryCount_map (WriteQueue.flushToOrder_changes b) rfl

theorem entryCount_markWriting (q : WriteQueue) (e : WriteEntry) :
    ({ q with items := markWriting e q.items } : WriteQueue).entryCount = q.entryCount := by
  have length (l : List Item) : (entriesOf (markWriting e l)).length = (entriesOf l).length := by
    induction l with
    | nil => rfl
    | cons i rest ih =>
      unfold markWriting
      split
      · rename_i same
        subst same
        simp [entriesOf]
      · cases i with
        | entry f => simpa [entriesOf] using ih
        | mark c k => simpa [entriesOf] using ih
  exact length q.items

/-- A state made from another by changes that keep the rules. -/
inductive State.Keeps (s : State) : State → Prop
  | refl : State.Keeps s s
  | bay {t : State} (m : State.Keeps s t) (b : BayId) (f : Bay → Bay)
      (keeps : t.settings.Ok → (t.bay b).FiguresOk → (f (t.bay b)).FiguresOk) : State.Keeps s (t.modBay b f)
  | queue {t : State} (m : State.Keeps s t) (q : WriteQueue) (keeps : t.queue.Ok → q.Ok)
      (fewer : q.entryCount ≤ t.queue.entryCount ∨ t.link.resetPending = none) : State.Keeps s { t with queue := q }
  | unit {t u : State} (m : State.Keeps s t) (keeps : t.KeepsUnit u) : State.Keeps s u

theorem Spindle.brake_keepsFigures (x : Spindle) : x.KeepsFigures x.brake := by
  simp [Spindle.KeepsFigures, Spindle.brake, Spindle.enter]
theorem Spindle.regulate_keepsFigures (x : Spindle) (n : Nat) : x.KeepsFigures (x.regulate n) := by
  simp [Spindle.KeepsFigures, Spindle.regulate, Spindle.enter]
theorem Actuator.endPlan_keepsFigures (x : Actuator) (o : PlanOutcome) : x.KeepsFigures (x.endPlan o) := ⟨id, id, id⟩

/-! ### What the changes keep -/

/-- The figures of the unit are in range when those of each bay and of the unit's records are. -/
theorem State.rangesOk_iff {s : State} : s.RangesOk ↔
    s.settings.Ok ∧ (∀ b, (s.bay b).FiguresOk) ∧ s.faults.InRange ∧ s.link.errors ≤ 65535 := by
  constructor
  · intro ok
    refine ⟨ok.settings, fun b => ?_, ⟨ok.records, ok.overflow⟩, ok.errors⟩
    cases b
    · exact ⟨ok.bayA, ok.mapA⟩
    · exact ⟨ok.bayB, ok.mapB⟩
  · rintro ⟨settings, bays, ⟨records, overflow⟩, errors⟩
    exact ⟨settings, (bays .bayA).ranges, (bays .bayB).ranges, records, overflow, errors, (bays .bayA).map, (bays .bayB).map⟩

namespace State.Keeps

variable {b : BayId} {s t : State}

theorem pending (m : Keeps s t) : t.pending = s.pending := by
  induction m with
  | refl => rfl
  | bay _ b f _ ih => exact (State.modBay_pending ..).trans ih
  | queue _ _ _ _ ih => exact ih
  | unit _ keeps ih => exact keeps.pending.trans ih

theorem budget_ok (m : Keeps s t) (ok : s.budget.Ok) : t.budget.Ok := by
  induction m with
  | refl => exact ok
  | bay _ b f _ ih => rwa [State.modBay_budget]
  | queue _ _ _ _ ih => exact ih
  | unit _ keeps ih => exact keeps.budget ih

theorem queue_ok (m : Keeps s t) (ok : s.queue.Ok) : t.queue.Ok := by
  induction m with
  | refl => exact ok
  | bay _ b f _ ih => rwa [State.modBay_queue]
  | queue _ _ keeps _ ih => exact keeps ih
  | unit _ keeps ih => rwa [keeps.queue]

theorem reset_ok (m : Keeps s t) (ok : s.ResetOk) : t.ResetOk := by
  induction m with
  | refl => exact ok
  | bay _ b f _ ih =>
    unfold State.ResetOk
    rwa [State.modBay_queue, State.modBay_link]
  | queue _ q _ fewer ih =>
    intro pending
    rcases fewer with fewer | none
    · exact Nat.le_zero.1 (Nat.le_trans fewer (Nat.le_of_eq (ih pending)))
    · exact absurd (none.symm.trans pending) nofun
  | unit _ keeps ih => exact keeps.reset ih

theorem ranges_ok (m : Keeps s t) (ok : s.RangesOk) : t.RangesOk := by
  rw [State.rangesOk_iff] at ok ⊢
  induction m with
  | refl => exact ok
  | bay _ b f keeps ih =>
    obtain ⟨settings, bays, faults, errors⟩ := ih
    refine ⟨by rwa [State.modBay_settings], fun c => ?_, by rwa [State.modBay_faults], by rwa [State.modBay_link]⟩
    rcases b.eq_or_other c with rfl | rfl
    · rw [State.modBay_bay]
      exact keeps settings (bays _)
    · rw [State.modBay_other]
      exact bays _
  | queue _ q _ _ ih =>
    obtain ⟨settings, bays, faults, errors⟩ := ih
    exact ⟨settings, fun c => by cases c with | bayA => exact bays .bayA | bayB => exact bays .bayB, faults, errors⟩
  | unit _ keeps ih =>
    obtain ⟨settings, bays, faults, errors⟩ := ih
    exact ⟨keeps.settings settings, fun c => keeps.bays c ▸ bays c, keeps.faults faults, keeps.errors errors⟩

/-! ### Changes of one record -/

theorem pins (m : Keeps s t) (f : BayPins → BayPins) : Keeps s (t.modPins b f) :=
  m.bay b _ fun _ ok => ⟨⟨ok.ranges.typeCode, ok.ranges.attempts, ok.ranges.trips, ok.ranges.count, ok.ranges.reading,
    ok.ranges.failures, ok.ranges.upshift, ok.ranges.downshift, ok.ranges.estimate, ok.ranges.offset, ok.ranges.delay,
    ok.ranges.fairness, ok.ranges.counts, ok.ranges.thresholds⟩, ok.map⟩

theorem record (m : Keeps s t) (f : BayRecord → BayRecord)
    (keeps : (t.bay b).record.KeepsFigures (f (t.bay b).record)) :
    Keeps s (t.modRecord b f) := by
  refine m.bay b _ fun _ ok => ?_
  obtain ⟨typeCode, attempts, trips⟩ := keeps
  refine ⟨⟨?_, attempts ok.ranges.attempts, trips ok.ranges.trips, ok.ranges.count, ok.ranges.reading, ok.ranges.failures,
    ok.ranges.upshift, ok.ranges.downshift, ok.ranges.estimate, ok.ranges.offset, ok.ranges.delay, ok.ranges.fairness,
    ok.ranges.counts, ok.ranges.thresholds⟩, ?_⟩
  · rcases typeCode with same | clear
    · exact same.symm ▸ ok.ranges.typeCode
    · exact clear.symm ▸ Nat.zero_le _
  · rcases typeCode with same | clear
    · exact same.symm ▸ ok.map
    · exact clear.symm ▸ ok.map.untyped

theorem spindle (m : Keeps s t) (f : Spindle → Spindle)
    (keeps : (t.bay b).spindle.KeepsFigures (f (t.bay b).spindle)) :
    Keeps s (t.modSpindle b f) :=
  m.bay b _ fun _ ok => ⟨⟨ok.ranges.typeCode, ok.ranges.attempts, ok.ranges.trips, keeps.1 ok.ranges.count,
    keeps.2 ok.ranges.reading, ok.ranges.failures, ok.ranges.upshift, ok.ranges.downshift, ok.ranges.estimate,
    ok.ranges.offset, ok.ranges.delay, ok.ranges.fairness, ok.ranges.counts, ok.ranges.thresholds⟩, ok.map⟩

theorem act (m : Keeps s t) (f : Actuator → Actuator)
    (keeps : (t.bay b).act.KeepsFigures (f (t.bay b).act)) :
    Keeps s (t.modAct b f) := by
  obtain ⟨failures, upshift, downshift⟩ := keeps
  exact m.bay b _ fun _ ok => ⟨⟨ok.ranges.typeCode, ok.ranges.attempts, ok.ranges.trips, ok.ranges.count, ok.ranges.reading,
    failures ok.ranges.failures, upshift ok.ranges.upshift, downshift ok.ranges.downshift, ok.ranges.estimate,
    ok.ranges.offset, ok.ranges.delay, ok.ranges.fairness, ok.ranges.counts, ok.ranges.thresholds⟩, ok.map⟩

theorem heat (m : Keeps s t) (f : Heat → Heat)
    (keeps : t.settings.Ok → (t.bay b).heat.KeepsFigures (f (t.bay b).heat)) : Keeps s (t.modHeat b f) := by
  refine m.bay b _ fun settings ok => ?_
  obtain ⟨estimate, offset, delay⟩ := keeps settings
  exact ⟨⟨ok.ranges.typeCode, ok.ranges.attempts, ok.ranges.trips, ok.ranges.count, ok.ranges.reading,
    ok.ranges.failures, ok.ranges.upshift, ok.ranges.downshift, estimate ok.ranges.estimate,
    offset ok.ranges.offset, delay ok.ranges.delay, ok.ranges.fairness, ok.ranges.counts, ok.ranges.thresholds⟩, ok.map⟩

theorem media (m : Keeps s t) (f : Media → Media)
    (keeps : (t.bay b).media.fairness ≤ 4 → (f (t.bay b).media).fairness ≤ 4) : Keeps s (t.modMedia b f) :=
  m.bay b _ fun _ ok => ⟨⟨ok.ranges.typeCode, ok.ranges.attempts, ok.ranges.trips, ok.ranges.count, ok.ranges.reading,
    ok.ranges.failures, ok.ranges.upshift, ok.ranges.downshift, ok.ranges.estimate, ok.ranges.offset, ok.ranges.delay,
    keeps ok.ranges.fairness, ok.ranges.counts, ok.ranges.thresholds⟩, ok.map⟩

theorem map (m : Keeps s t) (f : RemapTable → RemapTable)
    (keeps : (t.bay b).map.Ok (t.bay b).record.typeCode → (f (t.bay b).map).Ok (t.bay b).record.typeCode) :
    Keeps s (t.modMap b f) :=
  m.bay b _ fun _ ok => ⟨⟨ok.ranges.typeCode, ok.ranges.attempts, ok.ranges.trips, ok.ranges.count, ok.ranges.reading,
    ok.ranges.failures, ok.ranges.upshift, ok.ranges.downshift, ok.ranges.estimate, ok.ranges.offset, ok.ranges.delay,
    ok.ranges.fairness, ok.ranges.counts, ok.ranges.thresholds⟩, keeps ok.map⟩

theorem slot (m : Keeps s t) (f : Slot → Slot) : Keeps s (t.modSlot b f) :=
  m.bay b _ fun _ ok => ⟨⟨ok.ranges.typeCode, ok.ranges.attempts, ok.ranges.trips, ok.ranges.count, ok.ranges.reading,
    ok.ranges.failures, ok.ranges.upshift, ok.ranges.downshift, ok.ranges.estimate, ok.ranges.offset, ok.ranges.delay,
    ok.ranges.fairness, ok.ranges.counts, ok.ranges.thresholds⟩, ok.map⟩

theorem latches (m : Keeps s t) (f : Latches → Latches) : Keeps s (t.modLatches b f) :=
  m.bay b _ fun _ ok => ⟨⟨ok.ranges.typeCode, ok.ranges.attempts, ok.ranges.trips, ok.ranges.count, ok.ranges.reading,
    ok.ranges.failures, ok.ranges.upshift, ok.ranges.downshift, ok.ranges.estimate, ok.ranges.offset, ok.ranges.delay,
    ok.ranges.fairness, ok.ranges.counts, ok.ranges.thresholds⟩, ok.map⟩

theorem counters (m : Keeps s t) (f : Counters → Counters) (keeps : (t.bay b).counters.KeepsFigures (f (t.bay b).counters)) :
    Keeps s (t.modCounters b f) :=
  m.bay b _ fun _ ok => ⟨⟨ok.ranges.typeCode, ok.ranges.attempts, ok.ranges.trips, ok.ranges.count, ok.ranges.reading,
    ok.ranges.failures, ok.ranges.upshift, ok.ranges.downshift, ok.ranges.estimate, ok.ranges.offset, ok.ranges.delay,
    ok.ranges.fairness, keeps.1 ok.ranges.counts, keeps.2 ok.ranges.thresholds⟩, ok.map⟩

theorem signals (m : Keeps s t) (l : List Signal) : Keeps s { t with signals := l } :=
  m.unit ⟨fun c => by cases c <;> rfl, rfl, rfl, id, id, id, id, id⟩
theorem clock (m : Keeps s t) (n : Nat) : Keeps s (t.clockTo n) :=
  m.unit ⟨fun c => by cases c <;> rfl, rfl, rfl, id, id, id, id, id⟩
theorem free (m : Keeps s t) (n : Nat) : Keeps s { t with freeIndex := n } :=
  m.unit ⟨fun c => by cases c <;> rfl, rfl, rfl, id, id, id, id, id⟩
theorem latchUnit (m : Keeps s t) (e : UnitEvent) : Keeps s (t.latchUnit e) :=
  m.unit ⟨fun c => by cases c <;> rfl, rfl, rfl, id, id, id, id, id⟩
theorem putBudget (m : Keeps s t) (u : Budget × List Signal) (keeps : t.budget.Ok → u.1.Ok) : Keeps s (t.putBudget u) :=
  m.unit ⟨fun c => by cases c <;> rfl, rfl, rfl, keeps, id, id, id, id⟩
theorem respond (m : Keeps s t) (code field : Byte) (r : ReplyStatus) (body : List Byte) :
    Keeps s (t.respond code field r body) :=
  m.unit ⟨fun c => by cases c <;> rfl, rfl, rfl, id, id, id, id, id⟩
theorem setAssembly (m : Keeps s t) (a : Assembly) : Keeps s (t.setAssembly a) :=
  m.unit ⟨fun c => by cases c <;> rfl, rfl, rfl, id, id, id, id, id⟩

/-- A counter rises, with the latch of its threshold (R152). -/
theorem raise (m : Keeps s t) (n : CounterName) (k : Nat) : Keeps s (t.raise b n k) := by
  have risen := m.counters (b := b)
    (fun c => { c with counts := c.counts.set n.index (min Config.max16 ((t.bay b).counters.counts[n.index] + k)) })
    (Counters.raised_keepsFigures _ n _)
  rcases t.raise_cases b n k with h | h <;> rw [h]
  · exact risen
  · exact (risen.latches _).latches _

/-- A fault record joins the list, or is counted (R138). -/
theorem fault (m : Keeps s t) (r : FaultRecord) : Keeps s (t.appendFault r) := by
  unfold State.appendFault
  split
  · rename_i room
    have joined : Keeps s { t with faults := { t.faults with records := t.faults.records ++ [r] } } :=
      m.unit ⟨fun c => by cases c <;> rfl, rfl, rfl, id, id,
        fun ok => ⟨by rw [List.length_append]; exact room, ok.2⟩, id, id⟩
    dsimp only
    split
    · exact joined.latchUnit _
    · exact joined
  · exact m.unit ⟨fun c => by cases c <;> rfl, rfl, rfl, id, id, fun ok => ⟨ok.1, Nat.min_le_left _ _⟩, id, id⟩

/-! ### Shared operations (Machine/Ops.lean, Machine/Flags.lean) -/

theorem latch (m : Keeps s t) (e : BayEvent) : Keeps s (t.latch b e) := m.latches _
theorem send (m : Keeps s t) (x : Signal) : Keeps s (t.send x) := m.signals _
theorem request (m : Keeps s t) (k : RequestKind) (l : Nat) : Keeps s (t.request b k l) := m.send _
theorem release (m : Keeps s t) (c : Consumer) : Keeps s (t.release b c) := m.send _
theorem withdraw (m : Keeps s t) (k : RequestKind) : Keeps s (t.withdraw b k) := m.send _
theorem dropSignal (m : Keeps s t) (p : Signal → Bool) : Keeps s (t.dropSignal p) := m.signals _

theorem releaseUnwanted (m : Keeps s t) (k : RequestKind) : Keeps s (t.releaseUnwanted b k) := by
  unfold State.releaseUnwanted
  split
  · exact m.signals _
  · exact m.release _

theorem completeSlot (m : Keeps s t) (r : ResultStatus) : Keeps s (t.completeSlot b r) := by
  rcases t.completeSlot_cases b r with h | h <;> rw [h]
  · exact m
  · exact (m.slot _).latch _

theorem endSlot (m : Keeps s t) (r : ResultStatus) : Keeps s (t.endSlot b r) := by
  rcases t.endSlot_cases b r with h | h <;> rw [h]
  · exact m
  · exact (m.slot _).latch _

theorem occupySlot (m : Keeps s t) (r : LongRequest) : Keeps s (t.occupySlot b r) := (m.slot _).media _ (by simp)
theorem freeSlot (m : Keeps s t) : Keeps s (t.freeSlot b) := (m.slot _).media _ (by simp)

/-- A discard of the bay, with its counter, its fault record and its event (R137). -/
theorem discard (m : Keeps s t) : Keeps s (t.discard b) := by
  simp only [State.discard]
  split
  · exact m.queue _ (fun ok => ok.without b) (.inl (entryCount_le_of_sublist List.filter_sublist))
  · exact (((m.queue _ (fun ok => ok.without b) (.inl (entryCount_le_of_sublist List.filter_sublist))).raise _ _).fault _).latch _

/-! ### The actuator (chapter 5) -/

theorem selectHead (m : Keeps s t) (n : Nat) : Keeps s (t.selectHead b n) := m.pins _

theorem startSeek (m : Keeps s t) (q : SeekInHand) (l : Nat) : Keeps s (t.startSeek b q l) := by
  unfold State.startSeek
  exact ((m.act _ (by simp)).selectHead _).heat _ fun _ => Heat.add_keepsFigures _ _

theorem planSeek (m : Keeps s t) (q : SeekInHand) : Keeps s (t.planSeek b q) := by
  simp only [State.planSeek]
  split
  · exact m
  · split
    · exact m.startSeek _ _
    · exact (m.act _ (by simp)).request _ _

theorem takeSeek (m : Keeps s t) (q : SeekInHand) : Keeps s (t.takeSeek b q) := by
  unfold State.takeSeek
  split
  · exact m.act _ (by simp)
  · exact m.planSeek q

theorem seekNeed (m : Keeps s t) (r : Requester) (c h : Nat) : Keeps s (t.seekNeed b r c h).1 := by
  unfold State.seekNeed
  split
  · exact m
  · split
    · exact m
    · exact m.takeSeek _

theorem releaseSeek (m : Keeps s t) : Keeps s (t.releaseSeek b) := by
  unfold State.releaseSeek
  split
  · exact m.release _
  · exact m

theorem askRecal (m : Keeps s t) : Keeps s (t.askRecal b) := (m.act _ (by simp)).request _ _

theorem upshiftTest (m : Keeps s t) : Keeps s (t.upshiftTest b) := by
  simp only [State.upshiftTest]
  split
  · exact (m.act _ (by simp; omega)).latch _
  · exact m

theorem downshiftTest (m : Keeps s t) : Keeps s (t.downshiftTest b) := by
  simp only [State.downshiftTest]
  split
  · split
    · exact (m.act _ (by simp; omega)).latch _
    · exact m.act _ (by simp)
  · exact m

theorem seekSucceeds (m : Keeps s t) (q : SeekInHand) : Keeps s (t.seekSucceeds b q) :=
  (m.releaseSeek.act _ (by simp [Actuator.endPlan, Nat.min_le_left])).upshiftTest

theorem seekFails (m : Keeps s t) (q : SeekInHand) (o : PlanOutcome) : Keeps s (t.seekFails b q o) := by
  have planEnded := (m.releaseSeek (b := b)).act (b := b) (fun x => { x.endPlan o with cylinder := none })
    (by simp [Actuator.endPlan])
  exact (((planEnded.raise _ _).act _ (by simp [Nat.min_le_left])).downshiftTest.act _ (by simp)).askRecal

theorem holdSeek (m : Keeps s t) : Keeps s (t.holdSeek b) := by
  simp only [State.holdSeek]
  split
  · split
    · exact (m.act _ (by simp)).withdraw _
    · exact m
  · exact m

theorem takeHeld (m : Keeps s t) : Keeps s (t.takeHeld b) := by
  simp only [State.takeHeld]
  split
  · split
    · exact m.planSeek _
    · exact m
  · exact m

theorem newMove (m : Keeps s t) : Keeps s (t.newMove b) := (m.act _ (by simp)).free _

theorem askLoad (m : Keeps s t) : Keeps s (t.askLoad b) := by
  unfold State.askLoad
  split
  · exact (m.act _ (by simp)).request _ _
  · exact m

theorem startUnload (m : Keeps s t) : Keeps s (t.startUnload b) := by
  simp only [State.startUnload]
  split
  · exact (m.act _ (by simp)).send _
  · exact m.act _ (by simp)

theorem withdrawSeek (m : Keeps s t) : Keeps s (t.withdrawSeek b) := by
  unfold State.withdrawSeek
  split
  · exact m.withdraw _
  · exact m

theorem askUnload (m : Keeps s t) : Keeps s (t.askUnload b).1 := by
  have noLoad : Keeps s (t.modAct b fun x => { x with loadAttempt := none }) := m.act _ (by simp)
  cases h : (t.bay b).act.state with
  | unloaded =>
    simp only [State.askUnload, h]
    split
    · exact noLoad.withdraw _
    · exact noLoad
  | loading => simp only [State.askUnload, h]; exact (noLoad.release _).startUnload
  | recalibrating =>
    cases k : (t.bay b).act.recal <;> simp only [State.askUnload, h, k]
    · exact noLoad.startUnload
    · exact (noLoad.withdraw _).startUnload
    · exact (noLoad.release _).startUnload
    · exact noLoad.startUnload
  | tracking => simp only [State.askUnload, h]; exact noLoad.withdrawSeek.startUnload
  | seeking =>
    simp only [State.askUnload, h]
    exact (noLoad.releaseSeek.act _ (by simp [Actuator.endPlan])).startUnload
  | unloading =>
    simp only [State.askUnload, h]
    split
    · exact noLoad
    · exact noLoad.startUnload

theorem retract (m : Keeps s t) : Keeps s (t.retract b) := by
  unfold State.retract
  have fired : Keeps s (if (t.bay b).act.state = .unloaded ∧ (t.bay b).act.unloadFailed = false then t
      else t.modPins b fun p => { p with retractFired := p.retractFired + 1 }) := by
    split
    · exact m
    · exact m.pins _
  exact (fired.signals _).act _ (by simp [Actuator.endPlan])

/-! ### The spindle (chapter 3) -/

theorem spinUp (m : Keeps s t) : Keeps s (t.spinUp b) := by
  simp only [State.spinUp]
  split
  · exact (m.spindle _ (by simp)).request _ _
  · exact m.spindle _ (by simp)
  · exact m

theorem askStop (m : Keeps s t) : Keeps s (t.askStop b).1 := by
  have braked := m.spindle (b := b) Spindle.brake (Spindle.brake_keepsFigures _)
  cases h : (t.bay b).spindle.state <;> simp only [State.askStop, h]
  · exact m
  · exact (m.spindle _ (by simp)).withdraw _
  · exact braked.release _
  · exact braked.release _
  · split
    · exact braked.withdraw _
    · exact braked
  · exact braked.release _
  · exact m.spindle _ (by simp)

theorem answerSpindle (m : Keeps s t) : Keeps s (t.answerSpindle b) := by
  simp only [State.answerSpindle]
  split
  · exact (m.spindle _ (by simp)).request _ _
  · exact m

theorem endAttempt (m : Keeps s t) : Keeps s (t.endAttempt b) :=
  (m.spindle (fun x => { x.brake with attemptEnd := true }) (Spindle.brake_keepsFigures _)).release _

/-! ### The Bay Controller (chapters 1 and 10) -/

theorem enterReady (m : Keeps s t) : Keeps s (t.enterReady b) := (m.record _ (by simp)).latch _
theorem enterRaw (m : Keeps s t) : Keeps s (t.enterRaw b) := (m.record _ (by simp)).latch _
theorem startDebounce (m : Keeps s t) : Keeps s (t.startDebounce b) := m.record _ (by simp)

theorem becomeEmpty (m : Keeps s t) : Keeps s (t.becomeEmpty b) := by
  have empty : Keeps s (t.modRecord b fun _ => {}) := m.record _ (by simp)
  simp only [State.becomeEmpty]
  split
  · exact empty.startDebounce
  · exact empty

theorem dropMedia (m : Keeps s t) : Keeps s (t.dropMedia b) := m.media _ (by simp)

theorem stopSolenoid (m : Keeps s t) : Keeps s (t.stopSolenoid b) := by
  simp only [State.stopSolenoid]
  split
  · exact m.release _
  · split
    · exact m.withdraw _
    · exact m

theorem faultBasic (m : Keeps s t) (c : FaultCause) : Keeps s (t.faultBasic b c) := by
  have entered := (m.stopSolenoid (b := b)).record (b := b)
    (fun r => { r with state := .fault, phase := .none, cause := c, eject := none, parkStep := .drain, resetPark := false,
                       pulsing := false, debouncing := false }) (by simp)
  simp only [State.faultBasic]
  split
  · exact (entered.latch _).dropMedia.discard.endSlot _
  · exact entered.dropMedia.discard.endSlot _

theorem enterRelease (m : Keeps s t) : Keeps s (t.enterRelease b) := (m.record _ (by simp)).request _ _

theorem attemptCounted (m : Keeps s t) : Keeps s (t.attemptCounted b) := by
  have counted := ((m.record (b := b) (fun r => { r with attempts := min 8 (r.attempts + 1) }) (by simp [Nat.min_le_left])).raise (b := b) .spinAttempts 1)
  simp only [State.attemptCounted]
  split
  · exact (counted.latch _).spinUp
  · exact counted.faultBasic _

theorem stopConfirmed (m : Keeps s t) (ended : Bool) : Keeps s (t.stopConfirmed b ended) := by
  simp only [State.stopConfirmed]
  repeat' split
  · exact m.attemptCounted
  · exact m
  · exact m.attemptCounted
  · exact m
  · exact m.becomeEmpty
  · exact ((m.record _ (by simp)).latch _).enterRelease
  · exact (m.record _ (by simp)).latch _
  · exact m
  · exact m.enterRelease
  · exact m
  · exact m.becomeEmpty
  · exact m
  · exact m.becomeEmpty
  · exact m
  · exact m

theorem stopSpindle (m : Keeps s t) : Keeps s (t.stopSpindle b) := by
  have asked := m.askStop (b := b)
  simp only [State.stopSpindle]
  split <;> rename_i u h <;> rw [h] at asked
  · exact asked.stopConfirmed _
  · exact asked

theorem enterSpindown (m : Keeps s t) : Keeps s (t.enterSpindown b) := (m.record _ (by simp)).stopSpindle

theorem unloadedReport (m : Keeps s t) : Keeps s (t.unloadedReport b) := by
  simp only [State.unloadedReport]
  repeat' split
  · exact m.enterSpindown
  · exact m
  · exact (m.record _ (by simp)).stopSpindle
  · exact m
  · exact (m.record _ (by simp)).stopSpindle
  · exact (m.record _ (by simp)).stopSpindle
  · exact m.stopSpindle
  · exact m
  · exact m

theorem unloadHeads (m : Keeps s t) : Keeps s (t.unloadHeads b) := by
  have asked := m.askUnload (b := b)
  simp only [State.unloadHeads]
  split <;> rename_i u h <;> rw [h] at asked
  · exact asked.unloadedReport
  · exact asked

theorem enterUnload (m : Keeps s t) : Keeps s (t.enterUnload b) := (m.record _ (by simp)).unloadHeads

theorem enterFault (m : Keeps s t) (c : FaultCause) : Keeps s (t.enterFault b c) := by
  simp only [State.enterFault]
  split
  · exact (m.faultBasic _).unloadHeads
  · exact (m.faultBasic _).unloadHeads.stopSpindle
  · exact m.faultBasic _

theorem faultReport (m : Keeps s t) (c : FaultCause) : Keeps s (t.faultReport b c) := by
  unfold State.faultReport
  split
  · exact m
  · exact m.enterFault c

theorem checkDrain (m : Keeps s t) : Keeps s (t.checkDrain b) := by
  simp only [State.checkDrain]
  repeat' split
  · exact (m.record _ (by simp)).unloadHeads
  · exact m
  · exact (m.record _ (by simp)).media _ (by simp)
  · exact m.enterUnload
  · exact m
  · exact m
  · exact m

theorem ejectSpinning (m : Keeps s t) : Keeps s (t.ejectSpinning b) := by
  unfold State.ejectSpinning
  split
  · exact m.stopSpindle.enterRelease
  · exact m.enterSpindown

theorem startEject (m : Keeps s t) (o : EjectOrigin) : Keeps s (t.startEject b o) := by
  have begun := m.record (b := b)
    (fun r => { r with eject := some { origin := o, pulse := 1, saveMarker := false }, resetPark := false }) (by simp)
  simp only [State.startEject]
  repeat' split
  · exact (begun.record _ (by simp)).checkDrain
  · exact (begun.record _ (by simp)).checkDrain
  · exact begun.enterRelease
  · exact begun.enterRelease
  · exact begun.ejectSpinning
  · exact begun.dropMedia.enterUnload
  · exact begun.dropMedia.enterUnload
  · exact begun.ejectSpinning
  · exact begun.enterUnload
  · exact begun.enterSpindown
  · exact (begun.record _ (by simp)).enterUnload
  · exact (begun.record _ (by simp)).enterSpindown
  · exact (begun.record _ (by simp)).enterRelease
  · exact begun
  · exact begun
  · exact begun

theorem sweepNext (m : Keeps s t) : Keeps s (t.sweepNext b) := by
  unfold State.sweepNext
  split
  · exact m.seekNeed _ _ _
  · exact m

theorem sweepEnded (m : Keeps s t) : Keeps s (t.sweepEnded b) := by
  have trips (n : Nat) (low : (t.bay b).record.trips ≤ 16 → n ≤ 16) :=
    m.record (b := b) (fun r => { r with trips := n, sweepOut := !r.sweepOut }) ⟨.inl rfl, id, low⟩
  simp only [State.sweepEnded]
  split
  · have range : (t.bay b).record.trips ≤ 16 →
        (if (t.bay b).record.sweepOut then min 16 ((t.bay b).record.trips + 1) else (t.bay b).record.trips) ≤ 16 := fun low => by
      split <;> omega
    generalize (if (t.bay b).record.sweepOut then min 16 ((t.bay b).record.trips + 1) else (t.bay b).record.trips) = n at range ⊢
    split
    · exact (((trips n range).latch _).record _ (by simp)).enterUnload
    · exact (trips n range).sweepNext
  · exact m

theorem trackingReport (m : Keeps s t) : Keeps s (t.trackingReport b) := by
  simp only [State.trackingReport]
  repeat' split
  · exact (m.record _ (by simp)).media _ (by simp)
  · exact m.enterReady
  · exact m.enterRaw
  · exact m.sweepNext
  · exact m

theorem positionLost (m : Keeps s t) : Keeps s (t.positionLost b) := by
  simp only [State.positionLost]
  split
  · exact m.faultReport _
  · exact m.faultReport _
  · exact m.faultReport _
  · exact m.faultReport _
  · exact m.faultReport _
  · exact m.faultReport _
  · exact ((m.latch _).record _ (by simp)).enterUnload
  all_goals exact m

theorem labelVerdict (m : Keeps s t) (data : Option Sector) : Keeps s (t.labelVerdict b data) := by
  unfold State.labelVerdict
  split
  · exact m
  · split
    · rename_i entries generation judged
      obtain ⟨-, distinct, ranges⟩ := RemapTable.judgeLabel_ok judged
      exact ((m.map _ fun _ => RemapTable.fill_ok _ distinct ranges _).record _ (by simp)).enterReady
    · exact ((((m.map _ fun _ => RemapTable.fill_ok _ rfl (by simp) _).record _ (by simp)).latch _).latches _).enterRaw

theorem saveSucceeded (m : Keeps s t) : Keeps s (t.saveSucceeded b) := by
  have saved := (m.map (b := b) RemapTable.saved fun ok => ok.congr rfl).record (b := b)
    (fun r => { r with standing := .labelled }) (by simp)
  unfold State.saveSucceeded
  dsimp only
  split
  · exact saved.enterReady
  · exact saved

theorem custodySaved (m : Keeps s t) (ok : Bool) : Keeps s (t.custodySaved b ok) := by
  have ended := m.record (b := b)
    (fun r => { r with eject := r.eject.map fun e => { e with saveMarker := false } }) (by simp)
  simp only [State.custodySaved]
  split
  · cases ok <;> simp only [if_true, if_false, Bool.false_eq_true]
    · split
      · exact (ended.latch _).enterUnload
      · exact ended.latch _
    · split
      · exact ended.enterUnload
      · exact ended
  · exact m

theorem runReport (m : Keeps s t) : Keeps s (t.runReport b) := by
  simp only [State.runReport]
  split
  · exact (m.record _ (by simp)).askLoad
  iterate 5 exact m.askLoad
  iterate 2
    split
    · exact m.askLoad
    · exact m
  all_goals exact m

theorem answerLoss (m : Keeps s t) : Keeps s (t.answerLoss b) := by
  simp only [State.answerLoss]
  repeat' split
  · exact m
  · exact m
  · exact m.stopSpindle
  · exact m.stopSpindle
  · exact m.stopSpindle
  · exact m
  · exact m
  · exact m.stopSpindle
  · exact m

theorem haltBay (m : Keeps s t) : Keeps s (t.haltBay b) := by
  unfold State.haltBay
  dsimp only
  split
  · exact (m.dropMedia.record _ (by simp)).discard.endSlot _
  · split
    · exact m.dropMedia.enterRelease
    · exact m.dropMedia

theorem startSpinning (m : Keeps s t) (n : BayState) : Keeps s (t.startSpinning b n) := by
  unfold State.startSpinning
  split
  · exact m.record _ (by simp)
  · exact (m.record _ (by simp)).spinUp

theorem leaveHalted (m : Keeps s t) : Keeps s (t.leaveHalted b) := by
  simp only [State.leaveHalted]
  split
  · split
    · exact m.enterSpindown
    · exact (m.record _ (by simp)).startSpinning _
  · exact m

/-! ### The Write Queue (chapter 8) -/

theorem markTest_of {q : WriteQueue} (m : Keeps s t)
    (keeps : t.queue.Ok → ({ q with items := (dropMarks b q.items).1 } : WriteQueue).Ok)
    (fewer : q.entryCount ≤ t.queue.entryCount) :
    Keeps s (({ t with queue := q } : State).markTest b) := by
  have kept := m.queue { q with items := (dropMarks b q.items).1 } keeps
    (.inl (Nat.le_trans (entryCount_le_of_sublist (dropMarks_sublist b _)) fewer))
  rcases State.markTest_cases ({ t with queue := q } : State) b with h | h <;> rw [h]
  · exact kept
  · exact kept.completeSlot _

/-- The entry of an outcome leaves the list (R133, R134). -/
theorem removeEntry (m : Keeps s t) {n : Nat} {e : WriteEntry} (h : t.queue.outcomeEntry b n = some e) :
    Keeps s (t.removeEntry b n) := m.markTest_of (fun ok => ok.remove h) (entryCount_le_of_sublist List.filter_sublist)

/-- The entry of an outcome, not superseded, returns to QUEUED (R134, R135). -/
theorem requeue (m : Keeps s t) {n attempts : Nat} {e : WriteEntry} (h : t.queue.outcomeEntry b n = some e)
    (few : t.queue.Ok → attempts ≤ 2) (alone : t.queue.superseded e = false) : Keeps s (t.requeue b n attempts) :=
  m.queue _ (fun ok => ok.requeue h (few ok) alone) (.inl (Nat.le_of_eq (entryCount_changeWriting ..)))

/-! ### The Media Engine (chapter 9) -/

theorem modOp (m : Keeps s t) (f : MediaOp → MediaOp) : Keeps s (t.modOp b f) := m.media _ (by simp)
theorem askSeek (m : Keeps s t) (op : MediaOp) : Keeps s (t.askSeek b op) := (m.seekNeed _ _ _).modOp _

theorem position (m : Keeps s t) (op : MediaOp) : Keeps s (t.position b op) := by
  unfold State.position
  dsimp only
  split
  · exact m.modOp _
  · exact m.askSeek op

theorem beginOp (m : Keeps s t) (op : MediaOp) : Keeps s (t.beginOp b op) := (m.media _ (by simp)).position op
theorem endOp (m : Keeps s t) : Keeps s (t.endOp b) := m.media _ (by simp)
theorem stage (m : Keeps s t) (d : Sector) : Keeps s (t.stage b d) := by
  unfold State.stage
  exact (m.media _ (by simp)).slot _

theorem completeRead (m : Keeps s t) : Keeps s (t.completeRead b) := by
  unfold State.completeRead
  split
  · split
    · exact m.completeSlot _
    · exact m
  · exact m

theorem readGood (m : Keeps s t) (op : MediaOp) (d : Sector) : Keeps s (t.readGood b op d) := by
  have counted : Keeps s (if 0 < op.passes then t.raise b .softReadErrors 1 else t) := by
    split
    · exact m.raise _ _
    · exact m
  unfold State.readGood
  dsimp only
  split
  · exact counted.endOp.labelVerdict _
  · split
    · exact counted.endOp.checkDrain
    · exact (counted.endOp.stage _).completeRead.checkDrain

theorem readBad (m : Keeps s t) (op : MediaOp) (r : ResultStatus) : Keeps s (t.readBad b op r) := by
  unfold State.readBad
  dsimp only
  split
  · exact m.endOp.labelVerdict _
  · split
    · exact m.endOp.checkDrain
    · exact (m.endOp.completeSlot _).checkDrain

theorem passFails (m : Keeps s t) (op : MediaOp) : Keeps s (t.passFails b op) := by
  unfold State.passFails
  dsimp only
  split
  · exact (m.raise _ _).readBad _ _
  · split
    · exact (m.modOp _).askRecal
    · exact m.modOp _

theorem performWrite (m : Keeps s t) (op : MediaOp) : Keeps s (t.performWrite b op) := by
  unfold State.performWrite
  split
  · exact m.media _ (by simp)
  · exact m

/-- An operation that an ABORT has dropped completes no slot (R151, R159). -/
theorem completeUnlessOrphan (m : Keeps s t) (orphan : Bool) (r : ResultStatus) :
    Keeps s (if orphan then t else t.completeSlot b r) := by
  split
  · exact m
  · exact m.completeSlot r

theorem writeGood (m : Keeps s t) (op : MediaOp) : Keeps s (t.writeGood b op) := by
  have ended := (m.performWrite (b := b) op).endOp (b := b)
  unfold State.writeGood
  dsimp only
  split
  · split
    · exact ended.send _
    · exact ended
  · exact (ended.saveSucceeded.custodySaved _).checkDrain
  · exact (ended.saveSucceeded.completeUnlessOrphan _ _).checkDrain
  · exact (ended.completeUnlessOrphan _ _).checkDrain

theorem saveFails (m : Keeps s t) (op : MediaOp) : Keeps s (t.saveFails b op) := by
  unfold State.saveFails
  dsimp only
  split
  · exact ((m.raise _ _).raise _ _).custodySaved _
  · split
    · exact m.raise _ _
    · exact (m.raise _ _).media _ (by simp)

theorem slotWriteFails (m : Keeps s t) (op : MediaOp) : Keeps s (t.slotWriteFails b op) := by
  unfold State.slotWriteFails
  dsimp only
  split
  · exact ((m.raise _ _).raise _ _).completeUnlessOrphan _ _
  · split
    · exact m.raise _ _
    · exact (m.raise _ _).media _ (by simp)

theorem writeBad (m : Keeps s t) (op : MediaOp) : Keeps s (t.writeBad b op) := by
  unfold State.writeBad
  dsimp only
  split
  · split
    · exact m.endOp.send _
    · exact m.endOp
  · exact (m.endOp.saveFails op).checkDrain
  · exact (m.endOp.slotWriteFails op).checkDrain

theorem mediaSeekDone (m : Keeps s t) : Keeps s (t.mediaSeekDone b) := by
  unfold State.mediaSeekDone
  split
  · split
    · exact (m.endOp.completeUnlessOrphan _ _).checkDrain
    · exact m.modOp _
  · exact m

theorem mediaSeekFault (m : Keeps s t) : Keeps s (t.mediaSeekFault b) := by
  unfold State.mediaSeekFault
  split
  · split
    · exact m.readBad _ _
    · split
      · exact m.writeBad _
      · exact (m.endOp.completeUnlessOrphan _ _).checkDrain
  · exact m

theorem mediaTrackLost (m : Keeps s t) : Keeps s (t.mediaTrackLost b) := by
  unfold State.mediaTrackLost
  split
  · split
    · split
      · exact m.modOp _
      · exact m.writeBad _
    · exact m
  · exact m

theorem mediaTracking (m : Keeps s t) : Keeps s (t.mediaTracking b) := by
  unfold State.mediaTracking
  dsimp only
  split
  · exact m.media _ (by simp)
  · split
    · split
      · exact m.position _
      · exact m
    · exact m

theorem mediaAskAgain (m : Keeps s t) : Keeps s (t.mediaAskAgain b) := by
  unfold State.mediaAskAgain
  split
  · split
    · exact m.position _
    · exact m
  · exact m

theorem mediaSpeedLoss (m : Keeps s t) : Keeps s (t.mediaSpeedLoss b) := by
  have stalled := m.media (b := b) (fun x => { x with state := .stalled, op := none }) (by simp)
  unfold State.mediaSpeedLoss
  dsimp only
  split
  · split
    · exact stalled.send _
    · exact stalled.media _ (by simp)
    · split
      · exact stalled
      · exact stalled.media _ (by simp)
    · exact stalled
  · exact stalled

theorem buildLabel (m : Keeps s t) : Keeps s (t.buildLabel b) := (m.media _ (by simp)).map _ fun ok => ok.congr rfl

theorem takeCustody (m : Keeps s t) (c : Custody) : Keeps s (t.takeCustody b c) := by
  unfold State.takeCustody
  dsimp only
  split
  · exact (m.media _ (by simp)).beginOp _
  · exact (m.media _ (by simp)).buildLabel.beginOp _

theorem countSlotOp (m : Keeps s t) : Keeps s (t.countSlotOp b) := by
  unfold State.countSlotOp
  exact m.media _ fun _ => by dsimp only; split <;> omega

theorem serveFromQueue (m : Keeps s t) (first fuel : Nat) : Keeps s (t.serveFromQueue b first fuel) := by
  induction fuel generalizing t with
  | zero => exact m
  | succ fuel ih =>
    unfold State.serveFromQueue
    split
    · exact ih (m.stage _)
    · exact m

theorem takeSlot (m : Keeps s t) (r : LongRequest) : Keeps s (t.takeSlot b r) := by
  unfold State.takeSlot
  dsimp only
  split
  · split
    · exact ((m.serveFromQueue _ _).completeSlot _).checkDrain
    · exact (m.serveFromQueue _ _).countSlotOp.beginOp _
  · exact m.countSlotOp.beginOp _
  · exact m.countSlotOp.beginOp _
  · exact m.countSlotOp.beginOp _
  · exact m.countSlotOp.buildLabel.beginOp _
  · exact m
  · exact m

end State.Keeps

/-- The entry chosen for a drain write is one of the candidates (R132). -/
theorem State.nearest_mem {s : State} {c : Option Nat} {l : List WriteEntry} {e : WriteEntry} (h : s.nearest c l = some e) :
    e ∈ l := by
  induction l with
  | nil => simp [State.nearest] at h
  | cons f rest ih =>
    unfold State.nearest at h
    split at h
    · rename_i d g hg
      split at h
      · exact Option.some.inj h ▸ List.mem_cons_self
      · obtain rfl := Option.some.inj h
        exact List.mem_cons_of_mem _ (ih hg)
    · exact Option.some.inj h ▸ List.mem_cons_self

/-- A drain write is chosen only while the bay has no WRITING entry (R131). -/
theorem State.choice_drain {s : State} {b : BayId} (h : s.choice b = .drain) : s.queue.writingOf b = none := by
  have due : s.drainWork b = .drain → s.queue.writingOf b = none := fun h => by
    unfold State.drainWork at h
    split at h
    · contradiction
    · rename_i none
      simpa using none
  unfold State.choice at h
  dsimp only at h
  split at h
  · contradiction
  · split at h
    · exact due h
    · contradiction
  · split at h
    · exact due h
    · contradiction

namespace State.Keeps

variable {b : BayId} {s t : State}

theorem takeDrain (m : Keeps s t) (none : t.queue.writingOf b = none) : Keeps s (t.takeDrain b) := by
  unfold State.takeDrain
  split
  · exact ((m.queue _ (fun ok => ok.take (State.nearest_mem ‹_›) none) (.inl (Nat.le_of_eq (entryCount_markWriting ..)))).media _ (by simp)).beginOp _
  · exact m

theorem choose (m : Keeps s t) : Keeps s (t.choose b) := by
  unfold State.choose
  split
  · split
    · exact m.takeCustody _
    · exact m.takeDrain (State.choice_drain ‹_›)
    · exact m.takeSlot _
    · exact m
  · exact m

end State.Keeps

end Sys2Proof.Machine
end

section
/-!
PROOFS. Every command but POWER_ON is made of changes that keep the rules (`State.Keeps`): the events of the blocks, the messages,
the link. What a step keeps then follows once for the budget (O56), the queue (O57), the ranges (O58) and the waiting commands (O3).
-/

namespace Sys2Proof.Machine

/-- The outcome is a next state made by changes that keep the rules. -/
def State.GoesOn (s : State) (o : Host.Outcome State Fault Refusal) : Prop := ∃ t, o = .next t ∧ s.Keeps t

theorem State.Keeps.next {s t : State} (m : s.Keeps t) : s.GoesOn (.next t) := ⟨t, rfl, m⟩
theorem State.goesOn_refl (s : State) : s.GoesOn (.next s) := State.Keeps.refl.next

/-- The figures of a map message that are not refused are in range (R109). -/
theorem mapFigures_none {typeCode : Nat} {index block spare : Option Nat} (passed : mapFigures typeCode index block spare = none) :
    (∀ i ∈ index, i < 64) ∧ (∀ n ∈ block, blockOk typeCode n = true) ∧ ∀ k ∈ spare, spareOk k = true := by
  unfold mapFigures at passed
  split at passed
  · contradiction
  · split at passed
    · contradiction
    · split at passed
      · contradiction
      · simp_all [Option.any_eq_true]

/-- The lowest invalid index is one of the table's 64, and holds no entry (R112). -/
theorem RemapTable.lowestInvalid_some {t : RemapTable} {i : Nat} (h : t.lowestInvalid = some i) :
    ∃ j : Fin 64, i = j.val ∧ t.entries[j] = none := by
  unfold RemapTable.lowestInvalid at h
  obtain ⟨p, hp, rfl⟩ := Option.map_eq_some_iff.1 h
  have listed := List.mem_of_find?_eq_some hp
  rw [RemapTable.indexed_eq] at listed
  obtain ⟨j, -, rfl⟩ := List.mem_map.1 listed
  exact ⟨j, rfl, by simpa using List.find?_some hp⟩

theorem reportedReading_le (raw : RawOutcome) (slowMark : Bool) : reportedReading raw slowMark ≤ 65535 := by
  unfold reportedReading
  split
  · omega
  · split <;> omega
  · exact Nat.le_refl _

namespace State.Keeps

variable {b : BayId} {s t : State}

/-! ### Seeks, loads, unloads and the heat -/

theorem retrySeek (m : Keeps s t) : Keeps s (t.retrySeek b) := by
  unfold State.retrySeek
  split
  · split
    · split
      · split
        · exact m.takeSeek _
        · exact (m.act _ (by simp)).mediaSeekFault
      · exact (m.act _ (by simp)).sweepEnded
    · exact m.takeHeld
  · exact m

theorem unloadEnded (m : Keeps s t) : Keeps s (t.unloadEnded b) := by
  have ended := m.act (b := b) (fun x => { x with state := .unloaded, unloadFailed := false, unloadMoving := false }) (by simp)
  unfold State.unloadEnded
  dsimp only
  split
  · split
    · exact (ended.act _ (by simp)).request _ _
    · exact (ended.act _ (by simp)).positionLost
  · exact ended.unloadedReport.answerSpindle

theorem evaluateBay (m : Keeps s t) : Keeps s (t.evaluateBay b) := by
  have stepped : Keeps s (if ((t.bay b).heat.evaluate t.settings).offset ≠ (t.bay b).heat.offset
      then (t.modHeat b fun _ => (t.bay b).heat.evaluate t.settings).latch b .heatStep
      else t.modHeat b fun _ => (t.bay b).heat.evaluate t.settings) := by
    have evaluated := m.heat (b := b) (fun _ => (t.bay b).heat.evaluate t.settings) (Heat.evaluate_keepsFigures _)
    split
    · exact evaluated.latch _
    · exact evaluated
  unfold State.evaluateBay
  dsimp only
  split
  · exact stepped
  · split
    · exact (stepped.latch _).holdSeek
    · exact (stepped.latch _).takeHeld

/-! ### The sensors and the supply -/

theorem removed (m : Keeps s t) : Keeps s (t.removed b) := by
  unfold State.removed
  dsimp only
  split
  · exact ((m.latch _).completeSlot _).becomeEmpty
  · exact (m.latch _).becomeEmpty

theorem inserted (m : Keeps s t) {code : Nat} (low : code ≤ 3) :
    Keeps s ((t.modRecord b fun _ => { typeCode := code }).modBay b Bay.insertNeighbours) := by
  have one : (t.modRecord b fun _ => { typeCode := code }).modBay b Bay.insertNeighbours =
      t.modBay b fun y => Bay.insertNeighbours { y with record := { typeCode := code } } := by
    cases b <;> rfl
  rw [one]
  exact m.bay b _ fun _ ok => ⟨⟨low, Nat.zero_le _, Nat.zero_le _, ok.ranges.count, ok.ranges.reading, Nat.zero_le _,
    Nat.zero_le _, Nat.zero_le _, ok.ranges.estimate, ok.ranges.offset, ok.ranges.delay, ok.ranges.fairness, ok.ranges.counts,
    ok.ranges.thresholds⟩, RemapTable.ok_empty _⟩

theorem loseSupplyIn (m : Keeps s t) : Keeps s (t.loseSupplyIn b) := by
  refine (m.retract.spindle _ ?_).haltBay
  unfold Spindle.loseSupply
  dsimp only
  split
  · exact ⟨id, id⟩
  · exact Spindle.brake_keepsFigures _

/-! ### The spindle -/

theorem enterRun (m : Keeps s t) : Keeps s (t.enterRun b) :=
  (((m.free _).spindle _ (Spindle.regulate_keepsFigures _ _)).putBudget _ fun ok => ok.reduce b).runReport

theorem speedLost (m : Keeps s t) : Keeps s (t.speedLost b) := by
  have asked := (((m.spindle (b := b) (fun x => { x with state := .recoverWait, recoverAsked := false }) (by simp)).release
    (b := b) .spindle).latch (b := b) .speedLoss).askUnload (b := b)
  unfold State.speedLost
  dsimp only
  split <;> rename_i u h <;> rw [h] at asked
  · exact asked.answerSpindle.mediaSpeedLoss.answerLoss.checkDrain
  · exact asked.mediaSpeedLoss.answerLoss.checkDrain

theorem spindleStopped (m : Keeps s t) : Keeps s (t.spindleStopped b) := by
  have off := m.spindle (b := b) (fun x => { x with state := .off, count := 2, attemptEnd := false, pendingSpinUp := false })
    (by simp)
  unfold State.spindleStopped
  dsimp only
  split
  · exact ((off.spindle _ (by simp)).request _ _).stopConfirmed _
  · exact off.stopConfirmed _

/-- The successive-count takes one of the values 0 to 2 (R45). -/
theorem counting (m : Keeps s t) {n : Nat} (low : n ≤ 2) (stall : Bool) : Keeps s (t.modSpindle b fun x => x.counting n stall) :=
  m.spindle _ ⟨fun _ => low, id⟩

theorem readInAccel (m : Keeps s t) (c : SpeedClass) (late : Bool) : Keeps s (t.readInAccel b c late) := by
  unfold State.readInAccel
  dsimp only
  split
  · split
    · exact m.enterRun
    · exact m.counting (by omega) _
  · split
    · split
      · exact m.endAttempt
      · exact m.counting (by omega) _
    · exact m.counting (by omega) _
  · exact m.counting (by omega) _

theorem readInRun (m : Keeps s t) (c drive : SpeedClass) : Keeps s (t.readInRun b c drive) := by
  have driven := (m.free (t.freeIndex + 1)).spindle (b := b)
    (fun x => { x with demand := regulated x.demand drive t.freeIndex }) (by simp)
  unfold State.readInRun
  dsimp only
  split
  · exact driven.counting (Nat.zero_le 2) false
  · split
    · exact (driven.counting (Nat.le_refl 2) false).speedLost
    · exact driven.counting (Nat.le_succ 1) false

theorem readInRecover (m : Keeps s t) (c : SpeedClass) : Keeps s (t.readInRecover b c) := by
  unfold State.readInRecover
  split
  · split
    · exact (m.latch _).enterRun
    · exact m.counting (by omega) _
  · exact m.counting (by omega) _

theorem readInStopping (m : Keeps s t) (c : SpeedClass) : Keeps s (t.readInStopping b c) := by
  unfold State.readInStopping
  split
  · split
    · exact m.spindleStopped
    · exact m.counting (by omega) _
  · exact m.counting (by omega) _

theorem recordReading (m : Keeps s t) (w : Window) (raw : RawOutcome) (c : SpeedClass) : Keeps s (t.recordReading b w raw c) :=
  ((m.clock _).free _).spindle _ ⟨id, fun _ => reportedReading_le _ _⟩

/-! ### The link -/

theorem discardFrame (m : Keeps s t) : Keeps s t.discardFrame := by
  have counted : Keeps s { t with link := { t.link with assembly := .idle, errors := min Config.max16 (t.link.errors + 1) } } :=
    m.unit ⟨fun c => by cases c <;> rfl, rfl, rfl, id, id, id, fun _ => Nat.min_le_left _ _, id⟩
  exact counted.latchUnit _

theorem takeAddress (m : Keeps s t) (low : Byte) : Keeps s (t.takeAddress low) := by
  unfold State.takeAddress
  dsimp only
  repeat' split
  · exact m.setAssembly _
  · exact m.discardFrame.setAssembly _
  · exact m
  · exact m.discardFrame

theorem takeData (m : Keeps s t) (low : Byte) : Keeps s (t.takeData low) := by
  unfold State.takeData
  dsimp only
  repeat' split
  · exact m
  · exact m.setAssembly _
  · exact m.discardFrame
  · exact m.setAssembly _
  · exact m.discardFrame
  · exact m.setAssembly _

theorem takeChar (m : Keeps s t) (c : LinkChar) : Keeps s (t.takeChar c) := by
  unfold State.takeChar
  split
  · split
    · exact m
    · exact m.discardFrame
  · split
    · exact m.takeAddress _
    · exact m.takeData _

theorem takeChars (m : Keeps s t) (cs : List LinkChar) : Keeps s (cs.foldl State.takeChar t) := by
  induction cs generalizing t with
  | nil => exact m
  | cons c cs ih => exact ih (m.takeChar c)

/-! ### The resets -/

/-- The budget takes another of the rules' budgets. -/
theorem withBudget (m : Keeps s t) (u : Budget) (keeps : t.budget.Ok → u.Ok) : Keeps s { t with budget := u } :=
  m.unit ⟨fun c => by cases c <;> rfl, rfl, rfl, keeps, id, id, id, id⟩

/-- The link's figures, the error count not raised, and no RESET accepted without FORCE while an entry is held (R178). -/
theorem link (m : Keeps s t) (k : Link) (errors : k.errors ≤ t.link.errors)
    (reset : t.ResetOk → k.resetPending = some false → t.queue.entryCount = 0) : Keeps s { t with link := k } :=
  m.unit ⟨fun c => by cases c <;> rfl, rfl, rfl, id, id, id, Nat.le_trans errors, reset⟩

theorem clearLatches (m : Keeps s t) : Keeps s t.clearLatches :=
  ((m.latches (b := .bayA) fun _ => {}).latches (b := .bayB) fun _ => {}).unit
    ⟨fun c => by cases c <;> rfl, rfl, rfl, id, id, id, id, id⟩

/-- The fault list is emptied, the reset is taken, and UNIT RESET is latched (R178). -/
theorem resetLists (m : Keeps s t) :
    Keeps s ({ t with faults := {}, link := { t.link with resetPending := none } }.latchUnit .unitReset) :=
  m.unit ⟨fun c => by cases c <;> rfl, rfl, rfl, id, id, fun _ => ⟨Nat.zero_le _, Nat.zero_le _⟩, id, nofun⟩

theorem softResetBay (m : Keeps s t) : Keeps s (t.modBay b Bay.softReset) := by
  refine m.bay b _ fun settings ok => ⟨⟨ok.ranges.typeCode, ok.ranges.attempts, ok.ranges.trips, ?_, ?_, Nat.zero_le _,
    Nat.zero_le _, Nat.zero_le _, ok.ranges.estimate, Nat.zero_le _, Nat.zero_le _, Nat.zero_le _, ok.ranges.counts,
    ok.ranges.thresholds⟩, RemapTable.ok_empty _⟩
  · show (t.bay b).spindle.softReset.count ≤ 2
    have low := ok.ranges.count
    unfold Spindle.softReset
    dsimp only
    split
    · exact Nat.zero_le 2
    iterate 3 exact Nat.zero_le 2
    · exact low
  · show (t.bay b).spindle.softReset.reading ≤ 65535
    have low := ok.ranges.reading
    unfold Spindle.softReset
    dsimp only
    split <;> exact low

theorem resetBay (m : Keeps s t) : Keeps s (t.resetBay b) := (m.record _ (by simp)).unloadHeads

theorem resetDecoder (m : Keeps s t) (force : Bool) : Keeps s (t.resetDecoder force) := by
  have discarded : Keeps s (if force then (t.discard .bayA).discard .bayB else t) := by
    split
    · exact m.discard.discard
    · exact m
  have freed := (discarded.freeSlot (b := .bayA)).freeSlot (b := .bayB)
  exact freed.clearLatches.resetLists

theorem softReset (m : Keeps s t) (force : Bool) : Keeps s (t.softReset force) := by
  have blocks := ((m.resetDecoder force).softResetBay (b := .bayA)).softResetBay (b := .bayB)
  unfold State.softReset
  exact (((blocks.withBudget _ fun ok => ok.softReset _).signals _).resetBay (b := .bayA)).resetBay

end State.Keeps

end Sys2Proof.Machine
end

section
/-! PROOFS. The commands one by one: each goes on, by changes that keep the rules. -/

namespace Sys2Proof.Machine

@[simp] theorem State.raise_queue (s : State) (b : BayId) (n : CounterName) (k : Nat) : (s.raise b n k).queue = s.queue := by
  rcases s.raise_cases b n k with h | h <;> rw [h] <;> simp [State.latchCounter]

@[simp] theorem State.appendFault_queue (s : State) (r : FaultRecord) : (s.appendFault r).queue = s.queue := by
  unfold State.appendFault
  split
  · dsimp only
    split <;> rfl
  · rfl

namespace State.Keeps

variable {b : BayId} {s t : State}

/-! ### Messages -/

theorem takeMessage_receiving (m : Keeps s t) {act : State → State}
    (acts : ∀ {u}, u.link.resetPending = none → Keeps s u → Keeps s (act u)) : Keeps s (t.takeMessage act) := by
  unfold State.takeMessage
  split
  · rename_i receives
    exact acts (by simpa [State.receives] using receives) (m.setAssembly .idle)
  · exact m

theorem takeMessage (m : Keeps s t) {act : State → State} (acts : ∀ {u}, Keeps s u → Keeps s (act u)) :
    Keeps s (t.takeMessage act) := m.takeMessage_receiving fun _ => acts

theorem toBay (m : Keeps s t) (code field : Byte) {act : State → BayId → State} (acts : ∀ b, Keeps s (act t b)) :
    Keeps s (t.toBay code field act) := by
  unfold State.toBay
  split
  · exact acts _
  · exact m.respond _ _ _ _

theorem forBay_receiving (m : Keeps s t) (code field : Byte) {act : State → BayId → State}
    (acts : ∀ {u} b, u.link.resetPending = none → Keeps s u → Keeps s (act u b)) : Keeps s (t.forBay code field act) :=
  m.takeMessage_receiving fun receives taken => taken.toBay code field fun b => acts b receives taken

theorem forBay (m : Keeps s t) (code field : Byte) {act : State → BayId → State}
    (acts : ∀ {u} b, Keeps s u → Keeps s (act u b)) : Keeps s (t.forBay code field act) :=
  m.forBay_receiving code field fun b _ => acts b

theorem forBayCounted (m : Keeps s t) (code field count : Byte) {act : State → BayId → State}
    (acts : ∀ {u} b, Keeps s u → Keeps s (act u b)) : Keeps s (t.forBayCounted code field count act) :=
  m.takeMessage fun taken => by
    split
    · exact taken.toBay code field fun b => acts b taken
    · exact taken.respond _ _ _ _

theorem forUnit (m : Keeps s t) (code field : Byte) {act : State → State} (acts : ∀ {u}, Keeps s u → Keeps s (act u)) :
    Keeps s (t.forUnit code field act) :=
  m.takeMessage fun taken => by
    split
    · exact acts taken
    · exact taken.respond _ _ _ _

theorem mapReply (m : Keeps s t) (code field : Byte) (r : ReplyStatus) (answer : List Byte) :
    Keeps s (t.mapReply code field b r answer) := m.respond _ _ _ _

theorem mapMessage (m : Keeps s t) (code field : Byte) (index block spare : Option Nat) {act : State → BayId → State}
    (acts : ∀ {u} b, mapFigures (u.bay b).record.typeCode index block spare = none → Keeps s u → Keeps s (act u b)) :
    Keeps s (t.mapMessage code field index block spare act) := by
  refine m.forBay code field fun {u} b taken => ?_
  split
  · exact taken.respond _ _ _ _
  · split
    · exact taken.respond _ _ _ _
    · exact acts b ‹_› taken

theorem accept (m : Keeps s t) (code field : Byte) (r : LongRequest) : Keeps s (t.accept code field b r) :=
  (m.occupySlot r).respond _ _ _ _

theorem orphanOp (m : Keeps s t) (p : OpKind → Bool) : Keeps s (t.orphanOp b p) := m.modOp _

theorem abortEject (m : Keeps s t) : Keeps s (t.abortEject b) := by
  have cleared := (((m.freeSlot (b := b)).record (b := b) (fun r => { r with eject := none }) (by simp)).media (b := b)
    (fun x => { x with custody := none, saveFailures := 0 }) (by simp)).orphanOp (b := b) fun k => k = .labelSave
  unfold State.abortEject
  dsimp only
  split
  · exact cleared.enterReady
  · exact cleared.enterRaw

/-- An entry written to the table, no duplicate and in range, keeps the table's rules (R111, R112). -/
theorem writeEntry (m : Keeps s t) (i : Fin 64) {except : Option Nat} {n spare : Nat} {index : Option Nat}
    (figures : mapFigures (t.bay b).record.typeCode index (some n) (some spare) = none)
    (alone : ¬ (t.bay b).map.duplicates except n spare = true) (here : ∀ j, except = some j → j = i.val) :
    Keeps s (t.modMap b fun x => x.edit i.val (some { block := n, spare })) := by
  obtain ⟨-, block, spareRange⟩ := mapFigures_none figures
  refine m.map _ fun ok => ok.write i (block n rfl) (spareRange spare rfl) fun j e other held => ?_
  rw [RemapTable.duplicates_iff] at alone
  refine not_or.1 fun same => alone ⟨j, e, fun at_ => ?_, held, same⟩
  exact other (Fin.ext (here _ at_.symm))

theorem store (m : Keeps s t) {item v : Nat} {itemBay : Byte} {r : State × Nat} (stored : t.store item itemBay v = some r) :
    Keeps s r.1 := by
  have threshold {u : State} (k : Keeps s u) (b : BayId) (n : CounterName) : Keeps s (u.setThreshold b n (clamp 1 65535 v)) :=
    k.counters _ (Counters.threshold_keepsFigures _ _ _)
  unfold State.store at stored
  split at stored
  · dsimp only at stored
    split at stored
    · obtain rfl := Option.some.inj stored
      exact threshold m _ _
    · split at stored
      · obtain rfl := Option.some.inj stored
        exact threshold (threshold m .bayA _) .bayB _
      · contradiction
  · split at stored
    · contradiction
    · split at stored
      · obtain rfl := Option.some.inj stored
        obtain ⟨low, high⟩ := clamp_range v (show Config.minCapacity ≤ Config.maxCapacity by decide)
        exact m.putBudget _ fun ok => ok.setCapacity low high
      · obtain ⟨c, set, rfl⟩ := Option.map_eq_some_iff.1 stored
        exact m.unit ⟨fun c => by cases c <;> rfl, rfl, rfl, id, fun ok => ok.store set, id, id, id⟩

/-! ### Outcomes and grants -/

theorem entryFails (m : Keeps s t) {e : WriteEntry} (h : t.queue.outcomeEntry b e.arrival = some e) :
    Keeps s (t.entryFails b e) := by
  have raised := m.raise (b := b) .writeRetries 1
  have queue : (t.raise b .writeRetries 1).queue = t.queue := State.raise_queue ..
  unfold State.entryFails
  dsimp only
  split
  · exact raised.removeEntry (queue ▸ h)
  · rename_i alone
    split
    · refine (((raised.raise _ _).fault _).latch _).removeEntry (e := e) ?_
      simpa using h
    · exact raised.requeue (queue ▸ h) (fun _ => by omega) (by simpa using alone)

theorem takeGrant (m : Keeps s t) (k : RequestKind) (wanted : Bool) {act : State → Nat → State}
    (acts : ∀ {u} l, u.bay = t.bay → Keeps s u → Keeps s (act u l)) : Keeps s (t.takeGrant b k wanted act) := by
  unfold State.takeGrant
  split
  · dsimp only
    split
    · exact acts _ (by funext c; cases c <;> rfl) (m.dropSignal _)
    · exact (m.dropSignal _).releaseUnwanted _
  · exact m

end State.Keeps

end Sys2Proof.Machine
end

section
/-! PROOFS. What every command makes is made of changes that keep the rules; the rules kept by every step (O3, O56, O57, O58, O60). -/

namespace Sys2Proof.Machine

variable (s : State) (b : BayId)

/-! ### The link and the unit -/

theorem execSoftReset_goesOn : s.GoesOn (execSoftReset s) := by
  unfold execSoftReset
  split
  · exact (State.Keeps.refl.softReset _).next
  · exact s.goesOn_refl

theorem execFrameDiscard_goesOn (chars : List LinkChar) : s.GoesOn (execFrameDiscard chars s) := by
  unfold execFrameDiscard
  split
  · exact (State.Keeps.refl.takeChars _).next
  · exact s.goesOn_refl

theorem execAddressCharacter_goesOn (low : Byte) : s.GoesOn (execAddressCharacter low s) := by
  unfold execAddressCharacter
  split
  · exact (State.Keeps.refl.takeAddress _).next
  · exact s.goesOn_refl

theorem execCharacterGapTimeout_goesOn : s.GoesOn (execCharacterGapTimeout s) := by
  unfold execCharacterGapTimeout
  split
  · exact s.goesOn_refl
  · exact (State.Keeps.refl.clock _).discardFrame.next

theorem execUnknownMessage_goesOn (code bay : Byte) (body : List Byte) : s.GoesOn (execUnknownMessage code bay body s) :=
  (State.Keeps.refl.takeMessage fun m => m.respond _ _ _ _).next

theorem execIdentify_goesOn (bay : Byte) (clear : Bool) : s.GoesOn (execIdentify bay clear s) := by
  refine (State.Keeps.refl.forUnit _ _ fun m => ?_).next
  dsimp only
  split
  · exact (m.respond _ _ _ _).link _ (Nat.zero_le _) id
  · exact m.respond _ _ _ _

theorem execReport_goesOn (bay : Byte) (peek : Bool) : s.GoesOn (execReport bay peek s) := by
  refine (State.Keeps.refl.forUnit _ _ fun m => ?_).next
  dsimp only
  split
  · exact m.respond _ _ _ _
  · exact (m.respond _ _ _ _).clearLatches

theorem execFaults_goesOn (bay : Byte) : s.GoesOn (execFaults bay s) := by
  refine (State.Keeps.refl.forUnit _ _ fun m => ?_).next
  exact (m.respond _ _ _ _).unit
    ⟨fun c => by cases c <;> rfl, rfl, rfl, id, id, fun _ => ⟨Nat.zero_le _, Nat.zero_le _⟩, id, id⟩

theorem execSet_goesOn (bay item itemBay : Byte) (value : BitVec 32) : s.GoesOn (execSet bay item itemBay value s) := by
  refine (State.Keeps.refl.forUnit _ _ fun m => ?_).next
  split
  · exact (m.store ‹_›).respond _ _ _ _
  · exact m.respond _ _ _ _

theorem execGet_goesOn (bay item itemBay : Byte) : s.GoesOn (execGet bay item itemBay s) := by
  refine (State.Keeps.refl.forUnit _ _ fun m => ?_).next
  split
  · exact m.respond _ _ _ _
  · exact m.respond _ _ _ _

theorem execCounters_goesOn (bay : Byte) (clear : Bool) : s.GoesOn (execCounters bay clear s) := by
  refine (State.Keeps.refl.forUnit _ _ fun m => ?_).next
  dsimp only
  split
  · exact ((m.respond _ _ _ _).counters _ (Counters.cleared_keepsFigures _)).counters _ (Counters.cleared_keepsFigures _)
  · exact m.respond _ _ _ _

theorem execReset_goesOn (bay : Byte) (force : Bool) : s.GoesOn (execReset bay force s) := by
  refine (State.Keeps.refl.forUnit _ _ fun m => ?_).next
  dsimp only
  split
  · exact m.respond _ _ _ _
  · rename_i allowed
    refine (m.respond _ _ _ _).link _ (Nat.le_refl _) fun _ unforced => ?_
    simpa [Option.some.inj unforced] using allowed

/-! ### Messages to a bay -/

theorem execStart_goesOn (bay : Byte) : s.GoesOn (execStart bay s) := by
  refine (State.Keeps.refl.forBay _ _ fun b m => ?_).next
  split
  iterate 2 exact ((m.record _ (by simp)).startSpinning _).respond _ _ _ _
  all_goals exact m.respond _ _ _ _

theorem execStop_goesOn (bay : Byte) : s.GoesOn (execStop bay s) := by
  refine (State.Keeps.refl.forBay _ _ fun b m => ?_).next
  split
  iterate 2 exact (m.record _ (by simp)).checkDrain.respond _ _ _ _
  all_goals exact m.respond _ _ _ _

theorem execLock_goesOn (bay : Byte) : s.GoesOn (execLock bay s) := by
  refine (State.Keeps.refl.forBay _ _ fun b m => ?_).next
  split
  · exact (m.record _ (by simp)).respond _ _ _ _
  · exact m.respond _ _ _ _

theorem execUnlock_goesOn (bay : Byte) : s.GoesOn (execUnlock bay s) := by
  refine (State.Keeps.refl.forBay _ _ fun b m => ?_).next
  split
  · exact (m.record _ (by simp)).respond _ _ _ _
  · exact m.respond _ _ _ _

theorem execOrder_goesOn (bay : Byte) : s.GoesOn (execOrder bay s) := by
  refine (State.Keeps.refl.forBay_receiving _ _ fun {u} b receives m => ?_).next
  split
  · exact m.respond _ _ _ _
  · split
    · rename_i q h
      exact (m.queue q (fun ok => by simpa [h] using ok.order b) (.inr receives)).respond _ _ _ _
    · exact m.respond _ _ _ _

theorem execWrite_goesOn (bay : Byte) (block : BitVec 16) (data : Sector) : s.GoesOn (execWrite bay block data s) := by
  refine (State.Keeps.refl.forBay_receiving _ _ fun {u} b receives m => ?_).next
  split
  · exact m.respond _ _ _ _
  · split
    · split
      · rename_i q n h
        exact (m.queue q (fun ok => by simpa [h] using ok.place b block.toNat data) (.inr receives)).respond _ _ _ _
      · rename_i q n h
        exact (m.queue q (fun ok => by simpa [h] using ok.place b block.toNat data) (.inr receives)).respond _ _ _ _
      · exact m.respond _ _ _ _
    · exact m.respond _ _ _ _

theorem execResult_goesOn (bay : Byte) : s.GoesOn (execResult bay s) := by
  refine (State.Keeps.refl.forBay _ _ fun b m => ?_).next
  dsimp only
  split
  · exact m.respond _ _ _ _
  · exact m.respond _ _ _ _
  · split
    · split
      · exact (m.respond _ _ _ _).freeSlot
      · exact (m.respond _ _ _ _).slot _
    · exact (m.respond _ _ _ _).freeSlot

theorem execAbort_goesOn (bay : Byte) : s.GoesOn (execAbort bay s) := by
  refine (State.Keeps.refl.forBay _ _ fun b m => ?_).next
  split
  · exact m.respond _ _ _ _
  · exact m.freeSlot.respond _ _ _ _
  · split
    · split
      · exact m.abortEject.respond _ _ _ _
      · exact m.respond _ _ _ _
    · exact ((m.queue _ (fun ok => ok.flushToOrder b) (.inl (Nat.le_of_eq (entryCount_flushToOrder ..)))).freeSlot).respond _ _ _ _
    · exact ((m.orphanOp _).freeSlot.checkDrain).respond _ _ _ _

theorem execMapProbe_goesOn (bay : Byte) (block : BitVec 16) : s.GoesOn (execMapProbe bay block s) := by
  refine (State.Keeps.refl.mapMessage _ _ _ _ _ fun b _ m => ?_).next
  split
  · exact m.mapReply _ _ _ _
  · exact m.mapReply _ _ _ _

theorem execMapRead_goesOn (bay index : Byte) : s.GoesOn (execMapRead bay index s) := by
  refine (State.Keeps.refl.mapMessage _ _ _ _ _ fun b _ m => ?_).next
  split
  · exact m.mapReply _ _ _ _
  · exact m.mapReply _ _ _ _

theorem execMapWrite_goesOn (bay index : Byte) (block : BitVec 16) (spare : Byte) :
    s.GoesOn (execMapWrite bay index block spare s) := by
  refine (State.Keeps.refl.mapMessage _ _ _ _ _ fun b figures m => ?_).next
  dsimp only
  split
  · exact m.respond _ _ _ _
  · split
    · exact m.respond _ _ _ _
    · have low := (mapFigures_none figures).1 _ rfl
      exact (m.writeEntry ⟨index.toNat, low⟩ figures ‹_› fun j h => (Option.some.inj h).symm).mapReply _ _ _ _

theorem execMapWriteAny_goesOn (bay : Byte) (block : BitVec 16) (spare : Byte) :
    s.GoesOn (execMapWriteAny bay block spare s) := by
  refine (State.Keeps.refl.mapMessage _ _ _ _ _ fun b figures m => ?_).next
  dsimp only
  split
  · exact m.respond _ _ _ _
  · split
    · exact m.respond _ _ _ _
    · rename_i alone
      split
      · obtain ⟨j, rfl, -⟩ := RemapTable.lowestInvalid_some ‹_›
        exact (m.writeEntry j figures alone fun j h => nomatch h).mapReply _ _ _ _
      · exact m.respond _ _ _ _

theorem execMapClear_goesOn (bay index : Byte) : s.GoesOn (execMapClear bay index s) := by
  refine (State.Keeps.refl.mapMessage _ _ _ _ _ fun b figures m => ?_).next
  dsimp only
  split
  · exact m.respond _ _ _ _
  · split
    · have low := (mapFigures_none figures).1 _ rfl
      exact (m.map _ fun ok => ok.clear ⟨index.toNat, low⟩).mapReply _ _ _ _
    · exact m.mapReply _ _ _ _

theorem execEject_goesOn (bay : Byte) : s.GoesOn (execEject bay s) := by
  refine (State.Keeps.refl.forBay _ _ fun b m => ?_).next
  split
  · exact m.respond _ _ _ _
  · exact (m.accept _ _ _).startEject _

theorem execRead_goesOn (bay : Byte) (block : BitVec 16) (count : Byte) : s.GoesOn (execRead bay block count s) := by
  refine (State.Keeps.refl.forBayCounted _ _ _ fun b m => ?_).next
  repeat' split
  · exact m.respond _ _ _ _
  · exact m.respond _ _ _ _
  · exact m.accept _ _ _
  · exact m.respond _ _ _ _

theorem execReadPhys_goesOn (bay : Byte) (cylinder : BitVec 16) (head sector count : Byte) :
    s.GoesOn (execReadPhys bay cylinder head sector count s) := by
  refine (State.Keeps.refl.forBayCounted _ _ _ fun b m => ?_).next
  dsimp only
  repeat' split
  · exact m.respond _ _ _ _
  · exact m.accept _ _ _
  · exact m.respond _ _ _ _

theorem execWritePhys_goesOn (bay : Byte) (cylinder : BitVec 16) (head sector : Byte) (data : Sector) :
    s.GoesOn (execWritePhys bay cylinder head sector data s) := by
  refine (State.Keeps.refl.forBay _ _ fun b m => ?_).next
  dsimp only
  repeat' split
  · exact m.respond _ _ _ _
  · exact (m.accept _ _ _).media _ (by simp)
  · exact m.respond _ _ _ _
  · exact m.respond _ _ _ _

theorem execFlush_goesOn (bay : Byte) : s.GoesOn (execFlush bay s) := by
  refine (State.Keeps.refl.forBay _ _ fun b m => ?_).next
  repeat' split
  · exact m.respond _ _ _ _
  · exact m.respond _ _ _ _
  · rename_i room
    have queue (u : State) (r : LongRequest) : (u.accept 0x34 bay b r).queue = u.queue := by
      simp [State.accept, State.occupySlot, State.respond]
    refine (m.accept _ _ _).markTest_of (fun ok => ok.flush b (by rwa [queue])) ?_
    simp [WriteQueue.entryCount]
  · exact m.respond _ _ _ _

theorem execSeek_goesOn (bay : Byte) (cylinder : BitVec 16) : s.GoesOn (execSeek bay cylinder s) := by
  refine (State.Keeps.refl.forBay _ _ fun b m => ?_).next
  repeat' split
  · exact m.respond _ _ _ _
  · exact m.accept _ _ _
  · exact m.respond _ _ _ _

theorem execMapSave_goesOn (bay : Byte) : s.GoesOn (execMapSave bay s) := by
  refine (State.Keeps.refl.forBay _ _ fun b m => ?_).next
  split
  · exact m.respond _ _ _ _
  · exact m.accept _ _ _

/-! ### The supply and the budget -/

theorem execSupplyGoodRises_goesOn : s.GoesOn (execSupplyGoodRises s) := by
  unfold execSupplyGoodRises
  split
  · rename_i low
    have before : s.budget.supply ≠ .good := by simp [low]
    have rises : s.Keeps { s with
        supplyGood := true, budget := { s.budget with supply := .holding, powerOnHold := false, holdTimer := some s.clock } } :=
      State.Keeps.refl.unit
        ⟨fun c => by cases c <;> rfl, rfl, rfl, fun ok => ok.withSupply before .holding false _, id, id, id, id⟩
    exact rises.next
  · exact s.goesOn_refl

theorem execHoldEnd_goesOn : s.GoesOn (execHoldEnd s) := by
  unfold execHoldEnd
  split
  · rename_i holding
    have before : s.budget.supply ≠ .good := by simp [holding]
    have ended (t : State) (same : t.budget = s.budget) (m : s.Keeps t) :
        s.Keeps { t with budget := { t.budget with supply := .good, powerOnHold := false, holdTimer := none } } :=
      m.withBudget _ fun ok => by rw [same] at ok ⊢; exact ok.withSupply before .good false none
    dsimp only
    have m : s.Keeps (s.clockTo ((s.budget.holdTimer.getD s.clock) + Config.holdTime)) := State.Keeps.refl.clock _
    split
    · exact ((ended (s.clockTo _) rfl m).leaveHalted.leaveHalted.putBudget _ fun ok => ok.examine).next
    · exact ((ended ((s.clockTo _).latchUnit _) rfl (m.latchUnit _)).leaveHalted.leaveHalted.putBudget _ fun ok => ok.examine).next
  · exact s.goesOn_refl

theorem execSupplyLoss_goesOn : s.GoesOn (execSupplyLoss s) := by
  unfold execSupplyLoss
  split
  · exact s.goesOn_refl
  · have lost : s.Keeps { s with supplyGood := false, budget := s.budget.lose } :=
      State.Keeps.refl.unit ⟨fun c => by cases c <;> rfl, rfl, rfl, fun ok => ok.lose, id, id, id, id⟩
    exact (((lost.signals _).latchUnit .supplyLoss).loseSupplyIn.loseSupplyIn).next

theorem execBudgetRequest_goesOn (k : RequestKind) : s.GoesOn (execBudgetRequest b k s) := by
  unfold execBudgetRequest
  split
  · split
    · exact ((State.Keeps.refl.dropSignal _).putBudget _ fun ok => ok.take _).next
    · exact s.goesOn_refl
  · exact s.goesOn_refl

theorem execClaimRelease_goesOn (c : Consumer) : s.GoesOn (execClaimRelease b c s) := by
  unfold execClaimRelease
  split
  · split
    · exact ((State.Keeps.refl.dropSignal _).putBudget _ fun ok => ok.free _ _).next
    · exact s.goesOn_refl
  · exact s.goesOn_refl

theorem execWithdrawal_goesOn (k : RequestKind) : s.GoesOn (execWithdrawal b k s) := by
  have dropped := (State.Keeps.refl (s := s)).dropSignal (Signal.toBudgetOf b)
  unfold execWithdrawal
  split
  · split
    · dsimp only
      split
      · exact (dropped.putBudget _ fun ok => ok.drop _ _).next
      · split
        · exact ((dropped.dropSignal _).putBudget _ fun ok => ok.free _ _).next
        · exact dropped.next
    · exact s.goesOn_refl
  · exact s.goesOn_refl

theorem execSpinUpGrant_goesOn : s.GoesOn (execSpinUpGrant b s) :=
  (State.Keeps.refl.takeGrant _ _ fun _ _ m => m.spindle _ (by simp [Spindle.enter])).next

theorem execRecoverGrant_goesOn : s.GoesOn (execRecoverGrant b s) :=
  (State.Keeps.refl.takeGrant _ _ fun _ _ m => m.spindle _ (by simp [Spindle.enter])).next

theorem execSeekGrant_goesOn : s.GoesOn (execSeekGrant b s) := by
  refine (State.Keeps.refl.takeGrant _ _ fun _ _ m => ?_).next
  split
  · exact m.startSeek _ _
  · exact m

theorem execLoadGrant_goesOn : s.GoesOn (execLoadGrant b s) :=
  (State.Keeps.refl.takeGrant _ _ fun _ _ m => (m.newMove.act _ (by simp)).pins _).next

theorem execRecalibrateGrant_goesOn : s.GoesOn (execRecalibrateGrant b s) :=
  (State.Keeps.refl.takeGrant _ _ fun _ _ m => (m.newMove.act _ (by simp)).selectHead _).next

theorem execSolenoidGrant_goesOn : s.GoesOn (execSolenoidGrant b s) := by
  refine (State.Keeps.refl.takeGrant _ _ fun _ _ m => ?_).next
  split
  · exact (m.release _).enterUnload
  · split
    · exact (m.release _).enterSpindown
    · exact m.record _ (by simp)

/-! ### The sensors -/

theorem execPresentSenseRise_goesOn : s.GoesOn (execPresentSenseRise b s) := by
  have risen := (State.Keeps.refl (s := s)).pins (b := b) fun p => { p with present := true }
  unfold execPresentSenseRise
  dsimp only
  split
  · exact risen.startDebounce.next
  · exact risen.next

theorem typeCodeOf_le (p q : Bool) : typeCodeOf p q ≤ 3 := by cases p <;> cases q <;> decide

theorem execInsertion_goesOn (p q : Bool) : s.GoesOn (execInsertion b p q s) := by
  have taken := (((State.Keeps.refl (s := s)).clock ((s.bay b).record.debounceAt + Config.debounceTime)).pins (b := b)
    fun x => { x with typeSense0 := p, typeSense1 := q }).inserted (b := b) (typeCodeOf_le p q)
  unfold execInsertion
  dsimp only
  repeat' split
  · exact ((taken.latch _).record _ (by simp)).enterRelease.next
  · exact ((taken.latch _).startSpinning _).next
  · exact ((taken.latch _).startSpinning _).next
  · exact ((taken.latch _).record _ (by simp)).next
  · exact s.goesOn_refl

theorem execPresentSenseFall_goesOn : s.GoesOn (execPresentSenseFall b s) := by
  have fallen := (State.Keeps.refl (s := s)).pins (b := b) fun p => { p with present := false }
  unfold execPresentSenseFall
  dsimp only
  repeat' split
  · exact (fallen.record _ (by simp)).next
  · exact fallen.removed.next
  · exact (fallen.faultReport _).next

theorem execEjectButtonPress_goesOn : s.GoesOn (execEjectButtonPress b s) := by
  unfold execEjectButtonPress
  dsimp only
  repeat' split
  · exact s.goesOn_refl
  · exact s.goesOn_refl
  · exact (State.Keeps.refl.latch _).next
  · exact (State.Keeps.refl.startEject _).next

theorem execSolenoidPulseEnd_goesOn (present : Bool) : s.GoesOn (execSolenoidPulseEnd b present s) := by
  have released := (((State.Keeps.refl (s := s)).clock ((s.bay b).record.pulseAt + Config.pulseTime)).release (b := b)
    .solenoid).pins (b := b) fun p => { p with present }
  unfold execSolenoidPulseEnd
  dsimp only
  repeat' split
  · exact (released.record _ (by simp)).next
  · exact (released.record _ (by simp)).removed.next
  · exact s.goesOn_refl

theorem execRemovalTimeout_goesOn : s.GoesOn (execRemovalTimeout b s) := by
  have due := (State.Keeps.refl (s := s)).clock ((s.bay b).record.removalAt + Config.removalTime)
  unfold execRemovalTimeout
  dsimp only
  repeat' split
  · exact due.removed.next
  · exact (due.faultReport _).next
  · exact (due.record _ (by simp)).enterRelease.next
  · exact s.goesOn_refl

/-! ### The spindle -/

theorem execMeasurementWindowStart_goesOn : s.GoesOn (execMeasurementWindowStart b s) :=
  ((State.Keeps.refl.clock _).spindle _ (by simp)).next

theorem execMeasurementComplete_goesOn (raw : RawOutcome) : s.GoesOn (execMeasurementComplete b raw s) := by
  unfold execMeasurementComplete
  dsimp only
  split
  · exact s.goesOn_refl
  · have recorded := State.Keeps.refl.recordReading (s := s) (b := b)
    split
    · exact (recorded _ _ _).next
    · split
      · exact ((recorded _ _ _).readInAccel _ _).next
      · exact ((recorded _ _ _).readInRun _ _).next
      · exact ((recorded _ _ _).readInRecover _).next
      · exact ((recorded _ _ _).readInStopping _).next
      all_goals exact (recorded _ _ _).next

theorem execAttemptTimeout_goesOn : s.GoesOn (execAttemptTimeout b s) := by
  unfold execAttemptTimeout
  dsimp only
  split
  · exact (State.Keeps.refl.clock _).endAttempt.next
  · exact s.goesOn_refl

theorem execRecoveryTimeout_goesOn : s.GoesOn (execRecoveryTimeout b s) := by
  have due := ((State.Keeps.refl (s := s)).clock (((s.bay b).spindle.timer.getD s.clock) + Config.attemptTime)).release (b := b)
    .spindle
  unfold execRecoveryTimeout
  dsimp only
  split
  · split
    · exact ((due.spindle _ (Spindle.brake_keepsFigures _)).faultReport _).next
    · exact (((due.spindle _ (by simp)).request _ _).faultReport _).next
  · exact s.goesOn_refl

/-! ### The actuator -/

theorem execSeekComplete_goesOn (sample : Nat) : s.GoesOn (execSeekComplete b sample s) := by
  unfold execSeekComplete
  split
  · split
    · have seeked := (State.Keeps.refl (s := s)).seekSucceeds (b := b)
      dsimp only
      split
      · exact (seeked _).mediaSeekDone.next
      · exact (seeked _).sweepEnded.mediaAskAgain.next
    · exact s.goesOn_refl
  · exact s.goesOn_refl

theorem execSeekTimeout_goesOn : s.GoesOn (execSeekTimeout b s) := by
  unfold execSeekTimeout
  split
  · exact (State.Keeps.refl.seekFails _ _).next
  · exact s.goesOn_refl

theorem execServoLoss_goesOn : s.GoesOn (execServoLoss b s) := by
  unfold execServoLoss
  split
  · exact (State.Keeps.refl.seekFails _ _).next
  · exact s.goesOn_refl

theorem execTrackLoss_goesOn : s.GoesOn (execTrackLoss b s) := by
  unfold execTrackLoss
  split
  · exact State.Keeps.refl.holdSeek.askRecal.mediaTrackLost.next
  · exact s.goesOn_refl

theorem execLoadGuardFound_goesOn : s.GoesOn (execLoadGuardFound b s) := by
  unfold execLoadGuardFound
  split
  · exact ((State.Keeps.refl.act _ (by simp)).selectHead _).next
  · exact s.goesOn_refl

theorem execLoadTimeout_goesOn : s.GoesOn (execLoadTimeout b s) := by
  unfold execLoadTimeout
  split
  · exact (State.Keeps.refl.release _).startUnload.next
  · exact s.goesOn_refl

theorem execRecalibrationComplete_goesOn : s.GoesOn (execRecalibrationComplete b s) := by
  unfold execRecalibrationComplete
  dsimp only
  split
  · exact ((State.Keeps.refl.release _).act _ (by simp)).trackingReport.retrySeek.mediaTracking.next
  · exact s.goesOn_refl

theorem execRecalibrationFailed_goesOn : s.GoesOn (execRecalibrationFailed b s) := by
  unfold execRecalibrationFailed
  dsimp only
  split
  · exact ((State.Keeps.refl.release _).act _ (by simp)).positionLost.next
  · exact s.goesOn_refl

theorem execUnloadComplete_goesOn : s.GoesOn (execUnloadComplete b s) := by
  unfold execUnloadComplete
  dsimp only
  split
  · exact ((State.Keeps.refl.dropSignal _).pins _).unloadEnded.next
  · exact ((State.Keeps.refl.dropSignal _).pins _).next

theorem execUnloadFailed_goesOn : s.GoesOn (execUnloadFailed b s) := by
  unfold execUnloadFailed
  dsimp only
  split
  · exact (((State.Keeps.refl.clock _).act _ (by simp)).faultReport _).answerSpindle.next
  · exact s.goesOn_refl

theorem execEvaluation_goesOn : s.GoesOn (execEvaluation s) := by
  have due : s.Keeps { s.clockTo s.nextEval with nextEval := s.nextEval + Config.evaluationPeriod } :=
    State.Keeps.refl.unit ⟨fun c => by cases c <;> rfl, rfl, rfl, id, id, id, id, id⟩
  exact due.evaluateBay.evaluateBay.next

/-! ### The Media Engine and the Write Queue -/

theorem execReadPassEnd_goesOn (r : PassResult) : s.GoesOn (execReadPassEnd b r s) := by
  unfold execReadPassEnd
  repeat' split
  · exact (State.Keeps.refl.readGood _ _).next
  · exact (State.Keeps.refl.passFails _).next
  · exact s.goesOn_refl
  · exact s.goesOn_refl

theorem execSectorIdTimeout_goesOn : s.GoesOn (execSectorIdTimeout b s) := by
  unfold execSectorIdTimeout
  repeat' split
  · exact (State.Keeps.refl.passFails _).next
  · exact (State.Keeps.refl.writeBad _).next
  · exact s.goesOn_refl
  · exact s.goesOn_refl

theorem execWriteAttemptDone_goesOn : s.GoesOn (execWriteAttemptDone b s) := by
  unfold execWriteAttemptDone
  repeat' split
  · exact (State.Keeps.refl.writeGood _).next
  · exact s.goesOn_refl
  · exact s.goesOn_refl

theorem execWriteFault_goesOn : s.GoesOn (execWriteFault b s) := by
  unfold execWriteFault
  repeat' split
  · exact (State.Keeps.refl.writeBad _).next
  · exact s.goesOn_refl
  · exact s.goesOn_refl

theorem execEntryPerformed_goesOn : s.GoesOn (execEntryPerformed b s) := by
  have dropped := (State.Keeps.refl (s := s)).dropSignal (Signal.isOutcome b)
  unfold execEntryPerformed
  split
  · dsimp only
    split
    · exact (dropped.removeEntry ‹_›).checkDrain.next
    · exact dropped.next
  · exact s.goesOn_refl

theorem execEntryFailed_goesOn : s.GoesOn (execEntryFailed b s) := by
  have dropped := (State.Keeps.refl (s := s)).dropSignal (Signal.isOutcome b)
  unfold execEntryFailed
  split
  · dsimp only
    split
    · rename_i e h
      obtain ⟨-, -, arrival, -⟩ := WriteQueue.outcomeEntry_some h
      exact (dropped.entryFails (arrival.symm ▸ h)).checkDrain.next
    · exact dropped.next
  · exact s.goesOn_refl

theorem execEntryAbandoned_goesOn : s.GoesOn (execEntryAbandoned b s) := by
  have dropped := (State.Keeps.refl (s := s)).dropSignal (Signal.isOutcome b)
  unfold execEntryAbandoned
  split
  · dsimp only
    split
    · rename_i e h
      split
      · exact (dropped.removeEntry h).checkDrain.next
      · rename_i alone
        obtain ⟨here, -, -, -⟩ := WriteQueue.outcomeEntry_some h
        exact (dropped.requeue h (fun ok => (ok.fields e here).2.1) (by simpa using alone)).next
    · exact dropped.next
  · exact s.goesOn_refl

end Sys2Proof.Machine
end

section
/-! PROOFS. The rules that every step keeps and that hold at power-on (O1 to O4, O56, O57, O58, O60). -/

namespace Sys2Proof.Machine

theorem execMediaChoice_goesOn (s : State) (b : BayId) : s.GoesOn (execMediaChoice b s) := State.Keeps.refl.choose.next

/-- Every command but POWER_ON goes on, by changes that keep the rules. -/
theorem exec_goesOn (c : Instr) (s : State) (running : ∀ p, c ≠ .powerOn p) : s.GoesOn (exec c s) := by
  cases c with
  | powerOn p => exact absurd rfl (running p)
  | softReset => exact execSoftReset_goesOn s
  | frameDiscard chars => exact execFrameDiscard_goesOn s chars
  | characterGapTimeout => exact execCharacterGapTimeout_goesOn s
  | unknownMessage code bay body => exact execUnknownMessage_goesOn s code bay body
  | identify bay clear => exact execIdentify_goesOn s bay clear
  | report bay peek => exact execReport_goesOn s bay peek
  | faults bay => exact execFaults_goesOn s bay
  | set bay item itemBay value => exact execSet_goesOn s bay item itemBay value
  | get bay item itemBay => exact execGet_goesOn s bay item itemBay
  | counters bay clear => exact execCounters_goesOn s bay clear
  | reset bay force => exact execReset_goesOn s bay force
  | start bay => exact execStart_goesOn s bay
  | stop bay => exact execStop_goesOn s bay
  | lock bay => exact execLock_goesOn s bay
  | unlock bay => exact execUnlock_goesOn s bay
  | order bay => exact execOrder_goesOn s bay
  | write bay block data => exact execWrite_goesOn s bay block data
  | result bay => exact execResult_goesOn s bay
  | abort bay => exact execAbort_goesOn s bay
  | mapProbe bay block => exact execMapProbe_goesOn s bay block
  | mapRead bay index => exact execMapRead_goesOn s bay index
  | mapWrite bay index block spare => exact execMapWrite_goesOn s bay index block spare
  | mapWriteAny bay block spare => exact execMapWriteAny_goesOn s bay block spare
  | mapClear bay index => exact execMapClear_goesOn s bay index
  | eject bay => exact execEject_goesOn s bay
  | read bay block count => exact execRead_goesOn s bay block count
  | readPhys bay cylinder head sector count => exact execReadPhys_goesOn s bay cylinder head sector count
  | writePhys bay cylinder head sector data => exact execWritePhys_goesOn s bay cylinder head sector data
  | flush bay => exact execFlush_goesOn s bay
  | seek bay cylinder => exact execSeek_goesOn s bay cylinder
  | mapSave bay => exact execMapSave_goesOn s bay
  | supplyGoodRises => exact execSupplyGoodRises_goesOn s
  | holdEnd => exact execHoldEnd_goesOn s
  | supplyLoss => exact execSupplyLoss_goesOn s
  | presentSenseRise bay => exact execPresentSenseRise_goesOn s bay
  | insertion bay typeSense0 typeSense1 => exact execInsertion_goesOn s bay typeSense0 typeSense1
  | presentSenseFall bay => exact execPresentSenseFall_goesOn s bay
  | ejectButtonPress bay => exact execEjectButtonPress_goesOn s bay
  | solenoidPulseEnd bay present => exact execSolenoidPulseEnd_goesOn s bay present
  | removalTimeout bay => exact execRemovalTimeout_goesOn s bay
  | measurementWindowStart bay => exact execMeasurementWindowStart_goesOn s bay
  | measurementComplete bay raw => exact execMeasurementComplete_goesOn s bay raw
  | attemptTimeout bay => exact execAttemptTimeout_goesOn s bay
  | recoveryTimeout bay => exact execRecoveryTimeout_goesOn s bay
  | budgetRequest bay kind => exact execBudgetRequest_goesOn s bay kind
  | claimRelease bay consumer => exact execClaimRelease_goesOn s bay consumer
  | withdrawal bay kind => exact execWithdrawal_goesOn s bay kind
  | spinUpGrant bay => exact execSpinUpGrant_goesOn s bay
  | recoverGrant bay => exact execRecoverGrant_goesOn s bay
  | seekGrant bay => exact execSeekGrant_goesOn s bay
  | loadGrant bay => exact execLoadGrant_goesOn s bay
  | recalibrateGrant bay => exact execRecalibrateGrant_goesOn s bay
  | solenoidGrant bay => exact execSolenoidGrant_goesOn s bay
  | seekComplete bay sample => exact execSeekComplete_goesOn s bay sample
  | seekTimeout bay => exact execSeekTimeout_goesOn s bay
  | servoLoss bay => exact execServoLoss_goesOn s bay
  | trackLoss bay => exact execTrackLoss_goesOn s bay
  | loadGuardFound bay => exact execLoadGuardFound_goesOn s bay
  | loadTimeout bay => exact execLoadTimeout_goesOn s bay
  | recalibrationComplete bay => exact execRecalibrationComplete_goesOn s bay
  | recalibrationFailed bay => exact execRecalibrationFailed_goesOn s bay
  | unloadComplete bay => exact execUnloadComplete_goesOn s bay
  | unloadFailed bay => exact execUnloadFailed_goesOn s bay
  | evaluation => exact execEvaluation_goesOn s
  | mediaChoice bay => exact execMediaChoice_goesOn s bay
  | readPassEnd bay result => exact execReadPassEnd_goesOn s bay result
  | sectorIdTimeout bay => exact execSectorIdTimeout_goesOn s bay
  | writeAttemptDone bay => exact execWriteAttemptDone_goesOn s bay
  | writeFault bay => exact execWriteFault_goesOn s bay
  | entryPerformed bay => exact execEntryPerformed_goesOn s bay
  | entryFailed bay => exact execEntryFailed_goesOn s bay
  | entryAbandoned bay => exact execEntryAbandoned_goesOn s bay
  | addressCharacter low => exact execAddressCharacter_goesOn s low

/-! ### Power-on (R179) -/

theorem drawSum_nil : drawSum [] = 0 := rfl

theorem Budget.Ok.noClaims {u : Budget} (claims : u.claims = []) (waitList : u.waitList = []) (pending : u.pending = none)
    (capacity : Config.minCapacity ≤ u.effective ∧ u.effective ≤ Config.maxCapacity) : u.Ok :=
  ⟨capacity, by simp [pending], by simp [claims, drawSum_nil], by simp [claims], by simp [waitList], by simp [waitList],
    fun _ => claims⟩

theorem powerOn_budget_ok (p : PinLevels) : (powerOnState p).budget.Ok := by
  unfold powerOnState
  dsimp only
  split <;> exact .noClaims rfl rfl rfl (by decide)

theorem emptyQueue_ok : ({} : WriteQueue).Ok :=
  ⟨by decide, by decide, by decide, by simp [entriesOf], by decide, ⟨by decide, by simp [entriesOf], by decide, by decide⟩,
    ⟨by decide, by simp [entriesOf], by decide, by decide⟩⟩

theorem defaultSettings_ok : ({} : Settings).Ok :=
  ⟨by decide, by decide, by decide, by decide, by decide, by decide, by decide, by decide⟩

theorem defaultBay_ranges : ({} : Bay).RangesOk :=
  ⟨by decide, by decide, by decide, by decide, by decide, by decide, by decide, by decide, by decide, by decide, by decide, by decide,
    fun n => by cases n <;> decide, fun n => by cases n <;> decide⟩

/-- A bay at power-on has its figures at their power-on values, whatever its pins and its debounce. -/
theorem freshBay_ranges (p : BayPins) (debouncing : Bool) : ({ pins := p, record := { debouncing } } : Bay).RangesOk :=
  { defaultBay_ranges with }

theorem freshBay_mechanics (p : BayPins) (debouncing : Bool) :
    ({ pins := p, record := { debouncing } } : Bay).MechanicsOk true :=
  ⟨nofun, nofun, nofun, fun _ => rfl, nofun, fun _ => rfl, nofun, nofun, nofun, nofun, nofun, nofun⟩

/-- The rules hold of two bays just powered on, with nothing granted, queued or listed. -/
theorem rules_at_powerOn {t : State} {p q : BayPins} {c d : Bool} (bayA : t.bayA = { pins := p, record := { debouncing := c } })
    (bayB : t.bayB = { pins := q, record := { debouncing := d } }) (budget : t.budget.Ok) (queue : t.queue = {})
    (settings : t.settings = {}) (faults : t.faults = {}) (errors : t.link.errors = 0) (reset : t.link.resetPending = none) :
    t.budget.Ok ∧ t.queue.Ok ∧ t.RangesOk ∧ t.MechanicsOk := by
  have drained (b : BayId) : ({} : WriteQueue).drained b = true := by cases b <;> decide
  refine ⟨budget, queue ▸ emptyQueue_ok, ?_, ?_⟩
  · exact ⟨settings ▸ defaultSettings_ok, bayA ▸ freshBay_ranges p c, bayB ▸ freshBay_ranges q d, by simp [faults],
      by simp [faults], by simp [errors], by rw [bayA]; exact RemapTable.ok_empty _, by rw [bayB]; exact RemapTable.ok_empty _⟩
  · refine ⟨?_, ?_, by simp [reset], queue ▸ emptyQueue_ok⟩
    · rw [bayA, queue, drained]; exact freshBay_mechanics p c
    · rw [bayB, queue, drained]; exact freshBay_mechanics q d

/-- Settles O60: every figure of the machine after reset and after power-on is at its power-on value. -/
theorem rulesHoldAtPowerOn : Obligations.RulesHoldAtPowerOn := by
  unfold Obligations.RulesHoldAtPowerOn
  refine ⟨rules_at_powerOn (t := State.reset) rfl rfl (.noClaims rfl rfl rfl (by decide)) rfl rfl rfl rfl rfl, fun p s t h => ?_⟩
  rw [exec_powerOn, execPowerOn, Host.Outcome.next.injEq] at h
  subst h
  exact rules_at_powerOn rfl rfl (powerOn_budget_ok p) rfl rfl rfl rfl rfl

/-! ### What every step keeps -/

/-- A property that the changes keep, that does not look at the waiting commands, and that holds at power-on, is kept by every
step. -/
theorem step_keeps {P : State → Prop} (keeps : ∀ {s t : State}, s.Keeps t → P s → P t)
    (waiting : ∀ (s : State) cs, P s → P (s.withPending cs)) (ticks : ∀ s : State, P s → P s.tick)
    (powerOn : ∀ p s t, exec (.powerOn p) s = .next t → P t) {s t : State} (ok : P s) (h : step s = .next t) : P t := by
  have run (c : Instr) {u : State} (hu : P u) (h : exec c u = .next t) : P t := by
    by_cases on : ∃ p, c = .powerOn p
    · obtain ⟨p, rfl⟩ := on
      exact powerOn p u t h
    · obtain ⟨v, hv, m⟩ := exec_goesOn c u fun p same => on ⟨p, same⟩
      rw [hv, Host.Outcome.next.injEq] at h
      exact h ▸ keeps m hu
  unfold step at h
  split at h
  · exact run _ (waiting s _ ok) h
  · unfold idle at h
    split at h
    · exact run _ ok h
    · rw [Host.Outcome.next.injEq] at h
      exact h ▸ ticks s ok

/-- Settles O56: every operation of the budget keeps its rules (`Budget.Ok.take`, `.free`, `.drop`, `.setCapacity`, …). -/
theorem budgetRulesAreKept : Obligations.BudgetRulesAreKept := by
  unfold Obligations.BudgetRulesAreKept
  exact fun s t ok h => step_keeps (P := fun u => u.budget.Ok) State.Keeps.budget_ok (fun _ _ => id) (fun _ => id)
    (fun p s t h => (rulesHoldAtPowerOn.2 p s t h).1) ok h

/-- Settles O57: every change of the list keeps its rules (`WriteQueue.Ok.place`, `.order`, `.take`, `.remove`, `.requeue`, …). -/
theorem queueRulesAreKept : Obligations.QueueRulesAreKept := by
  unfold Obligations.QueueRulesAreKept
  exact fun s t ok h => step_keeps (P := fun u => u.queue.Ok) State.Keeps.queue_ok (fun _ _ => id) (fun _ => id)
    (fun p s t h => (rulesHoldAtPowerOn.2 p s t h).2.1) ok h

/-- Settles O58: every change of a record keeps its figures in range, and every edit and fill of a table its rules. -/
theorem rangesAreKept : Obligations.RangesAreKept := by
  unfold Obligations.RangesAreKept
  exact fun s t ok h => step_keeps (P := State.RangesOk) State.Keeps.ranges_ok (fun _ _ ok => { ok with })
    (fun _ ok => { ok with }) (fun p s t h => (rulesHoldAtPowerOn.2 p s t h).2.2.1) ok h

/-! ### The front command, the empty queue, and the waiting commands -/

/-- Settles O1. -/
theorem stepTakesTheFrontCommand : Obligations.StepTakesTheFrontCommand := by
  unfold Obligations.StepTakesTheFrontCommand
  exact fun c rest s => rfl

/-- Settles O2: each case of an empty queue decides the command of its own. -/
theorem emptyQueueGoesOn : Obligations.EmptyQueueGoesOn := by
  unfold Obligations.EmptyQueueGoesOn
  intro s empty
  have idles : step s = idle s := by rw [step, empty]
  refine ⟨fun x rest signals => ?_, fun none a => ?_, fun none a b => ?_, fun none a b => ?_⟩
  · rw [idles, idle, State.ownCommand, signals]
  · simp [idles, idle, State.ownCommand, none, a]
  · simp [idles, idle, State.ownCommand, none, a, b]
  · simp [idles, idle, State.ownCommand, none, a, b, State.tick]

/-- Settles O3: POWER_ON answers with the waiting commands kept, and every other command goes on by changes that keep them. -/
theorem commandsLeaveTheQueue : Obligations.CommandsLeaveTheQueue := by
  unfold Obligations.CommandsLeaveTheQueue
  intro c s
  by_cases on : ∃ p, c = .powerOn p
  · obtain ⟨p, rfl⟩ := on
    exact ⟨_, exec_powerOn p s, rfl⟩
  · obtain ⟨t, h, m⟩ := exec_goesOn c s fun p same => on ⟨p, same⟩
    exact ⟨t, h, m.pending⟩

/-- Settles O4: the figures that do not follow a pin are those of `State.reset`. -/
theorem powerOnGivesPowerOnValues : Obligations.PowerOnGivesPowerOnValues := by
  unfold Obligations.PowerOnGivesPowerOnValues
  intro p s
  obtain ⟨address, rate, supply, presentA, presentB, stopA, stopB⟩ := p
  rw [exec_powerOn]
  cases supply <;> cases stopA <;> cases stopB <;> rfl

end Sys2Proof.Machine
end

section
/-!
SUPPORT. The mechanics of a bay in one record: what its rules look at. `State.mech` reads it off a state, and one lemma for each
operation says what it does to it; most do nothing.
-/

namespace Sys2Proof.Machine

/-- What the rules of a bay's mechanics look at: its record, its spindle, its actuator, the operation in flight, and whether the Write
Queue holds none of its items. -/
structure Mechanism where
  record  : BayRecord
  spindle : Spindle
  act     : Actuator
  op      : Option MediaOp
  drained : Bool

def State.mech (s : State) (b : BayId) : Mechanism :=
  { record := (s.bay b).record, spindle := (s.bay b).spindle, act := (s.bay b).act, op := (s.bay b).media.op,
    drained := s.queue.drained b }

namespace Mechanism

/-- The rules of heads, spindle and solenoid, apart from the operation in flight. -/
structure HeadsOk (m : Mechanism) : Prop where
  headsOnRun   : m.act.state.loaded = true → m.spindle.state = .run
  headsAllowed : m.act.state.loaded = true → m.record.allowsHeads = true
  loadWanted   : m.act.loadAttempt.isSome = true → m.record.wantsHeads = true ∧ m.spindle.state = .run
  atRest       : m.record.discAtRest = true → m.spindle.state = .off
  spinPending  : m.spindle.pendingSpinUp = true →
    m.spindle.state = .stopping ∧ (m.record.state = .spinning ∨ m.record.state = .cleaning ∨
      (m.record.state = .fault ∧ m.record.cause = .unloadFault))
  queueEmpty   : m.record.mayHoldWrites = false → m.drained = true
  saveDrained  : m.record.state = .ejecting → m.record.phase = .drain →
    (m.record.eject.any fun e => e.saveMarker) = true → m.drained = true
  seekLoaded   : m.act.seek.isSome = true → m.act.state.loaded = true
  solenoid     : m.record.pulsing = true →
    m.record.state = .ejecting ∧ m.record.phase = .release ∧ m.act.state = .unloaded ∧ m.spindle.state = .off ∧
      m.drained = true

/-- The owner that a seek of a requester has to have (R75). -/
def Owns (m : Mechanism) : Requester → Prop
  | .media => (m.op.any fun o => o.stage = .seeking) = true
  | .sweep => m.record.state = .cleaning

/-- The rules of the operation in flight and the seek in hand. -/
structure EngineOk (m : Mechanism) : Prop where
  opWorks      : m.op.isSome = true → m.record.mediaWorks = true
  seekOwner    : ∀ q ∈ m.act.seek, m.Owns q.requester
  sectorTracks : (m.op.any fun o => o.stage = .atSector) = true → m.act.state = .tracking

/-- The rules of a bay's mechanics. -/
structure Ok (m : Mechanism) : Prop where
  heads  : m.HeadsOk
  engine : m.EngineOk

/-- A bay with nothing under way: its heads off the medium, no load, seek or operation, no item in the queue, no pulse. -/
structure AtEase (m : Mechanism) : Prop where
  heads   : m.act.state.loaded = false
  load    : m.act.loadAttempt = none
  seek    : m.act.seek = none
  op      : m.op = none
  drained : m.drained = true
  pulse   : m.record.pulsing = false

/-- A spin-up is pending only where the rules allow it. -/
def PendOk (m : Mechanism) : Prop := m.spindle.pendingSpinUp = true →
  m.spindle.state = .stopping ∧ (m.record.state = .spinning ∨ m.record.state = .cleaning ∨
    (m.record.state = .fault ∧ m.record.cause = .unloadFault))

/-- A bay whose disc is at rest has its spindle OFF. -/
def RestOk (m : Mechanism) : Prop := m.record.discAtRest = true → m.spindle.state = .off

/-- With nothing under way the rules are those of the spindle. -/
theorem AtEase.ok {m : Mechanism} (ease : m.AtEase) (rest : m.RestOk) (pend : m.PendOk) : m.Ok := by
  obtain ⟨heads, load, seek, op, drained, pulse⟩ := ease
  refine ⟨⟨?_, ?_, ?_, rest, pend, fun _ => drained, fun _ _ _ => drained, ?_, ?_⟩, ⟨?_, ?_, ?_⟩⟩
  · simp [heads]
  · simp [heads]
  · simp [load]
  · simp [seek]
  · simp [pulse]
  · simp [op]
  · simp [seek]
  · simp [op]

/-- The rules hold all the more of a bay whose items have left the queue. -/
theorem Ok.emptied {m : Mechanism} (ok : m.Ok) (d : Bool) (kept : m.drained = true → d = true) :
    ({ m with drained := d } : Mechanism).Ok := by
  obtain ⟨⟨run, allowed, load, rest, pend, queue, save, seek, solenoid⟩, engine⟩ := ok
  exact ⟨⟨run, allowed, load, rest, pend, fun h => kept (queue h), fun h p e => kept (save h p e), seek, fun h => by
    obtain ⟨state, phase, act, spindle, drained⟩ := solenoid h
    exact ⟨state, phase, act, spindle, kept drained⟩⟩, ⟨engine.opWorks, engine.seekOwner, engine.sectorTracks⟩⟩

/-- In READY the queue may hold whatever it does. -/
theorem Ok.ready {m : Mechanism} (ok : m.Ok) (ready : m.record.state = .ready) (d : Bool) :
    ({ m with drained := d } : Mechanism).Ok := by
  obtain ⟨⟨run, allowed, load, rest, pend, queue, save, seek, solenoid⟩, engine⟩ := ok
  refine ⟨⟨run, allowed, load, rest, pend, ?_, ?_, seek, ?_⟩, ⟨engine.opWorks, engine.seekOwner, engine.sectorTracks⟩⟩
  · simp [BayRecord.mayHoldWrites, ready]
  · simp [ready]
  · intro h
    obtain ⟨state, -⟩ := solenoid h
    exact absurd (ready.symm.trans state) nofun

end Mechanism

/-- The rules of a bay's mechanics are those of what `State.mech` reads. -/
theorem State.mech_ok (s : State) (b : BayId) : (s.mech b).Ok ↔ (s.bay b).MechanicsOk (s.queue.drained b) := by
  have owns (q : SeekInHand) : (s.mech b).Owns q.requester ↔ match q.requester with
      | .media => ((s.bay b).media.op.any fun o => o.stage = .seeking) = true
      | .sweep => (s.bay b).record.state = .cleaning := by
    cases q.requester <;> rfl
  constructor
  · rintro ⟨⟨run, allowed, load, rest, pend, queue, save, seek, solenoid⟩, ⟨works, owner, tracks⟩⟩
    exact ⟨run, allowed, load, rest, pend, queue, save, works, seek, fun q hq => (owns q).1 (owner q hq), tracks, solenoid⟩
  · rintro ⟨run, allowed, load, rest, pend, queue, save, works, seek, owner, tracks, solenoid⟩
    exact ⟨⟨run, allowed, load, rest, pend, queue, save, seek, solenoid⟩, ⟨works, fun q hq => (owns q).2 (owner q hq), tracks⟩⟩

/-! ### What the operations do to it -/

namespace State

variable (s : State) (b c : BayId)

theorem mech_congr {t : State} {b : BayId} (bay : t.bay b = s.bay b) (queue : t.queue = s.queue) : t.mech b = s.mech b := by
  simp [mech, bay, queue]

theorem record_eq_mech : (s.bay b).record = (s.mech b).record := rfl
theorem spindle_eq_mech : (s.bay b).spindle = (s.mech b).spindle := rfl
theorem act_eq_mech : (s.bay b).act = (s.mech b).act := rfl
theorem op_eq_mech : (s.bay b).media.op = (s.mech b).op := rfl

/-- What stays within one bay leaves the other's mechanics. -/
theorem mech_other {s t : State} {b : BayId} (within : State.Within b s t) : t.mech b.other = s.mech b.other := by
  have drained : t.queue.drained b.other = s.queue.drained b.other := by rw [WriteQueue.drained, WriteQueue.drained, within.items]
  simp [mech, within.other, drained]

@[simp] theorem mech_modRecord (f : BayRecord → BayRecord) :
    (s.modRecord b f).mech b = { s.mech b with record := f (s.mech b).record } := by simp [mech]
@[simp] theorem mech_modSpindle (f : Spindle → Spindle) :
    (s.modSpindle b f).mech b = { s.mech b with spindle := f (s.mech b).spindle } := by simp [mech]
@[simp] theorem mech_modAct (f : Actuator → Actuator) :
    (s.modAct b f).mech b = { s.mech b with act := f (s.mech b).act } := by simp [mech]
@[simp] theorem mech_modMedia (f : Media → Media) :
    (s.modMedia b f).mech b = { s.mech b with op := (f (s.bay b).media).op } := by simp [mech]
/-- A change of the Media Engine's record that leaves the operation in flight. -/
theorem mech_media {f : Media → Media} (same : (f (s.bay b).media).op = (s.bay b).media.op) : (s.modMedia b f).mech b = s.mech b := by
  rw [mech_modMedia, same]
  rfl
@[simp] theorem mech_modPins (f : BayPins → BayPins) : (s.modPins b f).mech b = s.mech b := by simp [mech]
@[simp] theorem mech_modHeat (f : Heat → Heat) : (s.modHeat b f).mech b = s.mech b := by simp [mech]
@[simp] theorem mech_modMap (f : RemapTable → RemapTable) : (s.modMap b f).mech b = s.mech b := by simp [mech]
@[simp] theorem mech_modSlot (f : Slot → Slot) : (s.modSlot b f).mech b = s.mech b := by simp [mech]
@[simp] theorem mech_modLatches (f : Latches → Latches) : (s.modLatches b f).mech b = s.mech b := by simp [mech]
@[simp] theorem mech_modCounters (f : Counters → Counters) : (s.modCounters b f).mech b = s.mech b := by simp [mech]
@[simp] theorem mech_latch (e : BayEvent) : (s.latch b e).mech b = s.mech b := by simp [latch]
@[simp] theorem mech_selectHead (n : Nat) : (s.selectHead b n).mech b = s.mech b := by simp [selectHead]
@[simp] theorem mech_occupySlot (r : LongRequest) : (s.occupySlot b r).mech b = s.mech b := by
  simp only [occupySlot, mech_modMedia, mech_modSlot, modSlot_bay]; rfl
@[simp] theorem mech_freeSlot : (s.freeSlot b).mech b = s.mech b := by
  simp only [freeSlot, mech_modMedia, mech_modSlot, modSlot_bay]; rfl

@[simp] theorem mech_raise (n : CounterName) (k : Nat) : (s.raise b n k).mech b = s.mech b := by
  rcases s.raise_cases b n k with h | h <;> rw [h] <;> simp [latchCounter]

@[simp] theorem mech_completeSlot (r : ResultStatus) : (s.completeSlot b r).mech b = s.mech b := by
  rcases s.completeSlot_cases b r with h | h <;> rw [h]
  simp

@[simp] theorem mech_endSlot (r : ResultStatus) : (s.endSlot b r).mech b = s.mech b := by
  rcases s.endSlot_cases b r with h | h <;> rw [h]
  simp

@[simp] theorem mech_send (x : Signal) : (s.send x).mech c = s.mech c := by simp [mech]
@[simp] theorem mech_request (k : RequestKind) (l : Nat) : (s.request b k l).mech c = s.mech c := by simp [mech]
@[simp] theorem mech_release (o : Consumer) : (s.release b o).mech c = s.mech c := by simp [mech]
@[simp] theorem mech_withdraw (k : RequestKind) : (s.withdraw b k).mech c = s.mech c := by simp [mech]
@[simp] theorem mech_dropSignal (p : Signal → Bool) : (s.dropSignal p).mech c = s.mech c := by simp [mech]
@[simp] theorem mech_putBudget (r : Budget × List Signal) : (s.putBudget r).mech c = s.mech c := by simp [mech]
@[simp] theorem mech_endBudgetSignals : s.endBudgetSignals.mech c = s.mech c := by simp [mech]
@[simp] theorem mech_latchUnit (e : UnitEvent) : (s.latchUnit e).mech c = s.mech c := by simp [mech]
@[simp] theorem mech_clockTo (n : Nat) : (s.clockTo n).mech c = s.mech c := by simp [mech]
@[simp] theorem mech_setAssembly (a : Assembly) : (s.setAssembly a).mech c = s.mech c := by simp [mech]
@[simp] theorem mech_respond (code field : Byte) (r : ReplyStatus) (body : List Byte) :
    (s.respond code field r body).mech c = s.mech c := by simp [mech]
@[simp] theorem mech_signals (l : List Signal) : ({ s with signals := l } : State).mech c = s.mech c := by cases c <;> rfl
@[simp] theorem mech_freeIndex (n : Nat) : ({ s with freeIndex := n } : State).mech c = s.mech c := by cases c <;> rfl
@[simp] theorem mech_budget (u : Budget) : ({ s with budget := u } : State).mech c = s.mech c := by cases c <;> rfl

@[simp] theorem mech_releaseUnwanted (k : RequestKind) : (s.releaseUnwanted b k).mech c = s.mech c := by
  unfold releaseUnwanted
  split
  · exact s.mech_signals c _
  · exact s.mech_release b c _

@[simp] theorem mech_releaseSeek : (s.releaseSeek b).mech c = s.mech c := by simp [mech]
@[simp] theorem mech_withdrawSeek : (s.withdrawSeek b).mech c = s.mech c := by simp [mech]

@[simp] theorem mech_appendFault (r : FaultRecord) : (s.appendFault r).mech c = s.mech c := by
  unfold appendFault
  split
  · dsimp only
    split <;> cases c <;> rfl
  · cases c <;> rfl

/-- A discard leaves no item of its bay (R137). -/
@[simp] theorem mech_discard : (s.discard b).mech b = { s.mech b with drained := true } := by
  have drained : (s.discard b).queue.drained b = true := by
    rw [discard_queue, WriteQueue.drained_iff]
    intro i h
    simpa using (List.mem_filter.1 h).2
  have same : (s.discard b).mech b = { s.mech b with drained := (s.discard b).queue.drained b } := by
    unfold discard
    dsimp only
    split
    · cases b <;> rfl
    · rw [mech_latch, mech_appendFault, mech_raise]
      cases b <;> simp [mech]
  rw [same, drained]

end State

end Sys2Proof.Machine
end

section
/-! SUPPORT. The operations of the Bay Controller, the spindle and the actuator keep the rules of the mechanics (O59). -/

namespace Sys2Proof.Machine

namespace State

variable {s : State} {b : BayId}

/-! ### Stops -/

/-- The stop request: the spindle is OFF or STOPPING, with no spin-up pending, and nothing else has changed. It is confirmed at once
only at rest (R56). -/
theorem mech_askStop (pend : (s.mech b).spindle.pendingSpinUp = true → (s.mech b).spindle.state = .stopping) :
    ∃ x, (s.askStop b).1.mech b = { s.mech b with spindle := x } ∧ x.pendingSpinUp = false ∧
      ((s.mech b).spindle.state = .off ∨ (s.mech b).spindle.state = .waiting → x.state = .off) ∧
      ((s.askStop b).2 = true → x.state = .off) := by
  have not_pending {st : SpindleState} (h : (s.mech b).spindle.state = st) (moving : st ≠ .stopping) :
      (s.mech b).spindle.pendingSpinUp = false :=
    Bool.eq_false_iff.2 fun p => moving (h.symm.trans (pend p))
  have turning {st : SpindleState} (h : (s.mech b).spindle.state = st) (off : st ≠ .off) (waiting : st ≠ .waiting)
      (x : Spindle) : (s.mech b).spindle.state = .off ∨ (s.mech b).spindle.state = .waiting → x.state = .off :=
    fun rest => (rest.elim (fun r => off (h.symm.trans r)) fun r => waiting (h.symm.trans r)).elim
  cases h : (s.bay b).spindle.state with
  | off => exact ⟨(s.mech b).spindle, by simp only [askStop, h], not_pending h (by decide), fun _ => h, fun _ => h⟩
  | waiting =>
    exact ⟨{ (s.mech b).spindle with state := .off }, by simp [askStop, h], not_pending h (by decide), fun _ => rfl, fun _ => rfl⟩
  | accel | run | recover =>
    exact ⟨(s.mech b).spindle.brake, by simp [askStop, h], not_pending h (by decide), turning h (by decide) (by decide) _,
      by simp [askStop, h]⟩
  | recoverWait =>
    refine ⟨(s.mech b).spindle.brake, ?_, not_pending h (by decide), turning h (by decide) (by decide) _, by simp [askStop, h]⟩
    simp only [askStop, h]
    split <;> simp
  | stopping =>
    exact ⟨{ (s.mech b).spindle with pendingSpinUp := false }, by simp [askStop, h], rfl, turning h (by decide) (by decide) _,
      by simp [askStop, h]⟩

/-- A bay at ease that becomes EMPTY is at rest. -/
theorem mech_becomeEmpty : ∃ r : BayRecord, (s.becomeEmpty b).mech b = { s.mech b with record := r } ∧ r.pulsing = false ∧
    r.state = .empty := by
  unfold becomeEmpty
  dsimp only
  split
  · exact ⟨_, by simp [startDebounce]; rfl, rfl, rfl⟩
  · exact ⟨{}, by simp, rfl, rfl⟩

end State

namespace Mechanism

variable {m : Mechanism}

/-- A bay at ease stays so with another record, not pulsing, and another spindle. -/
theorem AtEase.with (ease : m.AtEase) {r : BayRecord} (pulse : r.pulsing = false) (x : Spindle) :
    ({ m with record := r, spindle := x } : Mechanism).AtEase :=
  ⟨ease.heads, ease.load, ease.seek, ease.op, ease.drained, pulse⟩

/-- At ease, with the spindle OFF, the rules hold whatever the record. -/
theorem AtEase.off (ease : m.AtEase) (off : m.spindle.state = .off) (pend : m.spindle.pendingSpinUp = false) : m.Ok :=
  ease.ok (fun _ => off) fun h => absurd (pend.symm.trans h) nofun

end Mechanism

namespace State

variable {s : State} {b : BayId}

theorem becomeEmpty_ok (ease : (s.mech b).AtEase) (off : (s.mech b).spindle.state = .off)
    (pend : (s.mech b).spindle.pendingSpinUp = false) : ((s.becomeEmpty b).mech b).Ok := by
  obtain ⟨r, same, pulse, -⟩ := s.mech_becomeEmpty (b := b)
  rw [same]
  exact (ease.with pulse (s.mech b).spindle).off off pend

theorem enterRelease_ok (ease : (s.mech b).AtEase) (off : (s.mech b).spindle.state = .off)
    (pend : (s.mech b).spindle.pendingSpinUp = false) : ((s.enterRelease b).mech b).Ok := by
  rw [enterRelease, mech_request, mech_modRecord]
  exact (ease.with (r := { (s.mech b).record with state := .ejecting, phase := .release, pulsing := false }) rfl
    (s.mech b).spindle).off off pend

/-- A spin-up request to a spindle that is OFF, STOPPING, or WAITING already, in a bay at ease that spins up (R46). -/
theorem spinUp_ok (ease : (s.mech b).AtEase) (spins : (s.mech b).record.state = .spinning ∨ (s.mech b).record.state = .cleaning)
    (pend : (s.mech b).spindle.pendingSpinUp = true → (s.mech b).spindle.state = .stopping) : ((s.spinUp b).mech b).Ok := by
  have turning : (s.mech b).record.discAtRest = false := by rcases spins with h | h <;> simp [BayRecord.discAtRest, h]
  have rest (x : Spindle) : ({ s.mech b with spindle := x } : Mechanism).RestOk := fun h => absurd (turning.symm.trans h) nofun
  have ok (x : Spindle) (pend : x.pendingSpinUp = true → x.state = .stopping) : ({ s.mech b with spindle := x } : Mechanism).Ok :=
    (ease.with ease.pulse x).ok (rest x) fun h => ⟨pend h, spins.imp_right .inl⟩
  cases h : (s.bay b).spindle.state with
  | off =>
    simp only [spinUp, h, mech_request, mech_modSpindle]
    exact ok _ fun p => absurd (h.symm.trans (pend p)) nofun
  | stopping =>
    simp only [spinUp, h, mech_modSpindle]
    exact ok _ fun _ => h
  | waiting | accel | run | recoverWait | recover =>
    simp only [spinUp, h]
    exact ok (s.mech b).spindle pend

@[simp] theorem mech_dropMedia : (s.dropMedia b).mech b = { s.mech b with op := none } := by simp [dropMedia]

@[simp] theorem mech_stopSolenoid : (s.stopSolenoid b).mech b = s.mech b := by
  unfold stopSolenoid
  dsimp only
  split
  · simp
  · split <;> simp

/-- What every entry to FAULT brings to the mechanics (R14, R137, R151). -/
@[simp] theorem mech_faultBasic (c : FaultCause) : (s.faultBasic b c).mech b =
    { s.mech b with
      record := { (s.mech b).record with state := .fault, phase := .none, cause := c, eject := none, parkStep := .drain,
                                         resetPark := false, pulsing := false, debouncing := false }
      op := none, drained := true } := by
  unfold faultBasic
  cases c.event <;> simp

/-- A bay at ease that enters FAULT stays at ease. -/
theorem faultBasic_ease (ease : (s.mech b).AtEase) (c : FaultCause) : ((s.faultBasic b c).mech b).AtEase := by
  rw [mech_faultBasic]
  exact ⟨ease.heads, ease.load, ease.seek, rfl, rfl, rfl⟩

/-- A bay at ease that enters FAULT, with no spin-up pending. -/
theorem faultBasic_ok (ease : (s.mech b).AtEase) (pend : (s.mech b).spindle.pendingSpinUp = false) (c : FaultCause) :
    ((s.faultBasic b c).mech b).Ok := by
  refine (faultBasic_ease ease c).ok ?_ ?_ <;> rw [mech_faultBasic]
  · exact nofun
  · exact fun h => absurd (pend.symm.trans h) nofun

theorem attemptCounted_ok (ease : (s.mech b).AtEase)
    (spins : (s.mech b).record.state = .spinning ∨ (s.mech b).record.state = .cleaning)
    (pend : (s.mech b).spindle.pendingSpinUp = false) : ((s.attemptCounted b).mech b).Ok := by
  obtain ⟨t, counted, same⟩ : ∃ t : State, t = (s.modRecord b fun r => { r with attempts := min 8 (r.attempts + 1) }).raise b
      .spinAttempts 1 ∧ t.mech b = { s.mech b with
        record := { (s.mech b).record with attempts := min 8 ((s.mech b).record.attempts + 1) } } :=
    ⟨_, rfl, by simp⟩
  have easy : (t.mech b).AtEase := by
    rw [same]
    exact ⟨ease.heads, ease.load, ease.seek, ease.op, ease.drained, ease.pulse⟩
  unfold attemptCounted
  dsimp only
  rw [← counted]
  split
  · apply spinUp_ok
    · rwa [mech_latch]
    · rwa [mech_latch, same]
    · rw [mech_latch, same]
      exact fun h => absurd (pend.symm.trans h) nofun
  · exact faultBasic_ok easy (by rwa [same]) _

/-- The stop is confirmed in a bay at ease: the spindle is OFF, or WAITING for a spin-up that was pending (R50, R57). -/
theorem stopConfirmed_ok (ease : (s.mech b).AtEase) (pend : (s.mech b).spindle.pendingSpinUp = false)
    (stopped : (s.mech b).spindle.state = .off ∨ (s.mech b).record.state = .spinning ∨ (s.mech b).record.state = .cleaning ∨
      ((s.mech b).record.state = .fault ∧ (s.mech b).record.cause = .unloadFault)) (ended : Bool) :
    ((s.stopConfirmed b ended).mech b).Ok := by
  have unpended : (s.mech b).PendOk := fun h => absurd (pend.symm.trans h) nofun
  have turns (not : (s.bay b).record.discAtRest = false) : (s.mech b).RestOk := fun h => absurd (not.symm.trans h) nofun
  have turning {st : BayState} (h : (s.mech b).record.state = st) (not : st ≠ .spinning ∧ st ≠ .cleaning ∧ st ≠ .fault) :
      (s.mech b).spindle.state = .off := by
    rcases stopped with off | spins | cleans | ⟨faulty, -⟩
    · exact off
    · exact absurd (h.symm.trans spins) not.1
    · exact absurd (h.symm.trans cleans) not.2.1
    · exact absurd (h.symm.trans faulty) not.2.2
  have off {st : BayState} (h : (s.mech b).record.state = st) (not : st ≠ .spinning ∧ st ≠ .cleaning ∧ st ≠ .fault) :
      (s.mech b).Ok := ease.off (turning h not) pend
  cases h : (s.bay b).record.state with
  | spinning | cleaning =>
    simp only [stopConfirmed, h]
    split
    · exact attemptCounted_ok ease (by rw [← record_eq_mech, h]; decide) pend
    · exact ease.ok (turns (by simp only [BayRecord.discAtRest, h])) unpended
  | parking =>
    have stop := turning h (by decide)
    simp only [stopConfirmed, h]
    split
    · split
      · exact becomeEmpty_ok ease stop pend
      · have parked : ((((s.modRecord b fun r => { r with state := .parked, parkStep := .drain }).latch b .parked)).mech b).AtEase := by
          rw [mech_latch, mech_modRecord]
          exact ease.with (r := { (s.mech b).record with state := .parked, parkStep := .drain }) ease.pulse _
        split
        · exact enterRelease_ok parked (by simpa using stop) (by simpa using pend)
        · exact parked.off (by simpa using stop) (by simpa using pend)
    · exact off h (by decide)
  | ejecting =>
    simp only [stopConfirmed, h]
    split
    · exact enterRelease_ok ease (turning h (by decide)) pend
    · exact off h (by decide)
  | fault =>
    simp only [stopConfirmed, h]
    split
    · rename_i lost
      refine becomeEmpty_ok ease ?_ pend
      rw [← record_eq_mech, h, lost] at stopped
      simpa using stopped
    · exact ease.ok (turns (by simp only [BayRecord.discAtRest, h])) unpended
  | halted =>
    simp only [stopConfirmed, h]
    split
    · exact becomeEmpty_ok ease (turning h (by decide)) pend
    · exact off h (by decide)
  | empty | inserted | loading | mounting | ready | raw | parked =>
    simp only [stopConfirmed, h]
    exact off h (by decide)

/-- A stop request in a bay at ease keeps the rules, and no spin-up stays pending (R56). -/
theorem stopSpindle_ok (ease : (s.mech b).AtEase) (rest : (s.mech b).RestOk)
    (pend : (s.mech b).spindle.pendingSpinUp = true → (s.mech b).spindle.state = .stopping) : ((s.stopSpindle b).mech b).Ok := by
  obtain ⟨x, same, unpended, off, confirmed⟩ := mech_askStop (s := s) (b := b) pend
  have easy : ((s.askStop b).1.mech b).AtEase := by
    rw [same]
    exact ease.with ease.pulse x
  unfold stopSpindle
  split <;> rename_i t h <;> rw [h] at same easy confirmed
  · refine stopConfirmed_ok easy (by rwa [same]) (.inl ?_) _
    rw [same]
    exact confirmed rfl
  · refine easy.ok (fun r => ?_) fun p => ?_
    · rw [same] at r ⊢
      exact off (.inl (rest r))
    · rw [same] at p
      exact absurd (unpended.symm.trans p) nofun

end State

end Sys2Proof.Machine
end

section
/-! SUPPORT. Unloads, faults and ejects keep the rules of the mechanics (O59). -/

namespace Sys2Proof.Machine

/-- A bay whose heads may leave the medium: no operation, no item in the queue, no pulse, and no seek off the medium. -/
structure Mechanism.Leaving (m : Mechanism) : Prop where
  seek    : m.act.seek.isSome = true → m.act.state.loaded = true
  op      : m.op = none
  drained : m.drained = true
  pulse   : m.record.pulsing = false

theorem Mechanism.AtEase.leaving {m : Mechanism} (ease : m.AtEase) : m.Leaving :=
  ⟨by simp [ease.seek], ease.op, ease.drained, ease.pulse⟩

namespace State

variable {s : State} {b : BayId}

@[simp] theorem mech_startUnload : (s.startUnload b).mech b =
    { s.mech b with
      act := { (s.mech b).act with state := .unloading, cylinder := none, seek := none, recal := .idle, recalForLoad := false,
                                   unloadMoving := true, unloadAt := s.clock } } := by
  simp [mech]

/-- The unload request: the heads are on the stop or on their way, with no load and no seek, and nothing else has changed (R88). -/
theorem mech_askUnload (seekLoaded : (s.mech b).act.seek.isSome = true → (s.mech b).act.state.loaded = true) :
    ∃ a, (s.askUnload b).1.mech b = { s.mech b with act := a } ∧ a.state.loaded = false ∧ a.loadAttempt = none ∧ a.seek = none := by
  have noSeek {st : ActuatorState} (h : (s.mech b).act.state = st) (off : st.loaded = false) : (s.mech b).act.seek = none := by
    rw [← h] at off
    cases k : (s.mech b).act.seek with
    | none => rfl
    | some q => exact absurd (off.symm.trans (seekLoaded (by simp [k]))) nofun
  cases h : (s.bay b).act.state with
  | unloaded =>
    refine ⟨{ (s.mech b).act with loadAttempt := none }, ?_, ?_, rfl, noSeek h rfl⟩
    · simp only [askUnload, h]
      split <;> simp
    · rw [← act_eq_mech, h]; rfl
  | unloading =>
    by_cases moving : (s.bay b).act.unloadMoving = true
    · refine ⟨{ (s.mech b).act with loadAttempt := none }, ?_, ?_, rfl, noSeek h rfl⟩
      · simp only [askUnload, h, moving]
        simp
      · rw [← act_eq_mech, h]; rfl
    · simp only [askUnload, h, moving, if_false, Bool.false_eq_true]
      exact ⟨_, by rw [mech_startUnload, mech_modAct], rfl, rfl, rfl⟩
  | loading | tracking | seeking => exact ⟨_, by simp only [askUnload, h]; simp; rfl, rfl, rfl, rfl⟩
  | recalibrating =>
    cases k : (s.bay b).act.recal <;> simp only [askUnload, h, k]
    all_goals exact ⟨_, by simp; rfl, rfl, rfl, rfl⟩

/-- After the unload request a leaving bay is at ease. -/
theorem askUnload_ease (leaving : (s.mech b).Leaving) : ((s.askUnload b).1.mech b).AtEase ∧
    ∃ a, (s.askUnload b).1.mech b = { s.mech b with act := a } := by
  obtain ⟨a, same, heads, load, seek⟩ := mech_askUnload leaving.seek
  refine ⟨?_, a, same⟩
  rw [same]
  exact ⟨heads, load, seek, leaving.op, leaving.drained, leaving.pulse⟩

/-- A stop request of a bay at ease, whose record is one in which the disc turns. -/
theorem stop_turning_ok (ease : (s.mech b).AtEase) (f : BayRecord → BayRecord)
    (turns : (f (s.mech b).record).discAtRest = false) (pulse : (f (s.mech b).record).pulsing = false)
    (pend : (s.mech b).spindle.pendingSpinUp = true → (s.mech b).spindle.state = .stopping) :
    (((s.modRecord b f).stopSpindle b).mech b).Ok := by
  apply stopSpindle_ok <;> rw [mech_modRecord]
  · exact ease.with pulse _
  · exact fun h => absurd (turns.symm.trans h) nofun
  · exact pend

theorem enterSpindown_ok (ease : (s.mech b).AtEase)
    (pend : (s.mech b).spindle.pendingSpinUp = true → (s.mech b).spindle.state = .stopping) :
    ((s.enterSpindown b).mech b).Ok := by
  refine stop_turning_ok ease _ ?_ ease.pulse pend
  simp [BayRecord.discAtRest]

/-- The report of an unload to the Bay Controller (R11, R14, R89, R160). -/
theorem unloadedReport_ok (ease : (s.mech b).AtEase) (rest : (s.mech b).RestOk) (pend : (s.mech b).PendOk) :
    ((s.unloadedReport b).mech b).Ok := by
  have stopping := fun p => (pend p).1
  have ok := ease.ok rest pend
  cases h : (s.bay b).record.state with
  | ejecting =>
    simp only [unloadedReport, h]
    split
    · exact enterSpindown_ok ease stopping
    · exact ok
  | parking =>
    simp only [unloadedReport, h]
    split
    · refine stop_turning_ok ease _ ?_ ease.pulse stopping
      simp [BayRecord.discAtRest, ← record_eq_mech, h]
    · exact ok
  | fault =>
    cases k : (s.bay b).record.cause <;> simp only [unloadedReport, h, k]
    case unloadFault =>
      refine stop_turning_ok ease _ ?_ ease.pulse stopping
      simp [BayRecord.discAtRest, ← record_eq_mech, h]
    case positionLost => exact stopSpindle_ok ease rest stopping
    all_goals exact ok
  | empty | inserted | spinning | loading | mounting | ready | raw | cleaning | parked | halted =>
    simp only [unloadedReport, h]
    exact ok

/-- An unload request of the Bay Controller (R88). -/
theorem unloadHeads_ok (leaving : (s.mech b).Leaving) (rest : (s.mech b).RestOk) (pend : (s.mech b).PendOk) :
    ((s.unloadHeads b).mech b).Ok := by
  obtain ⟨ease, a, same⟩ := askUnload_ease leaving
  have rest' : ((s.askUnload b).1.mech b).RestOk := by rw [same]; exact rest
  have pend' : ((s.askUnload b).1.mech b).PendOk := by rw [same]; exact pend
  unfold unloadHeads
  split <;> rename_i t h <;> rw [h] at ease rest' pend'
  · exact unloadedReport_ok ease rest' pend'
  · exact ease.ok rest' pend'

/-- The eject phase UNLOAD is entered with no spin-up pending (R160). -/
theorem enterUnload_ok (leaving : (s.mech b).Leaving) (pend : (s.mech b).spindle.pendingSpinUp = false) :
    ((s.enterUnload b).mech b).Ok := by
  apply unloadHeads_ok <;> rw [mech_modRecord]
  · exact ⟨leaving.seek, leaving.op, leaving.drained, leaving.pulse⟩
  · simp [Mechanism.RestOk, BayRecord.discAtRest]
  · exact fun h => absurd (pend.symm.trans h) nofun

/-- A bay that enters FAULT is leaving. -/
theorem faultBasic_leaving (seekLoaded : (s.mech b).act.seek.isSome = true → (s.mech b).act.state.loaded = true) (c : FaultCause) :
    ((s.faultBasic b c).mech b).Leaving := by
  rw [mech_faultBasic]
  exact ⟨seekLoaded, rfl, rfl, rfl⟩

/-- A bay enters FAULT (R14). But for a lost cartridge a pending spin-up has to be one that the rules allow there; and for a cause that
does not take the heads back, they are off the medium already, with no load. -/
theorem enterFault_ok (seekLoaded : (s.mech b).act.seek.isSome = true → (s.mech b).act.state.loaded = true) {c : FaultCause}
    (stopping : (s.mech b).spindle.pendingSpinUp = true → (s.mech b).spindle.state = .stopping)
    (pend : c ≠ .cartridgeLost → c ≠ .unloadFault → (s.mech b).spindle.pendingSpinUp = false)
    (heads : c ≠ .positionLost → c ≠ .cartridgeLost → (s.mech b).act.state.loaded = false ∧ (s.mech b).act.loadAttempt = none) :
    ((s.enterFault b c).mech b).Ok := by
  have leaving := faultBasic_leaving seekLoaded c
  have rest : ((s.faultBasic b c).mech b).RestOk := by rw [mech_faultBasic]; exact nofun
  have pended (h : c ≠ .cartridgeLost) : ((s.faultBasic b c).mech b).PendOk := by
    rw [mech_faultBasic]
    intro p
    refine ⟨stopping p, .inr (.inr ⟨rfl, ?_⟩)⟩
    refine Classical.byContradiction fun other => ?_
    exact absurd ((pend h other).symm.trans p) nofun
  have stays (h : c ≠ .positionLost) (k : c ≠ .cartridgeLost) : ((s.faultBasic b c).mech b).Ok := by
    obtain ⟨off, load⟩ := heads h k
    refine Mechanism.AtEase.ok ?_ rest (pended k)
    rw [mech_faultBasic]
    refine ⟨off, load, ?_, rfl, rfl, rfl⟩
    show (s.mech b).act.seek = none
    cases q : (s.mech b).act.seek with
    | none => rfl
    | some _ => exact absurd (off.symm.trans (seekLoaded (by simp [q]))) nofun
  cases c with
  | positionLost => exact unloadHeads_ok leaving rest (pended (by decide))
  | cartridgeLost =>
    obtain ⟨ease, a, same⟩ := askUnload_ease leaving
    have unloads : (s.faultBasic b .cartridgeLost).unloadHeads b = ((s.faultBasic b .cartridgeLost).askUnload b).1 := by
      have reported (t : State) (h : (t.mech b).record.state = .fault) (k : (t.mech b).record.cause = .cartridgeLost) :
          t.unloadedReport b = t := by
        simp only [unloadedReport, record_eq_mech, h, k]
      unfold unloadHeads
      split <;> rename_i t h <;> rw [h] at same ⊢
      apply reported <;> simp only [same, mech_faultBasic]
    simp only [enterFault, unloads]
    apply stopSpindle_ok ease <;> rw [same, mech_faultBasic]
    · exact nofun
    · exact stopping
  | none | spinFail | speedLost | unloadFault | ejectJam => exact stays (by decide) (by decide)

end State

end Sys2Proof.Machine
end

section
/-! SUPPORT. What the rules of the mechanics tell of a bay, and the drain and the eject sequence (O59). -/

namespace Sys2Proof.Machine

namespace BayRecord

variable {r r' : BayRecord}

/-- The sets of bay states in the rules look at the state, the phase and the step of PARKING. -/
structure SamePlace (r r' : BayRecord) : Prop where
  state    : r'.state = r.state
  phase    : r'.phase = r.phase
  parkStep : r'.parkStep = r.parkStep

theorem SamePlace.wantsHeads (h : SamePlace r r') : r'.wantsHeads = r.wantsHeads := by
  simp [BayRecord.wantsHeads, h.state, h.phase, h.parkStep]
theorem SamePlace.allowsHeads (h : SamePlace r r') : r'.allowsHeads = r.allowsHeads := by
  simp [BayRecord.allowsHeads, h.wantsHeads, h.state, h.phase, h.parkStep]
theorem SamePlace.discAtRest (h : SamePlace r r') : r'.discAtRest = r.discAtRest := by
  simp [BayRecord.discAtRest, h.state, h.phase]
theorem SamePlace.mayHoldWrites (h : SamePlace r r') : r'.mayHoldWrites = r.mayHoldWrites := by
  simp [BayRecord.mayHoldWrites, h.state, h.phase, h.parkStep]
theorem SamePlace.mediaWorks (h : SamePlace r r') : r'.mediaWorks = r.mediaWorks := by
  simp [BayRecord.mediaWorks, h.state, h.phase, h.parkStep]

/-- Where the heads may not stand, no writes wait and no engine works. -/
theorem mayHoldWrites_of_allowsHeads (h : r.allowsHeads = false) : r.mayHoldWrites = false := by
  cases k : r.state <;> simp_all [BayRecord.allowsHeads, BayRecord.wantsHeads, BayRecord.mayHoldWrites]
theorem mediaWorks_of_allowsHeads (h : r.allowsHeads = false) : r.mediaWorks = false := by
  cases k : r.state <;> simp_all [BayRecord.allowsHeads, BayRecord.wantsHeads, BayRecord.mediaWorks]
theorem wantsHeads_of_allowsHeads (h : r.allowsHeads = false) : r.wantsHeads = false := by
  simp_all [BayRecord.allowsHeads]

end BayRecord

namespace Mechanism

variable {m : Mechanism}

theorem HeadsOk.noLoad (ok : m.HeadsOk) (h : m.record.wantsHeads = false ∨ m.spindle.state ≠ .run) : m.act.loadAttempt = none := by
  cases k : m.act.loadAttempt with
  | none => rfl
  | some n =>
    obtain ⟨wants, run⟩ := ok.loadWanted (by simp [k])
    rcases h with h | h
    · exact absurd (h.symm.trans wants) nofun
    · exact absurd run h

theorem HeadsOk.noSeek (ok : m.HeadsOk) (off : m.act.state.loaded = false) : m.act.seek = none := by
  cases k : m.act.seek with
  | none => rfl
  | some q => exact absurd (off.symm.trans (ok.seekLoaded (by simp [k]))) nofun

theorem HeadsOk.headsOff (ok : m.HeadsOk) (h : m.record.allowsHeads = false ∨ m.spindle.state ≠ .run) :
    m.act.state.loaded = false := by
  refine Bool.eq_false_iff.2 fun loaded => ?_
  rcases h with h | h
  · exact absurd (h.symm.trans (ok.headsAllowed loaded)) nofun
  · exact h (ok.headsOnRun loaded)

theorem HeadsOk.notPulsing (ok : m.HeadsOk) (h : m.record.state ≠ .ejecting ∨ m.record.phase ≠ .release) : m.record.pulsing = false := by
  refine Bool.eq_false_iff.2 fun pulsing => ?_
  obtain ⟨state, phase, -⟩ := ok.solenoid pulsing
  exact h.elim (fun h => h state) fun h => h phase

theorem HeadsOk.notPending (ok : m.HeadsOk) (h : m.spindle.state ≠ .stopping ∨
    (m.record.state ≠ .spinning ∧ m.record.state ≠ .cleaning ∧ m.record.state ≠ .fault)) : m.spindle.pendingSpinUp = false := by
  refine Bool.eq_false_iff.2 fun pending => ?_
  obtain ⟨state, spins⟩ := ok.spinPending pending
  rcases h with h | ⟨h, k, l⟩
  · exact h state
  · rcases spins with spins | cleans | ⟨faulty, -⟩
    · exact h spins
    · exact k cleans
    · exact l faulty

theorem HeadsOk.stopping (ok : m.HeadsOk) (p : m.spindle.pendingSpinUp = true) : m.spindle.state = .stopping := (ok.spinPending p).1

theorem EngineOk.noOp (ok : m.EngineOk) (h : m.record.mediaWorks = false) : m.op = none := by
  cases k : m.op with
  | none => rfl
  | some o => exact absurd (h.symm.trans (ok.opWorks (by simp [k]))) nofun

/-- With an operation in flight that has no seek, no seek is in hand (R75). -/
theorem EngineOk.noSeek (ok : m.EngineOk) {o : MediaOp} (op : m.op = some o) (stage : o.stage ≠ .seeking) : m.act.seek = none := by
  cases k : m.act.seek with
  | none => rfl
  | some q =>
    have owner := ok.seekOwner q k
    have works := ok.opWorks (by simp [op])
    cases r : q.requester <;> simp only [r, Owns] at owner
    · simp [op, stage] at owner
    · simp [BayRecord.mediaWorks, owner] at works

/-- A bay with no work for the engine, no writes and no pulse is leaving. -/
theorem Ok.leaving (ok : m.Ok) (works : m.record.mediaWorks = false) (holds : m.record.mayHoldWrites = false)
    (h : m.record.state ≠ .ejecting ∨ m.record.phase ≠ .release) : m.Leaving :=
  ⟨ok.heads.seekLoaded, ok.engine.noOp works, ok.heads.queueEmpty holds, ok.heads.notPulsing h⟩

/-- A bay whose heads are off, that wants none and holds nothing, is at ease. -/
theorem Ok.easeOff (ok : m.Ok) (off : m.act.state.loaded = false) (load : m.act.loadAttempt = none)
    (works : m.record.mediaWorks = false) (holds : m.record.mayHoldWrites = false) (pulse : m.record.pulsing = false) : m.AtEase :=
  ⟨off, load, ok.heads.noSeek off, ok.engine.noOp works, ok.heads.queueEmpty holds, pulse⟩

/-- A bay that does not allow its heads on the medium, and does not pulse, is at ease. -/
theorem Ok.ease (ok : m.Ok) (h : m.record.allowsHeads = false) (pulse : m.record.pulsing = false) : m.AtEase :=
  ok.easeOff (ok.heads.headsOff (.inl h)) (ok.heads.noLoad (.inl (BayRecord.wantsHeads_of_allowsHeads h)))
    (BayRecord.mediaWorks_of_allowsHeads h) (BayRecord.mayHoldWrites_of_allowsHeads h) pulse

/-! ### Changes that the rules do not look at -/

theorem Ok.sameRecord (ok : m.Ok) {r : BayRecord} (place : BayRecord.SamePlace m.record r) (cause : r.cause = m.record.cause)
    (pulsing : r.pulsing = m.record.pulsing)
    (save : (r.eject.any fun e => e.saveMarker) = true → (m.record.eject.any fun e => e.saveMarker) = true ∨ m.drained = true) :
    ({ m with record := r } : Mechanism).Ok := by
  obtain ⟨⟨run, allowed, load, rest, pend, queue, saved, seek, solenoid⟩, ⟨works, owner, tracks⟩⟩ := ok
  refine ⟨⟨run, fun h => place.allowsHeads.trans (allowed h), fun h => (load h).imp_left place.wantsHeads.trans,
    fun h => rest (place.discAtRest.symm.trans h), ?_, fun h => queue (place.mayHoldWrites.symm.trans h), ?_, seek, ?_⟩,
    ⟨fun h => place.mediaWorks.trans (works h), ?_, tracks⟩⟩
  · intro p
    simpa only [place.state, cause] using pend p
  · intro h p e
    exact (save e).elim (saved (place.state.symm.trans h) (place.phase.symm.trans p)) id
  · intro p
    simpa only [place.state, place.phase] using solenoid (pulsing.symm.trans p)
  · intro q hq
    have owns := owner q hq
    cases k : q.requester <;> simp only [k, Owns, place.state] at owns ⊢ <;> exact owns

theorem Ok.sameAct (ok : m.Ok) {a : Actuator} (state : a.state = m.act.state)
    (load : a.loadAttempt = m.act.loadAttempt ∨ a.loadAttempt = none) (seek : a.seek = m.act.seek) :
    ({ m with act := a } : Mechanism).Ok := by
  obtain ⟨⟨run, allowed, loaded, rest, pend, queue, saved, seekLoaded, solenoid⟩, ⟨works, owner, tracks⟩⟩ := ok
  refine ⟨⟨?_, ?_, ?_, rest, pend, queue, saved, ?_, ?_⟩, ⟨works, ?_, ?_⟩⟩
  · simpa only [state] using run
  · simpa only [state] using allowed
  · rcases load with load | load
    · simpa only [load] using loaded
    · simp [load]
  · simpa only [state, seek] using seekLoaded
  · simpa only [state] using solenoid
  · exact fun q hq => owner q (seek ▸ hq)
  · simpa only [state] using tracks

theorem Ok.sameSpindle (ok : m.Ok) {x : Spindle} (state : x.state = m.spindle.state)
    (pend : x.pendingSpinUp = true → m.spindle.pendingSpinUp = true) : ({ m with spindle := x } : Mechanism).Ok := by
  obtain ⟨⟨run, allowed, loaded, rest, pending, queue, saved, seekLoaded, solenoid⟩, ⟨works, owner, tracks⟩⟩ := ok
  refine ⟨⟨?_, allowed, ?_, ?_, ?_, queue, saved, seekLoaded, ?_⟩, ⟨works, owner, tracks⟩⟩
  · simpa only [state] using run
  · simpa only [state] using loaded
  · simpa only [state] using rest
  · simpa only [state] using fun p => pending (pend p)
  · simpa only [state] using solenoid

end Mechanism

namespace State

variable {s : State} {b : BayId}

/-! ### Faults, the drain and the eject sequence -/

theorem faultReport_ok (ok : (s.mech b).Ok) {c : FaultCause}
    (pend : c ≠ .cartridgeLost → c ≠ .unloadFault → (s.mech b).record.state ≠ .fault → (s.mech b).spindle.pendingSpinUp = false)
    (heads : c ≠ .positionLost → c ≠ .cartridgeLost → (s.mech b).act.state.loaded = false ∧ (s.mech b).act.loadAttempt = none) :
    ((s.faultReport b c).mech b).Ok := by
  unfold faultReport
  split
  · exact ok
  · rename_i enters
    refine enterFault_ok ok.heads.seekLoaded ok.heads.stopping (fun h k => pend h k fun faulty => ?_) heads
    exact enters ⟨faulty, h, k⟩

theorem checkDrain_ok (ok : (s.mech b).Ok) : ((s.checkDrain b).mech b).Ok := by
  unfold checkDrain
  dsimp only
  split
  · rename_i done
    obtain ⟨drained, -, op⟩ := done
    cases h : (s.bay b).record.state with
    | parking =>
      have pulse := ok.heads.notPulsing (.inl (by rw [← record_eq_mech, h]; decide))
      have pend := ok.heads.notPending (.inr (by rw [← record_eq_mech, h]; decide))
      dsimp only
      split
      · apply unloadHeads_ok <;> rw [mech_modRecord]
        · exact ⟨ok.heads.seekLoaded, op, drained, pulse⟩
        · simp [Mechanism.RestOk, BayRecord.discAtRest, ← record_eq_mech, h]
        · exact fun p => absurd (pend.symm.trans p) nofun
      · exact ok
    | ejecting =>
      dsimp only
      split
      · rename_i drains
        split
        · rw [mech_media, mech_modRecord]
          · exact ok.sameRecord (r := { (s.mech b).record with
              eject := (s.mech b).record.eject.map fun e => { e with saveMarker := true } }) ⟨rfl, rfl, rfl⟩ rfl rfl
              fun _ => .inr drained
          · rfl
        · refine enterUnload_ok ⟨ok.heads.seekLoaded, op, drained, ok.heads.notPulsing (.inr ?_)⟩
            (ok.heads.notPending (.inr ?_))
          · rw [← record_eq_mech, drains.1]; decide
          · rw [← record_eq_mech, h]; decide
      · exact ok
    | empty | inserted | spinning | loading | mounting | ready | raw | cleaning | parked | halted | fault => exact ok
  · exact ok

end State

end Sys2Proof.Machine
end

section
/-! SUPPORT. Seeks, operations and the bay's work keep the rules of the mechanics (O59). -/

namespace Sys2Proof.Machine

namespace BayRecord

variable {r : BayRecord}

/-- Where an engine works the bay wants its heads, and its disc turns. -/
theorem wantsHeads_of_mediaWorks (h : r.mediaWorks = true) : r.wantsHeads = true := by
  cases k : r.state <;> simp_all [BayRecord.wantsHeads, BayRecord.mediaWorks]
theorem allowsHeads_of_wantsHeads (h : r.wantsHeads = true) : r.allowsHeads = true := by
  simp [BayRecord.allowsHeads, h]
theorem discAtRest_of_wantsHeads (h : r.wantsHeads = true) : r.discAtRest = false := by
  cases k : r.state <;> simp_all [BayRecord.wantsHeads, BayRecord.discAtRest]
theorem state_of_mediaWorks (h : r.mediaWorks = true) : r.state ≠ .spinning ∧ r.state ≠ .cleaning ∧ r.state ≠ .fault := by
  cases k : r.state <;> simp_all [BayRecord.mediaWorks]
theorem notRelease_of_mediaWorks (h : r.mediaWorks = true) : r.state ≠ .ejecting ∨ r.phase ≠ .release := by
  cases k : r.state <;> simp_all [BayRecord.mediaWorks]

end BayRecord

namespace Mechanism

variable {m : Mechanism}

/-- With loaded heads that stay loaded, the rules of heads, spindle and solenoid stay. -/
theorem HeadsOk.moved (ok : m.HeadsOk) (loaded : m.act.state.loaded = true) {a : Actuator} (stays : a.state.loaded = true)
    (load : a.loadAttempt = m.act.loadAttempt ∨ a.loadAttempt = none) (o : Option MediaOp) :
    ({ m with act := a, op := o } : Mechanism).HeadsOk := by
  refine ⟨fun _ => ok.headsOnRun loaded, fun _ => ok.headsAllowed loaded, ?_, ok.atRest, ok.spinPending, ok.queueEmpty,
    ok.saveDrained, fun _ => stays, fun p => ?_⟩
  · rcases load with load | load
    · simpa only [load] using ok.loadWanted
    · simp [load]
  · obtain ⟨-, -, unloaded, -⟩ := ok.solenoid p
    simp [unloaded, ActuatorState.loaded] at loaded

/-- With no operation and no seek, the rules are those of heads, spindle and solenoid. -/
theorem HeadsOk.idle (ok : m.HeadsOk) (seek : m.act.seek = none) : ({ m with op := none } : Mechanism).Ok :=
  ⟨⟨ok.headsOnRun, ok.headsAllowed, ok.loadWanted, ok.atRest, ok.spinPending, ok.queueEmpty, ok.saveDrained, ok.seekLoaded,
    ok.solenoid⟩, ⟨by simp, by simp [seek], by simp⟩⟩

/-- Another operation, not on its sector or with the heads TRACKING, and with no seek in hand. -/
theorem HeadsOk.withOp (ok : m.HeadsOk) (seek : m.act.seek = none) (works : m.record.mediaWorks = true) {o : Option MediaOp}
    (tracks : (o.any fun o => o.stage = .atSector) = true → m.act.state = .tracking) : ({ m with op := o } : Mechanism).Ok :=
  ⟨⟨ok.headsOnRun, ok.headsAllowed, ok.loadWanted, ok.atRest, ok.spinPending, ok.queueEmpty, ok.saveDrained, ok.seekLoaded,
    ok.solenoid⟩, ⟨fun _ => works, by simp [seek], tracks⟩⟩

/-- A bay goes over to a state in which its engine works: from one that neither spins up, cleans nor is in FAULT. -/
theorem Ok.toWork (ok : m.Ok) {r : BayRecord} (works : r.mediaWorks = true) (holds : r.mayHoldWrites = true ∨ m.drained = true)
    (save : (r.eject.any fun e => e.saveMarker) = true → r.state ≠ .ejecting ∨ m.drained = true) (pulse : r.pulsing = false)
    (from_ : m.record.state ≠ .spinning ∧ m.record.state ≠ .cleaning ∧ m.record.state ≠ .fault) :
    ({ m with record := r } : Mechanism).Ok := by
  have wants := BayRecord.wantsHeads_of_mediaWorks works
  have pend := ok.heads.notPending (.inr from_)
  refine ⟨⟨ok.heads.headsOnRun, fun _ => BayRecord.allowsHeads_of_wantsHeads wants, fun h => ⟨wants, (ok.heads.loadWanted h).2⟩,
    fun h => ?_, fun h => ?_, fun h => ?_, fun h _ e => ?_, ok.heads.seekLoaded, fun h => ?_⟩,
    ⟨fun _ => works, fun q hq => ?_, ok.engine.sectorTracks⟩⟩
  · exact absurd ((BayRecord.discAtRest_of_wantsHeads wants).symm.trans h) nofun
  · exact absurd (pend.symm.trans h) nofun
  · exact holds.elim (fun k => absurd (h.symm.trans k) nofun) id
  · exact (save e).elim (fun k => absurd h k) id
  · exact absurd (pulse.symm.trans h) nofun
  · have owner := ok.engine.seekOwner q hq
    cases k : q.requester <;> simp only [k, Owns] at owner ⊢
    · exact owner
    · exact absurd owner from_.2.1

/-- A load is asked for, with the disc at speed, in a bay that wants its heads (R76). -/
theorem Ok.askingLoad (ok : m.Ok) (wants : m.record.wantsHeads = true) (run : m.spindle.state = .run) (n : Nat) :
    ({ m with act := { m.act with loadAttempt := some n } } : Mechanism).Ok :=
  ⟨⟨ok.heads.headsOnRun, ok.heads.headsAllowed, fun _ => ⟨wants, run⟩, ok.heads.atRest, ok.heads.spinPending, ok.heads.queueEmpty,
    ok.heads.saveDrained, ok.heads.seekLoaded, ok.heads.solenoid⟩, ⟨ok.engine.opWorks, ok.engine.seekOwner, ok.engine.sectorTracks⟩⟩

/-- Another seek in hand, or a move of the loaded heads, whose seek is its owner's. -/
theorem Ok.seeking (ok : m.Ok) (loaded : m.act.state.loaded = true) {a : Actuator} (stays : a.state.loaded = true)
    (load : a.loadAttempt = m.act.loadAttempt ∨ a.loadAttempt = none)
    (owner : ∀ q ∈ a.seek, m.Owns q.requester)
    (tracks : (m.op.any fun o => o.stage = .atSector) = true → a.state = .tracking) : ({ m with act := a } : Mechanism).Ok :=
  ⟨ok.heads.moved loaded stays load m.op, ⟨ok.engine.opWorks, owner, tracks⟩⟩

end Mechanism

namespace State

variable {s : State} {b : BayId}

@[simp] theorem mech_modOp (f : MediaOp → MediaOp) : (s.modOp b f).mech b = { s.mech b with op := (s.mech b).op.map f } := by
  simp [modOp, mech]
@[simp] theorem mech_endOp : (s.endOp b).mech b = { s.mech b with op := none } := by simp [endOp]
@[simp] theorem mech_stage (d : Sector) : (s.stage b d).mech b = s.mech b := by
  unfold stage
  rw [mech_modSlot, mech_media]
  rfl
@[simp] theorem mech_completeRead : (s.completeRead b).mech b = s.mech b := by
  unfold completeRead
  split
  · split <;> simp
  · rfl
@[simp] theorem mech_enterReady : (s.enterReady b).mech b =
    { s.mech b with record := { (s.mech b).record with state := .ready, phase := .none } } := by simp [enterReady]
@[simp] theorem mech_enterRaw : (s.enterRaw b).mech b =
    { s.mech b with record := { (s.mech b).record with state := .raw, phase := .none } } := by simp [enterRaw]
@[simp] theorem mech_startSeek (q : SeekInHand) (l : Nat) : (s.startSeek b q l).mech b =
    { s.mech b with act := { (s.mech b).act with
        state := .seeking, seek := some { q with standing := .running },
        plan := some (makePlan q.cylinder q.head q.distance q.direction q.level l) } } := by
  simp [startSeek]
@[simp] theorem mech_askRecal : (s.askRecal b).mech b =
    { s.mech b with act := { (s.mech b).act with state := .recalibrating, cylinder := none, recal := .waiting, recalForLoad := false } } := by
  simp [askRecal]

/-! ### Seeks -/

/-- A seek taken for planning leaves its requester's seek in hand, or none, on heads that stay on the medium (R63, R64). -/
theorem mech_planSeek (q : SeekInHand) : (s.planSeek b q).mech b = s.mech b ∨
    ∃ a q', (s.planSeek b q).mech b = { s.mech b with act := a } ∧ (a.state = (s.mech b).act.state ∨ a.state = .seeking) ∧
      a.loadAttempt = (s.mech b).act.loadAttempt ∧ a.seek = some q' ∧ q'.requester = q.requester := by
  unfold planSeek
  split
  · exact .inl rfl
  · dsimp only
    split
    · exact .inr ⟨_, _, mech_startSeek _ _, .inr rfl, rfl, rfl, rfl⟩
    · exact .inr ⟨_, _, (mech_request ..).trans (mech_modAct ..), .inl rfl, rfl, rfl, rfl⟩

theorem mech_takeSeek (q : SeekInHand) : (s.takeSeek b q).mech b = s.mech b ∨
    ∃ a q', (s.takeSeek b q).mech b = { s.mech b with act := a } ∧ (a.state = (s.mech b).act.state ∨ a.state = .seeking) ∧
      a.loadAttempt = (s.mech b).act.loadAttempt ∧ a.seek = some q' ∧ q'.requester = q.requester := by
  unfold takeSeek
  split
  · exact .inr ⟨_, _, mech_modAct _ _ _, .inl rfl, rfl, rfl, rfl⟩
  · exact mech_planSeek q

end State

end Sys2Proof.Machine
end

section
/-! SUPPORT. What the bay and its engine do on the reports of the actuator and the spindle keeps the rules of the mechanics (O59). -/

namespace Sys2Proof.Machine

namespace State

variable {s : State} {b : BayId}

/-! ### Seeks in hand -/

theorem loaded_tracking {m : Mechanism} (tracking : m.act.state = .tracking) : m.act.state.loaded = true := by
  rw [tracking]; rfl

/-- A seek left in hand on a TRACKING actuator keeps the rules, when its requester owns it and no operation is on its sector. -/
theorem seek_ok {t : State} (ok : (s.mech b).Ok) (tracking : (s.mech b).act.state = .tracking) {q : SeekInHand}
    (owns : (s.mech b).Owns q.requester) (off : ((s.mech b).op.any fun o => o.stage = .atSector) = false)
    (left : t.mech b = s.mech b ∨ ∃ a q', t.mech b = { s.mech b with act := a } ∧
      (a.state = (s.mech b).act.state ∨ a.state = .seeking) ∧ a.loadAttempt = (s.mech b).act.loadAttempt ∧ a.seek = some q' ∧
      q'.requester = q.requester) : (t.mech b).Ok := by
  rcases left with same | ⟨a, q', same, state, load, seek, requester⟩ <;> rw [same]
  · exact ok
  · refine ok.seeking (loaded_tracking tracking) ?_ (.inl load) ?_ fun h => absurd (off.symm.trans h) nofun
    · rcases state with state | state <;> simp [state, tracking, ActuatorState.loaded]
    · rw [seek]
      rintro _ ⟨⟩
      exact requester ▸ owns

theorem planSeek_ok (ok : (s.mech b).Ok) (tracking : (s.mech b).act.state = .tracking) {q : SeekInHand}
    (owns : (s.mech b).Owns q.requester) (off : ((s.mech b).op.any fun o => o.stage = .atSector) = false) :
    ((s.planSeek b q).mech b).Ok := seek_ok ok tracking owns off (mech_planSeek q)

theorem takeSeek_ok (ok : (s.mech b).Ok) (tracking : (s.mech b).act.state = .tracking) {q : SeekInHand}
    (owns : (s.mech b).Owns q.requester) (off : ((s.mech b).op.any fun o => o.stage = .atSector) = false) :
    ((s.takeSeek b q).mech b).Ok := seek_ok ok tracking owns off (mech_takeSeek q)

/-- A seek in hand that its owner has is no operation on its sector. -/
theorem notAtSector {m : Mechanism} (ok : m.Ok) {q : SeekInHand} (seek : m.act.seek = some q) :
    (m.op.any fun o => o.stage = .atSector) = false := by
  refine Bool.eq_false_iff.2 fun h => ?_
  cases op : m.op with
  | none => simp [op] at h
  | some o =>
    have stage : o.stage ≠ .seeking := by
      simp [op] at h
      simp [h]
    exact absurd (seek.symm.trans (ok.engine.noSeek op stage)) nofun

/-- A HELD seek is taken for planning (R78, R82). -/
theorem takeHeld_ok (ok : (s.mech b).Ok) : ((s.takeHeld b).mech b).Ok := by
  unfold takeHeld
  split
  · rename_i q seek
    split
    · rename_i held
      exact planSeek_ok ok held.2.1 (ok.engine.seekOwner q seek) (notAtSector ok seek)
    · exact ok
  · exact ok

theorem holdSeek_ok (ok : (s.mech b).Ok) : ((s.holdSeek b).mech b).Ok := by
  unfold holdSeek
  split
  · rename_i q seek
    split
    · rw [mech_withdraw, mech_modAct]
      have tracks := ok.engine.sectorTracks
      have loaded := ok.heads.seekLoaded (by rw [← act_eq_mech, seek]; rfl)
      refine ok.seeking loaded loaded (.inl rfl) ?_ tracks
      rintro _ ⟨⟩
      exact ok.engine.seekOwner q seek
    · exact ok
  · exact ok

/-- A seek need is refused with nothing changed, or taken from a TRACKING actuator with no seek in hand (R81). -/
theorem mech_seekNeed (r : Requester) (c h : Nat) :
    ((s.seekNeed b r c h).2 ≠ .taken ∧ (s.seekNeed b r c h).1.mech b = s.mech b) ∨
    ((s.seekNeed b r c h).2 = .taken ∧ (s.mech b).act.state = .tracking ∧
      ∃ a, (s.seekNeed b r c h).1.mech b = { s.mech b with act := a } ∧ (a.state = .tracking ∨ a.state = .seeking) ∧
        a.loadAttempt = (s.mech b).act.loadAttempt ∧ ∀ q ∈ a.seek, q.requester = r) := by
  unfold seekNeed
  split
  · exact .inl ⟨by simp, rfl⟩
  · rename_i tracking
    split
    · exact .inl ⟨by simp, rfl⟩
    · rename_i free
      have tracking : (s.mech b).act.state = .tracking := Classical.not_not.1 tracking
      have none : (s.mech b).act.seek = none := Option.not_isSome_iff_eq_none.1 free
      refine .inr ⟨rfl, tracking, ?_⟩
      rcases mech_takeSeek (s := s) (b := b)
        ⟨r, c, h, 1, .held, 0, .none, 0⟩ with same | ⟨a, q', same, state, load, seek, requester⟩
      · exact ⟨_, same, .inl tracking, rfl, fun q hq => absurd (none.symm.trans hq) nofun⟩
      · refine ⟨a, same, by rwa [tracking] at state, load, ?_⟩
        rw [seek]
        rintro _ ⟨⟩
        exact requester

/-! ### The sweep and the reports of TRACKING -/

theorem sweepNext_ok (ok : (s.mech b).Ok) : ((s.sweepNext b).mech b).Ok := by
  unfold sweepNext
  split
  · rename_i cleaning
    have noOp := ok.engine.noOp (by simp [BayRecord.mediaWorks, ← record_eq_mech, cleaning])
    rcases mech_seekNeed (s := s) (b := b) .sweep (if (s.bay b).record.sweepOut then 0 else 799) (s.bay b).act.head with
      ⟨-, same⟩ | ⟨-, tracking, a, same, state, load, seek⟩ <;> rw [same]
    · exact ok
    · refine ok.seeking (loaded_tracking tracking) ?_ (.inl load) ?_ (by simp [noOp])
      · rcases state with state | state <;> simp [state, ActuatorState.loaded]
      · intro q hq
        rw [seek q hq]
        exact cleaning
  · exact ok

theorem sweepEnded_ok (ok : (s.mech b).Ok) (run : (s.mech b).spindle.state = .run) : ((s.sweepEnded b).mech b).Ok := by
  unfold sweepEnded
  dsimp only
  split
  · rename_i cleaning
    have cleans : (s.mech b).record.state = .cleaning := cleaning
    generalize (if (s.bay b).record.sweepOut then min 16 ((s.bay b).record.trips + 1) else (s.bay b).record.trips) = n
    split
    · apply enterUnload_ok
      · simp only [mech_modRecord, mech_latch]
        exact ⟨ok.heads.seekLoaded, ok.engine.noOp (by simp [BayRecord.mediaWorks, cleans]),
          ok.heads.queueEmpty (by simp [BayRecord.mayHoldWrites, cleans]), ok.heads.notPulsing (.inl (by simp [cleans]))⟩
      · simp only [mech_modRecord, mech_latch]
        exact ok.heads.notPending (.inl (by simp [run]))
    · apply sweepNext_ok
      rw [mech_modRecord]
      exact ok.sameRecord (r := { (s.mech b).record with trips := n, sweepOut := !(s.mech b).record.sweepOut }) ⟨rfl, rfl, rfl⟩
        rfl rfl .inl
  · exact ok

/-- A bay goes over to READY or RAW out of a state in which its spindle's part is done. -/
theorem enterReady_ok (ok : (s.mech b).Ok) (from_ : (s.mech b).record.state ≠ .spinning ∧ (s.mech b).record.state ≠ .cleaning ∧
    (s.mech b).record.state ≠ .fault) (pulse : (s.mech b).record.pulsing = false) : ((s.enterReady b).mech b).Ok := by
  rw [mech_enterReady]
  exact ok.toWork (r := { (s.mech b).record with state := .ready, phase := .none }) rfl (.inl rfl) (fun _ => .inl nofun) pulse from_

theorem enterRaw_ok (ok : (s.mech b).Ok) (from_ : (s.mech b).record.state ≠ .spinning ∧ (s.mech b).record.state ≠ .cleaning ∧
    (s.mech b).record.state ≠ .fault) (pulse : (s.mech b).record.pulsing = false) : ((s.enterRaw b).mech b).Ok := by
  rw [mech_enterRaw]
  exact ok.toWork (r := { (s.mech b).record with state := .raw, phase := .none }) rfl (.inl rfl) (fun _ => .inl nofun) pulse from_

theorem trackingReport_ok (ok : (s.mech b).Ok) : ((s.trackingReport b).mech b).Ok := by
  cases h : (s.bay b).record.state with
  | loading =>
    have loading : (s.mech b).record.state = .loading := h
    have from_ : (s.mech b).record.state ≠ .spinning ∧ (s.mech b).record.state ≠ .cleaning ∧ (s.mech b).record.state ≠ .fault := by
      simp [loading]
    have pulse := ok.heads.notPulsing (.inl (by simp [loading]))
    cases k : (s.bay b).record.standing <;> simp only [trackingReport, h, k]
    · rw [mech_media, mech_modRecord]
      · exact ok.toWork (r := { (s.mech b).record with state := .mounting }) rfl
          (.inr (ok.heads.queueEmpty (by simp [BayRecord.mayHoldWrites, loading]))) (fun _ => .inl nofun) pulse from_
      · rfl
    · exact enterReady_ok ok from_ pulse
    · exact enterRaw_ok ok from_ pulse
  | cleaning =>
    simp only [trackingReport, h]
    exact sweepNext_ok ok
  | empty | inserted | spinning | mounting | ready | raw | parking | parked | ejecting | halted | fault =>
    simp only [trackingReport, h]
    exact ok

/-- The actuator reports POSITION LOST: a bay that stands on its disc ejects or enters FAULT (R14, R18). -/
theorem positionLost_ok (ok : (s.mech b).Ok) (run : (s.mech b).record.state = .cleaning → (s.mech b).spindle.state = .run) :
    ((s.positionLost b).mech b).Ok := by
  have report (from_ : (s.mech b).record.state ≠ .spinning ∧ (s.mech b).record.state ≠ .cleaning ∧
      (s.mech b).record.state ≠ .fault) : ((s.faultReport b .positionLost).mech b).Ok :=
    faultReport_ok ok (fun _ _ _ => ok.heads.notPending (.inr from_)) fun h => absurd rfl h
  cases h : (s.bay b).record.state with
  | loading | mounting | ready | raw | parking | ejecting =>
    simp only [positionLost, h]
    exact report (by rw [← record_eq_mech, h]; decide)
  | cleaning =>
    have cleans : (s.mech b).record.state = .cleaning := h
    simp only [positionLost, h]
    apply enterUnload_ok
    · simp only [mech_modRecord, mech_latch]
      exact ⟨ok.heads.seekLoaded, ok.engine.noOp (by simp [BayRecord.mediaWorks, cleans]),
        ok.heads.queueEmpty (by simp [BayRecord.mayHoldWrites, cleans]), ok.heads.notPulsing (.inl (by simp [cleans]))⟩
    · simp only [mech_modRecord, mech_latch]
      exact ok.heads.notPending (.inl (by simp [run cleans]))
  | empty | inserted | spinning | parked | halted | fault =>
    simp only [positionLost, h]
    exact ok

/-! ### The label -/

theorem labelVerdict_ok (ok : (s.mech b).Ok) (data : Option Sector) : ((s.labelVerdict b data).mech b).Ok := by
  unfold labelVerdict
  split
  · exact ok
  · rename_i mounting
    have mounting : (s.mech b).record.state = .mounting := Classical.not_not.1 mounting
    have pulse := ok.heads.notPulsing (.inl (by simp [mounting]))
    have from_ : (s.mech b).record.state ≠ .spinning ∧ (s.mech b).record.state ≠ .cleaning ∧ (s.mech b).record.state ≠ .fault := by
      simp [mounting]
    have standing (x : Standing) : ({ s.mech b with record := { (s.mech b).record with standing := x } } : Mechanism).Ok :=
      ok.sameRecord ⟨rfl, rfl, rfl⟩ rfl rfl .inl
    split
    · apply enterReady_ok <;> simp only [mech_modRecord, mech_modMap]
      · exact standing .labelled
      · exact from_
      · exact pulse
    · apply enterRaw_ok <;> simp only [latchLabelInvalid, mech_modLatches, mech_latch, mech_modRecord, mech_modMap]
      · exact standing .unlabelled
      · exact from_
      · exact pulse

/-- A save performed: the standing is LABELLED, and a RAW bay becomes READY (R12, R121). -/
theorem saveSucceeded_ok (ok : (s.mech b).Ok) : ((s.saveSucceeded b).mech b).Ok := by
  have saved : (((s.modMap b fun t => t.saved).modRecord b fun r => { r with standing := .labelled }).mech b).Ok := by
    rw [mech_modRecord, mech_modMap]
    exact ok.sameRecord (r := { (s.mech b).record with standing := .labelled }) ⟨rfl, rfl, rfl⟩ rfl rfl .inl
  unfold saveSucceeded
  dsimp only
  split
  · rename_i raw
    have raw : (((s.modMap b fun t => t.saved).modRecord b fun r => { r with standing := .labelled }).mech b).record.state = .raw :=
      raw
    exact enterReady_ok saved (by rw [raw]; decide) (saved.heads.notPulsing (.inl (by rw [raw]; decide)))
  · exact saved

/-- The outcome of a custody save takes a bay that waits for it on to UNLOAD: its queue is drained (R158). -/
theorem custodySaved_ok (ok : (s.mech b).Ok) (noOp : (s.mech b).op = none) (good : Bool) : ((s.custodySaved b good).mech b).Ok := by
  unfold custodySaved
  split
  · rename_i marker
    have ended (t : State) (same : t.mech b = { s.mech b with record := { (s.mech b).record with
        eject := (s.mech b).record.eject.map fun e => { e with saveMarker := false } } }) :
        ((if (t.bay b).record.state = .ejecting ∧ (t.bay b).record.phase = .drain then t.enterUnload b else t).mech b).Ok := by
      have state : (t.bay b).record.state = (s.mech b).record.state := by rw [record_eq_mech, same]
      have phase : (t.bay b).record.phase = (s.mech b).record.phase := by rw [record_eq_mech, same]
      split
      · rename_i drains
        rw [state, phase] at drains
        apply enterUnload_ok <;> rw [same]
        · exact ⟨ok.heads.seekLoaded, noOp, ok.heads.saveDrained drains.1 drains.2 marker,
            ok.heads.notPulsing (.inr (by simp [drains.2]))⟩
        · exact ok.heads.notPending (.inr (by simp [drains.1]))
      · rw [same]
        exact ok.sameRecord (r := { (s.mech b).record with
          eject := (s.mech b).record.eject.map fun e => { e with saveMarker := false } }) ⟨rfl, rfl, rfl⟩ rfl rfl fun h => by
            cases k : (s.mech b).record.eject <;> simp [k] at h
    cases good
    · exact ended _ (by simp)
    · exact ended _ (by simp)
  · exact ok

/-! ### The spindle's reports -/

theorem askLoad_ok (ok : (s.mech b).Ok) (wants : (s.mech b).record.wantsHeads = true) : ((s.askLoad b).mech b).Ok := by
  unfold askLoad
  split
  · rename_i ready
    rw [mech_request, mech_modAct]
    exact ok.askingLoad wants ready.2 1
  · exact ok

theorem runReport_ok (ok : (s.mech b).Ok) (run : (s.mech b).spindle.state = .run) : ((s.runReport b).mech b).Ok := by
  have wants {st : BayState} (h : (s.bay b).record.state = st) (w : ({ (s.bay b).record with state := st } : BayRecord).wantsHeads = true) :
      (s.mech b).record.wantsHeads = true := by
    subst h
    exact w
  cases h : (s.bay b).record.state with
  | spinning =>
    have spins : (s.mech b).record.state = .spinning := h
    have ease := ok.ease (by simp [BayRecord.allowsHeads, BayRecord.wantsHeads, spins])
      (ok.heads.notPulsing (.inl (by simp [spins])))
    simp only [runReport, h]
    apply askLoad_ok <;> rw [mech_modRecord]
    · refine (ease.with (r := { (s.mech b).record with state := .loading }) ease.pulse _).ok nofun fun p => ?_
      exact absurd ((ok.heads.notPending (.inl (by simp [run]))).symm.trans p) nofun
    · rfl
  | loading | mounting | ready | raw | cleaning =>
    simp only [runReport, h]
    exact askLoad_ok ok (wants h rfl)
  | parking =>
    simp only [runReport, h]
    split
    · rename_i drain
      exact askLoad_ok ok (wants h (by simp [BayRecord.wantsHeads, drain]))
    · exact ok
  | ejecting =>
    simp only [runReport, h]
    split
    · rename_i drain
      exact askLoad_ok ok (wants h (by simp [BayRecord.wantsHeads, drain]))
    · exact ok
  | empty | inserted | parked | halted | fault =>
    simp only [runReport, h]
    exact ok

/-- The answer to a speed loss stops a spindle whose heads are off, in a bay that holds nothing (R54). -/
theorem answerLoss_ok (ok : (s.mech b).Ok) (off : (s.mech b).act.state.loaded = false) (load : (s.mech b).act.loadAttempt = none) :
    ((s.answerLoss b).mech b).Ok := by
  have stop (works : (s.mech b).record.mediaWorks = false) (holds : (s.mech b).record.mayHoldWrites = false)
      (rel : (s.mech b).record.state ≠ .ejecting ∨ (s.mech b).record.phase ≠ .release) : ((s.stopSpindle b).mech b).Ok :=
    stopSpindle_ok (ok.easeOff off load works holds (ok.heads.notPulsing rel)) ok.heads.atRest ok.heads.stopping
  cases h : (s.bay b).record.state with
  | parking =>
    have parks : (s.mech b).record.state = .parking := h
    cases k : (s.bay b).record.parkStep <;> simp only [answerLoss, h, k]
    · exact ok
    · have step : (s.mech b).record.parkStep = .unload := k
      split
      · exact ok
      · exact stop (by simp [BayRecord.mediaWorks, parks, step]) (by simp [BayRecord.mayHoldWrites, parks, step])
          (.inl (by simp [parks]))
    · have step : (s.mech b).record.parkStep = .spindown := k
      exact stop (by simp [BayRecord.mediaWorks, parks, step]) (by simp [BayRecord.mayHoldWrites, parks, step])
        (.inl (by simp [parks]))
  | ejecting =>
    have ejects : (s.mech b).record.state = .ejecting := h
    simp only [answerLoss, h]
    split
    · rename_i phase
      have phase : (s.mech b).record.phase = .unload ∨ (s.mech b).record.phase = .spindown := phase
      refine stop ?_ ?_ (.inr ?_) <;> rcases phase with phase | phase <;>
        simp [BayRecord.mediaWorks, BayRecord.mayHoldWrites, ejects, phase]
    · exact ok
  | fault =>
    have faulty : (s.mech b).record.state = .fault := h
    simp only [answerLoss, h]
    split
    · exact ok
    · exact stop (by simp [BayRecord.mediaWorks, faulty]) (by simp [BayRecord.mayHoldWrites, faulty]) (.inl (by simp [faulty]))
  | empty | inserted | spinning | loading | mounting | ready | raw | cleaning | parked | halted =>
    simp only [answerLoss, h]
    exact ok

end State

end Sys2Proof.Machine
end

section
/-! SUPPORT. Supply loss, ejects, the operations of the engine and the moves of the actuator keep the rules of the mechanics (O59). -/

namespace Sys2Proof.Machine

namespace State

variable {s : State} {b : BayId}

/-! ### Supply loss and the spin-up -/

theorem startSpinning_ok (ease : (s.mech b).AtEase)
    (pend : (s.mech b).spindle.pendingSpinUp = true → (s.mech b).spindle.state = .stopping)
    {next : BayState} (spins : next = .spinning ∨ next = .cleaning) (unpended : s.budget.supply = .low →
      (s.mech b).spindle.pendingSpinUp = false) : ((s.startSpinning b next).mech b).Ok := by
  unfold startSpinning
  split
  · rename_i low
    rw [mech_modRecord]
    exact (ease.with (r := { (s.mech b).record with state := .halted, phase := .none }) ease.pulse _).ok nofun
      fun p => absurd ((unpended low).symm.trans p) nofun
  · apply spinUp_ok <;> rw [mech_modRecord]
    · exact ease.with (r := { (s.mech b).record with state := next, trips := 0, sweepOut := false }) ease.pulse _
    · exact spins
    · exact pend

theorem leaveHalted_ok (ok : (s.mech b).Ok) : ((s.leaveHalted b).mech b).Ok := by
  unfold leaveHalted
  dsimp only
  split
  · rename_i halted
    have halted : (s.mech b).record.state = .halted := halted
    have ease := ok.ease (by simp [BayRecord.allowsHeads, BayRecord.wantsHeads, halted])
      (ok.heads.notPulsing (.inl (by rw [halted]; decide)))
    split
    · exact enterSpindown_ok ease ok.heads.stopping
    · apply startSpinning_ok
      · rw [mech_modRecord]
        exact ⟨ease.heads, ease.load, ease.seek, ease.op, ease.drained, ease.pulse⟩
      · rw [mech_modRecord]
        exact ok.heads.stopping
      · split
        · exact .inr rfl
        · exact .inl rfl
      · rw [mech_modRecord]
        exact fun _ => ok.heads.notPending (.inr (by rw [halted]; decide))
  · exact ok

/-- What supply loss does to heads and spindle (R58, R91). -/
theorem mech_lost : ∃ a x, (((s.retract b).modSpindle b Spindle.loseSupply).mech b) = { s.mech b with act := a, spindle := x } ∧
    a.state = .unloaded ∧ a.loadAttempt = none ∧ a.seek = none ∧ x.pendingSpinUp = false ∧
    ((s.mech b).spindle.state = .off → x.state = .off) := by
  have retracted : ∃ a, (s.retract b).mech b = { s.mech b with act := a } ∧ a.state = .unloaded ∧ a.loadAttempt = none ∧
      a.seek = none := by
    unfold retract
    dsimp only
    split
    · exact ⟨_, by rw [mech_modAct, mech_signals], rfl, rfl, rfl⟩
    · exact ⟨_, by rw [mech_modAct, mech_signals, mech_modPins], rfl, rfl, rfl⟩
  obtain ⟨a, same, unloaded, load, seek⟩ := retracted
  refine ⟨a, (s.mech b).spindle.loseSupply, ?_, unloaded, load, seek, ?_, ?_⟩
  · rw [mech_modSpindle, same]
  · unfold Spindle.loseSupply
    dsimp only
    split <;> rfl
  · intro off
    simp [Spindle.loseSupply, off]

theorem loseSupplyIn_ok (ok : (s.mech b).Ok) : ((s.loseSupplyIn b).mech b).Ok := by
  obtain ⟨a, x, same, unloaded, load, seek, pend, off⟩ := mech_lost (s := s) (b := b)
  have ease (r : BayRecord) (pulse : r.pulsing = false) (d : Bool) (drained : d = true) :
      ({ record := r, spindle := x, act := a, op := none, drained := d } : Mechanism).AtEase :=
    ⟨by rw [unloaded]; rfl, load, seek, rfl, drained, pulse⟩
  have unpended (r : BayRecord) (d : Bool) : ({ record := r, spindle := x, act := a, op := none, drained := d } : Mechanism).PendOk :=
    fun p => absurd (pend.symm.trans p) nofun
  have record : (((s.retract b).modSpindle b Spindle.loseSupply).bay b).record = (s.mech b).record := by
    rw [record_eq_mech, same]
  unfold loseSupplyIn haltBay
  dsimp only
  rw [record]
  split
  · rename_i halts
    rw [mech_endSlot, mech_discard, mech_modRecord, mech_dropMedia, same]
    refine (ease _ ?_ true rfl).ok nofun (unpended _ _)
    refine ok.heads.notPulsing ?_
    cases h : (s.mech b).record.state <;> simp_all [BayRecord.halts]
    rcases halts with h | h | h <;> simp [h]
  · rename_i stays
    split
    · rename_i release
      rw [enterRelease, mech_request, mech_modRecord, mech_dropMedia, same]
      refine (ease _ rfl _ ?_).ok ?_ (unpended _ _)
      · exact ok.heads.queueEmpty (by simp [BayRecord.mayHoldWrites, release])
      · exact fun _ => off (ok.heads.atRest (by simp [BayRecord.discAtRest, release]))
    · rename_i notRelease
      rw [mech_dropMedia, same]
      refine (ease _ ?_ _ ?_).ok (fun h => off (ok.heads.atRest h)) (unpended _ _)
      · exact ok.heads.notPulsing (Classical.not_and_iff_not_or_not.1 notRelease)
      · refine ok.heads.queueEmpty ?_
        cases h : (s.mech b).record.state <;> simp_all [BayRecord.halts, BayRecord.mayHoldWrites]

/-! ### The eject sequence -/

theorem ejectSpinning_ok (ease : (s.mech b).AtEase)
    (pend : (s.mech b).spindle.pendingSpinUp = true → (s.mech b).spindle.state = .stopping)
    (spins : (s.mech b).record.state = .spinning ∨ (s.mech b).record.state = .cleaning) : ((s.ejectSpinning b).mech b).Ok := by
  unfold ejectSpinning
  split
  · rename_i waiting
    have waiting : (s.mech b).spindle.state = .waiting := waiting
    obtain ⟨x, same, unpended, off, -⟩ := mech_askStop (s := s) (b := b) pend
    have stopped : (s.stopSpindle b).mech b = { s.mech b with spindle := x } := by
      have quiet (t : State) (h : (t.mech b).record.state = .spinning ∨ (t.mech b).record.state = .cleaning) :
          t.stopConfirmed b false = t := by
        rcases h with h | h <;> simp only [stopConfirmed, record_eq_mech, h] <;> rfl
      unfold stopSpindle
      split <;> rename_i t h <;> rw [h] at same
      · rw [quiet t (by rw [same]; exact spins), same]
      · exact same
    apply enterRelease_ok <;> rw [stopped]
    · exact ease.with ease.pulse x
    · exact off (.inr waiting)
    · exact unpended
  · exact enterSpindown_ok ease pend

/-- An eject starts (R157). -/
theorem startEject_ok (ok : (s.mech b).Ok) (o : EjectOrigin)
    (faulty : (s.mech b).record.state = .fault → (s.mech b).record.cause ≠ .unloadFault) : ((s.startEject b o).mech b).Ok := by
  obtain ⟨t, begun⟩ : ∃ t : State, t = s.modRecord b fun r =>
    { r with eject := some { origin := o, pulse := 1, saveMarker := false }, resetPark := false } := ⟨_, rfl⟩
  have same : t.mech b = { s.mech b with record := { (s.mech b).record with
      eject := some { origin := o, pulse := 1, saveMarker := false }, resetPark := false } } := by rw [begun, mech_modRecord]
  have ok' : (t.mech b).Ok := by
    rw [same]
    exact ok.sameRecord ⟨rfl, rfl, rfl⟩ rfl rfl nofun
  have faulty : (t.mech b).record.state = .fault → (t.mech b).record.cause ≠ .unloadFault := by
    rw [same]
    exact faulty
  have marker : ((t.mech b).record.eject.any fun e => e.saveMarker) = false := by
    rw [same]
    rfl
  unfold startEject
  dsimp only
  rw [← begun]
  clear begun same ok
  have easy {st : BayState} (h : (t.bay b).record.state = st) (off : ({ (t.bay b).record with state := st } : BayRecord).allowsHeads = false)
      (ej : st ≠ .ejecting) : (t.mech b).AtEase := by
    subst h
    exact ok'.ease off (ok'.heads.notPulsing (.inl ej))
  have noPend {st : BayState} (h : (t.bay b).record.state = st) (not : st ≠ .spinning ∧ st ≠ .cleaning ∧ st ≠ .fault) :
      (t.mech b).spindle.pendingSpinUp = false := by
    subst h
    exact ok'.heads.notPending (.inr not)
  cases h : (t.bay b).record.state with
  | ready | raw =>
    dsimp only
    apply checkDrain_ok
    rw [mech_modRecord]
    refine ok'.toWork (r := { (t.mech b).record with state := .ejecting, phase := .drain }) rfl (.inl rfl) ?_
      (ok'.heads.notPulsing (.inl ?_)) ?_
    · exact fun e => absurd (marker.symm.trans e) nofun
    · rw [← record_eq_mech, h]; decide
    · rw [← record_eq_mech, h]; decide
  | inserted | parked =>
    dsimp only
    refine enterRelease_ok (easy h rfl (by decide)) (ok'.heads.atRest ?_) (noPend h (by decide))
    simp [BayRecord.discAtRest, ← record_eq_mech, h]
  | spinning =>
    dsimp only
    exact ejectSpinning_ok (easy h rfl (by decide)) ok'.heads.stopping (.inl h)
  | loading | mounting =>
    dsimp only
    apply enterUnload_ok <;> rw [mech_dropMedia]
    · refine ⟨ok'.heads.seekLoaded, rfl, ok'.heads.queueEmpty ?_, ok'.heads.notPulsing (.inl ?_)⟩
      · simp [BayRecord.mayHoldWrites, ← record_eq_mech, h]
      · rw [← record_eq_mech, h]; decide
    · exact noPend h (by decide)
  | cleaning =>
    have cleans : (t.mech b).record.state = .cleaning := h
    have leaving := ok'.leaving (by simp [BayRecord.mediaWorks, cleans]) (by simp [BayRecord.mayHoldWrites, cleans])
      (.inl (by rw [cleans]; decide))
    dsimp only
    split
    · rename_i turning
      have turning : (t.mech b).spindle.state = .waiting ∨ (t.mech b).spindle.state = .accel ∨ (t.mech b).spindle.state = .stopping :=
        turning
      have slow : (t.mech b).spindle.state ≠ .run := by rcases turning with k | k | k <;> rw [k] <;> decide
      have off := ok'.heads.headsOff (.inr slow)
      exact ejectSpinning_ok ⟨off, ok'.heads.noLoad (.inr slow), ok'.heads.noSeek off, leaving.op, leaving.drained, leaving.pulse⟩
        ok'.heads.stopping (.inr h)
    · rename_i fast
      exact enterUnload_ok leaving (ok'.heads.notPending (.inl fun k => fast (.inr (.inr k))))
  | halted =>
    dsimp only
    exact enterSpindown_ok (easy h rfl (by decide)) ok'.heads.stopping
  | fault =>
    have fault : (t.mech b).record.state = .fault := h
    have ease := easy h rfl (by decide)
    have pend : (t.mech b).spindle.pendingSpinUp = false := by
      refine Bool.eq_false_iff.2 fun p => ?_
      obtain ⟨-, spins | cleans | ⟨-, cause⟩⟩ := ok'.heads.spinPending p
      · exact absurd (fault.symm.trans spins) nofun
      · exact absurd (fault.symm.trans cleans) nofun
      · exact faulty fault cause
    have easy : ((t.modRecord b fun r => { r with cause := .none }).mech b).AtEase := by
      rw [mech_modRecord]
      exact ⟨ease.heads, ease.load, ease.seek, ease.op, ease.drained, ease.pulse⟩
    have pend : ((t.modRecord b fun r => { r with cause := .none }).mech b).spindle.pendingSpinUp = false := by rwa [mech_modRecord]
    dsimp only
    split
    · exact enterUnload_ok easy.leaving pend
    · split
      · exact enterSpindown_ok easy fun p => absurd (pend.symm.trans p) nofun
      · rename_i off
        exact enterRelease_ok easy (by rw [mech_modRecord]; exact Classical.not_not.1 off) pend
  | empty | parking | ejecting => exact ok'

end State

end Sys2Proof.Machine
end

section
/-! SUPPORT. The operations of the Media Engine keep the rules of the mechanics (O59). -/

namespace Sys2Proof.Machine

/-- The rules of heads, spindle and solenoid do not look at the operation in flight. -/
theorem Mechanism.HeadsOk.anyOp {m : Mechanism} (heads : m.HeadsOk) (o : Option MediaOp) : ({ m with op := o } : Mechanism).HeadsOk :=
  ⟨heads.headsOnRun, heads.headsAllowed, heads.loadWanted, heads.atRest, heads.spinPending, heads.queueEmpty, heads.saveDrained,
    heads.seekLoaded, heads.solenoid⟩

namespace State

variable {s : State} {b : BayId}

/-! ### Positioning -/

/-- An operation in flight is positioned: the heads stand on its sector, or it has a seek in hand, or asks again (R142). -/
theorem position_ok (heads : (s.mech b).HeadsOk) (seek : (s.mech b).act.seek = none) (works : (s.mech b).record.mediaWorks = true)
    (flight : (s.mech b).op.isSome = true) (op : MediaOp) : ((s.position b op).mech b).Ok := by
  unfold position
  dsimp only
  split
  · rename_i here
    rw [mech_modOp]
    exact heads.withOp seek works fun _ => here.2.1
  · unfold askSeek
    rw [mech_modOp]
    obtain ⟨o, flight⟩ := Option.isSome_iff_exists.1 flight
    rcases mech_seekNeed (s := s) (b := b) .media op.target.cylinder op.target.head with
      ⟨refused, same⟩ | ⟨taken, tracking, a, same, state, load, owner⟩ <;> rw [same]
    · refine heads.withOp seek works fun h => ?_
      rw [flight] at h
      cases k : (s.seekNeed b .media op.target.cylinder op.target.head).2 <;> simp [k, NeedAnswer.stage] at h
    · refine ⟨heads.moved (loaded_tracking tracking) ?_ (.inl load) _, fun _ => works, fun q hq => ?_, fun h => ?_⟩
      · rcases state with state | state <;> simp [state, ActuatorState.loaded]
      · rw [owner q hq]
        simp [Mechanism.Owns, flight, taken, NeedAnswer.stage]
      · simp [flight, taken, NeedAnswer.stage] at h

theorem beginOp_ok (heads : (s.mech b).HeadsOk) (seek : (s.mech b).act.seek = none) (works : (s.mech b).record.mediaWorks = true)
    (op : MediaOp) : ((s.beginOp b op).mech b).Ok := by
  apply position_ok <;> rw [mech_modMedia]
  · exact heads.anyOp _
  · exact seek
  · exact works
  · rfl

/-! ### The ends of operations -/

theorem endOp_ok (heads : (s.mech b).HeadsOk) (seek : (s.mech b).act.seek = none) : ((s.endOp b).mech b).Ok := by
  rw [mech_endOp]
  exact heads.idle seek

theorem readGood_ok (heads : (s.mech b).HeadsOk) (seek : (s.mech b).act.seek = none) (op : MediaOp) (d : Sector) :
    ((s.readGood b op d).mech b).Ok := by
  obtain ⟨t, counted, same⟩ : ∃ t : State, t = (if 0 < op.passes then s.raise b .softReadErrors 1 else s) ∧
      t.mech b = s.mech b := ⟨_, rfl, by split <;> simp⟩
  have ended : ((t.endOp b).mech b).Ok := endOp_ok (by rwa [same]) (by rwa [same])
  unfold readGood
  dsimp only
  rw [← counted]
  split
  · exact labelVerdict_ok ended _
  · split
    · exact checkDrain_ok ended
    · exact checkDrain_ok (by rwa [mech_completeRead, mech_stage])

theorem readBad_ok (heads : (s.mech b).HeadsOk) (seek : (s.mech b).act.seek = none) (op : MediaOp) (r : ResultStatus) :
    ((s.readBad b op r).mech b).Ok := by
  have ended := endOp_ok heads seek
  unfold readBad
  dsimp only
  split
  · exact labelVerdict_ok ended _
  · split
    · exact checkDrain_ok ended
    · exact checkDrain_ok (by rwa [mech_completeSlot])

/-- An operation with no seek in hand and the heads on the medium recalibrates and waits (R143). -/
theorem passFails_ok (heads : (s.mech b).HeadsOk) (seek : (s.mech b).act.seek = none) (tracking : (s.mech b).act.state = .tracking)
    (works : (s.mech b).record.mediaWorks = true) (op : MediaOp) : ((s.passFails b op).mech b).Ok := by
  unfold passFails
  dsimp only
  split
  · exact readBad_ok (by rwa [mech_raise]) (by rwa [mech_raise]) _ _
  · split
    · rw [mech_askRecal, mech_modOp]
      have moved := heads.moved
        (a := { (s.mech b).act with state := .recalibrating, cylinder := none, recal := .waiting, recalForLoad := false })
        (loaded_tracking tracking) rfl (.inl rfl)
        ((s.mech b).op.map fun o => { o with passes := op.passes + 1, stage := .awaitRecal })
      refine ⟨moved, fun _ => works, fun q hq => ?_, fun h => ?_⟩
      · exact absurd (seek.symm.trans hq) nofun
      · cases k : (s.mech b).op <;> simp [k] at h
    · rw [mech_modOp]
      exact heads.withOp seek works fun _ => tracking

@[simp] theorem mech_performWrite (op : MediaOp) : (s.performWrite b op).mech b = s.mech b := by
  unfold performWrite
  split
  · rw [mech_media]
    rfl
  · rfl

/-- A slot's part of an operation leaves the mechanics. -/
theorem mech_completeUnless (orphan : Bool) (r : ResultStatus) : (if orphan then s else s.completeSlot b r).mech b = s.mech b := by
  split <;> simp

theorem writeGood_ok (heads : (s.mech b).HeadsOk) (seek : (s.mech b).act.seek = none) (op : MediaOp) :
    ((s.writeGood b op).mech b).Ok := by
  have ended : (((s.performWrite b op).endOp b).mech b).Ok := endOp_ok (by rwa [mech_performWrite]) (by rwa [mech_performWrite])
  have noOp : ((((s.performWrite b op).endOp b).saveSucceeded b).mech b).op = none := by
    unfold saveSucceeded
    dsimp only
    split <;> simp
  unfold writeGood
  dsimp only
  split
  · split
    · rwa [mech_send]
    · exact ended
  · exact checkDrain_ok (custodySaved_ok (saveSucceeded_ok ended) noOp true)
  · exact checkDrain_ok (by rw [mech_completeUnless]; exact saveSucceeded_ok ended)
  · exact checkDrain_ok (by rwa [mech_completeUnless])

theorem saveFails_ok (ok : (s.mech b).Ok) (noOp : (s.mech b).op = none) (op : MediaOp) : ((s.saveFails b op).mech b).Ok := by
  unfold saveFails
  dsimp only
  split
  · exact custodySaved_ok (by simpa using ok) (by simpa using noOp) false
  · split
    · rwa [mech_raise]
    · rw [mech_media]
      · rwa [mech_raise]
      · rfl

@[simp] theorem mech_slotWriteFails (op : MediaOp) : (s.slotWriteFails b op).mech b = s.mech b := by
  unfold slotWriteFails
  dsimp only
  split
  · rw [mech_completeUnless, mech_raise, mech_raise]
  · split
    · exact mech_raise _ _ _ _
    · rw [mech_media, mech_raise]
      rfl

theorem writeBad_ok (heads : (s.mech b).HeadsOk) (seek : (s.mech b).act.seek = none) (op : MediaOp) :
    ((s.writeBad b op).mech b).Ok := by
  have ended := endOp_ok heads seek
  unfold writeBad
  dsimp only
  split
  · split
    · rwa [mech_send]
    · exact ended
  · exact checkDrain_ok (saveFails_ok ended (by rw [mech_endOp]) op)
  · exact checkDrain_ok (by rwa [mech_slotWriteFails])

/-! ### The reports of the actuator to the engine -/

theorem mediaSeekDone_ok (heads : (s.mech b).HeadsOk) (seek : (s.mech b).act.seek = none)
    (works : (s.mech b).op.isSome = true → (s.mech b).record.mediaWorks = true) (tracking : (s.mech b).act.state = .tracking) :
    ((s.mediaSeekDone b).mech b).Ok := by
  unfold mediaSeekDone
  split
  · rename_i o op
    have op : (s.mech b).op = some o := op
    split
    · exact checkDrain_ok (by rw [mech_completeUnless]; exact endOp_ok heads seek)
    · rw [mech_modOp]
      exact heads.withOp seek (works (by simp [op])) fun _ => tracking
  · rename_i op
    have none : s.mech b = { s.mech b with op := none } := by rw [← op, op_eq_mech]
    rw [none]
    exact heads.idle seek

theorem mediaSeekFault_ok (heads : (s.mech b).HeadsOk) (seek : (s.mech b).act.seek = none) : ((s.mediaSeekFault b).mech b).Ok := by
  unfold mediaSeekFault
  split
  · split
    · exact readBad_ok heads seek _ _
    · split
      · exact writeBad_ok heads seek _
      · exact checkDrain_ok (by rw [mech_completeUnless]; exact endOp_ok heads seek)
  · rename_i op
    have none : s.mech b = { s.mech b with op := none } := by rw [← op, op_eq_mech]
    rw [none]
    exact heads.idle seek

/-- The actuator, off its track, reports TRACK LOST: an operation on its sector waits or fails (R149). -/
theorem mediaTrackLost_ok (heads : (s.mech b).HeadsOk) (works : (s.mech b).op.isSome = true → (s.mech b).record.mediaWorks = true)
    (owner : ∀ q ∈ (s.mech b).act.seek, (s.mech b).Owns q.requester) : ((s.mediaTrackLost b).mech b).Ok := by
  unfold mediaTrackLost
  split
  · rename_i o op
    have op : (s.mech b).op = some o := op
    split
    · rename_i stage
      have seek : (s.mech b).act.seek = none := by
        cases k : (s.mech b).act.seek with
        | none => rfl
        | some q =>
          have owns := owner q k
          have working := works (by simp [op])
          cases r : q.requester <;> simp only [r, Mechanism.Owns] at owns
          · simp [op, stage] at owns
          · simp [BayRecord.mediaWorks, owns] at working
      split
      · rw [mech_modOp]
        exact heads.withOp seek (works (by simp [op])) (by simp [op])
      · exact writeBad_ok heads seek _
    · rename_i stage
      exact ⟨heads, works, owner, by simp [op, stage]⟩
  · rename_i op
    have op : (s.mech b).op = none := op
    exact ⟨heads, works, owner, by simp [op]⟩

/-- An operation that waits or asks again is positioned (R142, R143, R149). -/
theorem position_waiting_ok (ok : (s.mech b).Ok) {o : MediaOp} (op : (s.mech b).op = some o) (stage : o.stage ≠ .seeking) :
    ((s.position b o).mech b).Ok :=
  position_ok ok.heads (ok.engine.noSeek op stage) (ok.engine.opWorks (by simp [op])) (by simp [op]) o

theorem mediaTracking_ok (ok : (s.mech b).Ok) : ((s.mediaTracking b).mech b).Ok := by
  unfold mediaTracking
  dsimp only
  split
  · rwa [mech_media]
    rfl
  · split
    · rename_i o op
      split
      · rename_i waits
        exact position_waiting_ok ok op (by rcases waits with w | w <;> simp [w])
      · exact ok
    · exact ok

theorem mediaAskAgain_ok (ok : (s.mech b).Ok) : ((s.mediaAskAgain b).mech b).Ok := by
  unfold mediaAskAgain
  split
  · rename_i o op
    split
    · rename_i asks
      exact position_waiting_ok ok op (by simp [asks])
    · exact ok
  · exact ok

/-- A speed loss ends the operation in flight (R150). -/
@[simp] theorem mech_mediaSpeedLoss : (s.mediaSpeedLoss b).mech b = { s.mech b with op := none } := by
  have stalled : ((s.modMedia b fun m => { m with state := .stalled, op := none }).mech b) = { s.mech b with op := none } := by simp
  unfold mediaSpeedLoss
  dsimp only
  split
  · split
    · rw [mech_send, stalled]
    · rw [mech_media, stalled]
      rfl
    · split
      · exact stalled
      · rw [mech_media, stalled]
        rfl
    · exact stalled
  · exact stalled

/-! ### The choice -/

@[simp] theorem mech_buildLabel : (s.buildLabel b).mech b = s.mech b := by
  unfold buildLabel
  rw [mech_modMap, mech_media]
  rfl
@[simp] theorem mech_countSlotOp : (s.countSlotOp b).mech b = s.mech b := by
  unfold countSlotOp
  rw [mech_media]
  rfl

@[simp] theorem mech_serveFromQueue (first fuel : Nat) : (s.serveFromQueue b first fuel).mech b = s.mech b := by
  induction fuel generalizing s with
  | zero => rfl
  | succ fuel ih =>
    unfold serveFromQueue
    split
    · rw [ih, mech_stage]
    · rfl

/-- A drain write's entry becomes WRITING: the bay's items stay as many. -/
theorem mech_markWriting (e : WriteEntry) (c : BayId) :
    ({ s with queue := { s.queue with items := markWriting e s.queue.items } } : State).mech c = s.mech c := by
  have drained : (itemsOf c (markWriting e s.queue.items)).isEmpty = (itemsOf c s.queue.items).isEmpty := by
    induction s.queue.items with
    | nil => rfl
    | cons i rest ih =>
      unfold markWriting
      split
      · rename_i same
        subst same
        by_cases own : e.bay = c <;> simp [itemsOf, Item.bay, own]
      · by_cases own : i.bay = c
        · simp [itemsOf, own]
        · simpa [itemsOf, own] using ih
  cases c <;> simp [mech, WriteQueue.drained, drained]

theorem choose_ok (ok : (s.mech b).Ok) : ((s.choose b).mech b).Ok := by
  unfold choose
  split
  · rename_i may
    have may : (((s.bay b).media.state = .idle ∧ (s.bay b).act.state = .tracking) ∧ (s.bay b).act.seek = none) ∧
        (s.bay b).record.mediaWorks = true := by simpa [mayChoose] using may
    obtain ⟨⟨-, seek⟩, works⟩ := may
    have begins (t : State) (same : t.mech b = s.mech b) (op : MediaOp) : ((t.beginOp b op).mech b).Ok :=
      beginOp_ok (by rw [same]; exact ok.heads) (by rw [same]; exact seek) (by rw [same]; exact works) op
    split
    · unfold takeCustody
      dsimp only
      split
      · exact begins _ (mech_media _ _ rfl) _
      · exact begins _ ((mech_buildLabel ..).trans (mech_media _ _ rfl)) _
    · unfold takeDrain
      split
      · exact begins _ ((mech_media _ _ rfl).trans (mech_markWriting _ _)) _
      · exact ok
    · unfold takeSlot
      dsimp only
      split
      · split
        · exact checkDrain_ok (by simpa using ok)
        · exact begins _ (by simp) _
      · exact begins _ (by simp) _
      · exact begins _ (by simp) _
      · exact begins _ (by simp) _
      · exact begins _ (by simp) _
      · exact ok
      · exact ok
    · exact ok
  · exact ok

end State

end Sys2Proof.Machine
end

section
/-! SUPPORT. What the actuator, the spindle and the sensors do keeps the rules of the mechanics (O59). -/

namespace Sys2Proof.Machine

namespace Mechanism

variable {m : Mechanism}

/-- The heads, off the medium, come to the stop. -/
theorem Ok.onStop (ok : m.Ok) (off : m.act.state.loaded = false) {a : Actuator} (state : a.state = .unloaded)
    (load : a.loadAttempt = m.act.loadAttempt ∨ a.loadAttempt = none) (seek : a.seek = m.act.seek) :
    ({ m with act := a } : Mechanism).Ok := by
  have noSeek : a.seek = none := seek.trans (ok.heads.noSeek off)
  refine ⟨⟨?_, ?_, ?_, ok.heads.atRest, ok.heads.spinPending, ok.heads.queueEmpty, ok.heads.saveDrained, ?_, fun p => ?_⟩,
    ⟨ok.engine.opWorks, ?_, fun h => ?_⟩⟩
  · simp [state, ActuatorState.loaded]
  · simp [state, ActuatorState.loaded]
  · rcases load with load | load
    · simpa only [load] using ok.heads.loadWanted
    · simp [load]
  · simp [noSeek]
  · obtain ⟨ejecting, phase, -, spindle, drained⟩ := ok.heads.solenoid p
    exact ⟨ejecting, phase, state, spindle, drained⟩
  · simp [noSeek]
  · rw [ok.engine.sectorTracks h] at off
    exact absurd off (by decide)

/-- A spindle that is neither in RUN nor OFF goes over to another state, with no spin-up pending. -/
theorem Ok.respin (ok : m.Ok) (slow : m.spindle.state ≠ .run) (turning : m.spindle.state ≠ .off) {x : Spindle}
    (pend : x.pendingSpinUp = false) : ({ m with spindle := x } : Mechanism).Ok := by
  refine ⟨⟨fun h => absurd (ok.heads.headsOnRun h) slow, ok.heads.headsAllowed, fun h => absurd (ok.heads.loadWanted h).2 slow,
    fun h => absurd (ok.heads.atRest h) turning, fun p => absurd (pend.symm.trans p) nofun, ok.heads.queueEmpty,
    ok.heads.saveDrained, ok.heads.seekLoaded, fun p => ?_⟩, ⟨ok.engine.opWorks, ok.engine.seekOwner, ok.engine.sectorTracks⟩⟩
  obtain ⟨-, -, -, spindle, -⟩ := ok.heads.solenoid p
  exact absurd spindle turning

/-- A spindle that loses its speed, the heads taken off and the operation ended (R52, R54, R150). -/
theorem Ok.slowed (ok : m.Ok) (run : m.spindle.state = .run) {x : Spindle} {a : Actuator} (pend : x.pendingSpinUp = false)
    (off : a.state.loaded = false) (load : a.loadAttempt = none) (seek : a.seek = none) :
    ({ m with spindle := x, act := a, op := none } : Mechanism).Ok := by
  refine ⟨⟨?_, ?_, ?_, fun h => ?_, fun p => absurd (pend.symm.trans p) nofun, ok.heads.queueEmpty, ok.heads.saveDrained, ?_,
    fun p => ?_⟩, ⟨nofun, ?_, nofun⟩⟩
  · simp [off]
  · simp [off]
  · simp [load]
  · exact absurd (run.symm.trans (ok.heads.atRest h)) nofun
  · simp [seek]
  · obtain ⟨-, -, -, spindle, -⟩ := ok.heads.solenoid p
    exact absurd (run.symm.trans spindle) nofun
  · simp [seek]

end Mechanism

namespace State

variable {s : State} {b : BayId}

/-! ### Seeks -/

/-- The upshift test and the downshift test count; state, seek and load stay (R84, R85). -/
theorem mech_upshiftTest : ∃ a, (s.upshiftTest b).mech b = { s.mech b with act := a } ∧ a.state = (s.mech b).act.state ∧
    a.seek = (s.mech b).act.seek ∧ a.loadAttempt = (s.mech b).act.loadAttempt := by
  unfold upshiftTest
  dsimp only
  split
  · exact ⟨_, (mech_latch ..).trans (mech_modAct ..), rfl, rfl, rfl⟩
  · exact ⟨_, rfl, rfl, rfl, rfl⟩

theorem mech_downshiftTest : ∃ a, (s.downshiftTest b).mech b = { s.mech b with act := a } ∧ a.state = (s.mech b).act.state ∧
    a.seek = (s.mech b).act.seek ∧ a.loadAttempt = (s.mech b).act.loadAttempt := by
  unfold downshiftTest
  dsimp only
  split
  · split
    · exact ⟨_, (mech_latch ..).trans (mech_modAct ..), rfl, rfl, rfl⟩
    · exact ⟨_, mech_modAct .., rfl, rfl, rfl⟩
  · exact ⟨_, rfl, rfl, rfl, rfl⟩

/-- A seek that completes leaves the heads TRACKING, with no seek in hand (R84). -/
theorem mech_seekSucceeds (q : SeekInHand) : ∃ a, (s.seekSucceeds b q).mech b = { s.mech b with act := a } ∧
    a.state = .tracking ∧ a.seek = none ∧ a.loadAttempt = (s.mech b).act.loadAttempt := by
  obtain ⟨a, same, state, seek, load⟩ := mech_upshiftTest (b := b) (s := (s.releaseSeek b).modAct b fun x =>
    { x.endPlan .completed with
      state := .tracking, cylinder := some q.cylinder, head := q.head, seek := none, failures := 0
      upshiftRun := min 1024 (x.upshiftRun + 1) })
  rw [mech_modAct, mech_releaseSeek] at same state seek load
  exact ⟨a, same, state, seek, load⟩

/-- An attempt that fails leaves the heads RECALIBRATING, with the seek RETRYING (R85). -/
theorem mech_seekFails (q : SeekInHand) (o : PlanOutcome) : ∃ a, (s.seekFails b q o).mech b = { s.mech b with act := a } ∧
    a.state = .recalibrating ∧ a.seek = some { q with standing := .retrying } ∧ a.loadAttempt = (s.mech b).act.loadAttempt := by
  obtain ⟨t, failed, a, same, load⟩ : ∃ t : State, t = (((s.releaseSeek b).modAct b fun x => { x.endPlan o with cylinder := none }).raise
      b .seekRetries 1).modAct b (fun x => { x with failures := min 8 (x.failures + 1), upshiftRun := 0 }) ∧
      ∃ a, t.mech b = { s.mech b with act := a } ∧ a.loadAttempt = (s.mech b).act.loadAttempt :=
    ⟨_, rfl, { (s.mech b).act.endPlan o with cylinder := none, failures := min 8 ((s.mech b).act.failures + 1), upshiftRun := 0 },
      by rw [mech_modAct, mech_raise, mech_modAct, mech_releaseSeek]; rfl, rfl⟩
  obtain ⟨c, tested, -, -, kept⟩ := mech_downshiftTest (s := t) (b := b)
  rw [same] at tested kept
  unfold seekFails
  dsimp only
  rw [← failed]
  exact ⟨{ c with seek := some { q with standing := .retrying }, state := .recalibrating, cylinder := none, recal := .waiting,
                  recalForLoad := false }, by rw [mech_askRecal, mech_modAct, tested], rfl, rfl, kept.trans load⟩

theorem seekFails_ok (ok : (s.mech b).Ok) {q : SeekInHand} (seek : (s.mech b).act.seek = some q) (o : PlanOutcome) :
    ((s.seekFails b q o).mech b).Ok := by
  obtain ⟨a, same, state, retried, load⟩ := mech_seekFails (s := s) (b := b) q o
  rw [same]
  refine ok.seeking (ok.heads.seekLoaded (by simp [seek])) (by rw [state]; rfl) (.inl load) ?_
    fun h => absurd ((notAtSector ok seek).symm.trans h) nofun
  rw [retried]
  rintro _ ⟨⟩
  exact ok.engine.seekOwner q seek

/-- A seek in hand is dropped. -/
theorem dropSeek_ok (ok : (s.mech b).Ok) : ((s.modAct b fun x => { x with seek := none }).mech b).Ok := by
  rw [mech_modAct]
  exact ⟨⟨ok.heads.headsOnRun, ok.heads.headsAllowed, ok.heads.loadWanted, ok.heads.atRest, ok.heads.spinPending, ok.heads.queueEmpty,
    ok.heads.saveDrained, nofun, ok.heads.solenoid⟩, ⟨ok.engine.opWorks, nofun, ok.engine.sectorTracks⟩⟩

/-- A seek in hand is taken again, for its next attempt (R86). -/
theorem retake_ok (ok : (s.mech b).Ok) {q q' : SeekInHand} (seek : (s.mech b).act.seek = some q)
    (requester : q'.requester = q.requester) : ((s.takeSeek b q').mech b).Ok := by
  have loaded := ok.heads.seekLoaded (by simp [seek])
  rcases mech_takeSeek (s := s) (b := b) q' with same | ⟨a, p, same, state, load, taken, owner⟩ <;> rw [same]
  · exact ok
  · refine ok.seeking loaded ?_ (.inl load) ?_ fun h => absurd ((notAtSector ok seek).symm.trans h) nofun
    · rcases state with state | state <;> rw [state]
      · exact loaded
      · rfl
    · rw [taken]
      rintro _ ⟨⟩
      rw [owner, requester]
      exact ok.engine.seekOwner q seek

theorem retrySeek_ok (ok : (s.mech b).Ok) : ((s.retrySeek b).mech b).Ok := by
  unfold retrySeek
  split
  · rename_i q seek
    have seek : (s.mech b).act.seek = some q := seek
    split
    · split
      · split
        · exact retake_ok ok seek rfl
        · have dropped := dropSeek_ok ok
          exact mediaSeekFault_ok dropped.heads (by rw [mech_modAct])
      · refine sweepEnded_ok (dropSeek_ok ok) ?_
        rw [mech_modAct]
        exact ok.heads.headsOnRun (ok.heads.seekLoaded (by simp [seek]))
    · exact takeHeld_ok ok
  · exact ok

/-! ### Loads and unloads -/

/-- The report of an unload to the Bay Controller, whatever the bay's state (R11, R14, R89, R160). -/
theorem unloadedReport_off_ok (ok : (s.mech b).Ok) (off : (s.mech b).act.state.loaded = false)
    (load : (s.mech b).act.loadAttempt = none) : ((s.unloadedReport b).mech b).Ok := by
  have goesOn (works : (s.mech b).record.mediaWorks = false) (holds : (s.mech b).record.mayHoldWrites = false)
      (rel : (s.mech b).record.state ≠ .ejecting ∨ (s.mech b).record.phase ≠ .release) : ((s.unloadedReport b).mech b).Ok :=
    unloadedReport_ok (ok.easeOff off load works holds (ok.heads.notPulsing rel)) ok.heads.atRest ok.heads.spinPending
  cases h : (s.bay b).record.state with
  | ejecting =>
    have state : (s.mech b).record.state = .ejecting := h
    by_cases phase : (s.bay b).record.phase = .unload
    · have phase : (s.mech b).record.phase = .unload := phase
      exact goesOn (by simp [BayRecord.mediaWorks, state, phase]) (by simp [BayRecord.mayHoldWrites, state, phase])
        (.inr (by simp [phase]))
    · simp only [unloadedReport, h, if_neg phase]
      exact ok
  | parking =>
    have state : (s.mech b).record.state = .parking := h
    by_cases step : (s.bay b).record.parkStep = .unload
    · have step : (s.mech b).record.parkStep = .unload := step
      exact goesOn (by simp [BayRecord.mediaWorks, state, step]) (by simp [BayRecord.mayHoldWrites, state, step])
        (.inl (by simp [state]))
    · simp only [unloadedReport, h, if_neg step]
      exact ok
  | fault =>
    have state : (s.mech b).record.state = .fault := h
    exact goesOn (by simp [BayRecord.mediaWorks, state]) (by simp [BayRecord.mayHoldWrites, state]) (.inl (by simp [state]))
  | empty | inserted | spinning | loading | mounting | ready | raw | cleaning | parked | halted =>
    simp only [unloadedReport, h]
    exact ok

theorem answerSpindle_ok (ok : (s.mech b).Ok) : ((s.answerSpindle b).mech b).Ok := by
  unfold answerSpindle
  dsimp only
  split
  · rw [mech_request, mech_modSpindle]
    exact ok.sameSpindle rfl id
  · exact ok

theorem unloadEnded_ok (ok : (s.mech b).Ok) (off : (s.mech b).act.state.loaded = false) : ((s.unloadEnded b).mech b).Ok := by
  have noSeek := ok.heads.noSeek off
  unfold unloadEnded
  dsimp only
  split
  · rename_i n attempt
    have attempt : (s.mech b).act.loadAttempt = some n := attempt
    obtain ⟨wants, run⟩ := ok.heads.loadWanted (by simp [attempt])
    split
    · rw [mech_request, mech_modAct, mech_modAct]
      exact (ok.onStop off (a := { (s.mech b).act with state := .unloaded, unloadFailed := false, unloadMoving := false }) rfl
        (.inl rfl) rfl).askingLoad wants run 2
    · apply positionLost_ok <;> rw [mech_modAct, mech_modAct]
      · exact ok.onStop off rfl (.inr rfl) rfl
      · exact fun _ => run
  · rename_i attempt
    have attempt : (s.mech b).act.loadAttempt = none := attempt
    apply answerSpindle_ok
    apply unloadedReport_off_ok <;> rw [mech_modAct]
    · exact ok.onStop off rfl (.inl rfl) rfl
    · rfl
    · exact attempt

/-! ### Heat -/

theorem evaluateBay_ok (ok : (s.mech b).Ok) : ((s.evaluateBay b).mech b).Ok := by
  obtain ⟨t, stepped, same⟩ : ∃ t : State, t = (if ((s.bay b).heat.evaluate s.settings).offset ≠ (s.bay b).heat.offset
      then (s.modHeat b fun _ => (s.bay b).heat.evaluate s.settings).latch b .heatStep
      else s.modHeat b fun _ => (s.bay b).heat.evaluate s.settings) ∧ t.mech b = s.mech b :=
    ⟨_, rfl, by split <;> simp⟩
  unfold evaluateBay
  dsimp only
  rw [← stepped]
  split
  · rwa [same]
  · split
    · exact holdSeek_ok (by rwa [mech_latch, same])
    · exact takeHeld_ok (by rwa [mech_latch, same])

/-! ### Removals -/

/-- A cartridge removed in AWAIT REMOVAL (R163). -/
theorem removed_ok (ease : (s.mech b).AtEase) (off : (s.mech b).spindle.state = .off)
    (pend : (s.mech b).spindle.pendingSpinUp = false) : ((s.removed b).mech b).Ok := by
  unfold removed
  dsimp only
  split
  · exact becomeEmpty_ok (by rwa [mech_completeSlot, mech_latch]) (by rwa [mech_completeSlot, mech_latch])
      (by rwa [mech_completeSlot, mech_latch])
  · exact becomeEmpty_ok (by rwa [mech_latch]) (by rwa [mech_latch]) (by rwa [mech_latch])

/-- A bay in AWAIT REMOVAL is at ease, its spindle OFF, with no spin-up pending. -/
theorem awaiting_ease {m : Mechanism} (ok : m.Ok) (awaits : m.record.state = .ejecting ∧ m.record.phase = .awaitRemoval) :
    m.AtEase ∧ m.spindle.state = .off ∧ m.spindle.pendingSpinUp = false := by
  obtain ⟨state, phase⟩ := awaits
  exact ⟨ok.ease (by simp [BayRecord.allowsHeads, BayRecord.wantsHeads, state, phase]) (ok.heads.notPulsing (.inr (by simp [phase]))),
    ok.heads.atRest (by simp [BayRecord.discAtRest, state, phase]), ok.heads.notPending (.inr (by simp [state]))⟩

/-! ### The spindle -/

@[simp] theorem mech_reduceClaim (c : BayId) : (s.reduceClaim b).mech c = s.mech c := mech_putBudget _ _ _

theorem enterRun_ok (ok : (s.mech b).Ok) (slow : (s.mech b).spindle.state = .accel ∨ (s.mech b).spindle.state = .recover) :
    ((s.enterRun b).mech b).Ok := by
  have pend : (s.mech b).spindle.pendingSpinUp = false :=
    ok.heads.notPending (.inl (by rcases slow with h | h <;> simp [h]))
  unfold enterRun
  dsimp only
  apply runReport_ok <;> rw [mech_reduceClaim, mech_modSpindle, mech_freeIndex]
  · refine ok.respin ?_ ?_ pend <;> rcases slow with h | h <;> simp [h]
  · rfl

theorem speedLost_ok (ok : (s.mech b).Ok) (run : (s.mech b).spindle.state = .run) : ((s.speedLost b).mech b).Ok := by
  have pend : (s.mech b).spindle.pendingSpinUp = false := ok.heads.notPending (.inl (by simp [run]))
  obtain ⟨t, slow, same⟩ : ∃ t : State, t = (((s.modSpindle b fun x => { x with state := .recoverWait, recoverAsked := false }).release b
      .spindle).latch b .speedLoss) ∧ t.mech b = { s.mech b with
        spindle := { (s.mech b).spindle with state := .recoverWait, recoverAsked := false } } :=
    ⟨_, rfl, by rw [mech_latch, mech_release, mech_modSpindle]⟩
  obtain ⟨a, asked, off, load, seek⟩ := mech_askUnload (s := t) (b := b) (by rw [same]; exact ok.heads.seekLoaded)
  rw [same] at asked
  have ends (u : State) (x : Spindle) (unpended : x.pendingSpinUp = false)
      (h : u.mech b = { s.mech b with spindle := x, act := a }) : ((((u.mediaSpeedLoss b).answerLoss b).checkDrain b).mech b).Ok := by
    apply checkDrain_ok
    apply answerLoss_ok <;> rw [mech_mediaSpeedLoss, h]
    · exact ok.slowed run unpended off load seek
    · exact off
    · exact load
  unfold speedLost
  dsimp only
  rw [← slow]
  split <;> rename_i u h <;> rw [h] at asked
  · unfold answerSpindle
    dsimp only
    split
    · refine ends _ { (s.mech b).spindle with state := .recoverWait, recoverAsked := true } pend ?_
      rw [mech_request, mech_modSpindle, asked]
    · exact ends _ { (s.mech b).spindle with state := .recoverWait, recoverAsked := false } pend asked
  · exact ends _ { (s.mech b).spindle with state := .recoverWait, recoverAsked := false } pend asked

/-- The stop confirmed changes nothing in a bay that works, waits for writes, or releases its cartridge. -/
theorem stopConfirmed_busy (h : (s.mech b).record.mediaWorks = true ∨ (s.mech b).record.mayHoldWrites = true ∨
    ((s.mech b).record.state = .ejecting ∧ (s.mech b).record.phase = .release)) : s.stopConfirmed b false = s ∧
    ∀ e, s.stopConfirmed b e = s := by
  have all (e : Bool) : s.stopConfirmed b e = s := by
    unfold stopConfirmed
    dsimp only
    rw [record_eq_mech]
    cases k : (s.mech b).record.state <;> simp_all [BayRecord.mediaWorks, BayRecord.mayHoldWrites]
    rcases h with h | h <;> simp [h]
  exact ⟨all false, all⟩

end State

end Sys2Proof.Machine
end

section
/-! SUPPORT. The rules of the mechanics of both bays, and the operations on the Write Queue and the spindle (O59). -/

namespace Sys2Proof.Machine

namespace State

variable {s t : State} {b : BayId}

/-! ### Both bays -/

/-- The rules of the mechanics of both bays. -/
def BothOk (s : State) : Prop := ∀ b, (s.mech b).Ok

/-- What comes of a command is a state that keeps the rules of both bays. -/
def EndsOk (o : Host.Outcome State Fault Refusal) : Prop := ∃ t : State, o = .next t ∧ t.BothOk

theorem BothOk.next (ok : t.BothOk) : EndsOk (.next t) := ⟨t, rfl, ok⟩

theorem BothOk.same (ok : s.BothOk) (same : ∀ c, t.mech c = s.mech c) : t.BothOk := fun c => (same c) ▸ ok c

/-- What stays within one bay, and keeps its rules, keeps the rules of both. -/
theorem BothOk.only (ok : s.BothOk) (within : State.Within b s t) (own : (t.mech b).Ok) : t.BothOk := by
  intro c
  rcases b.eq_or_other c with rfl | rfl
  · exact own
  · exact mech_other within ▸ ok _

/-- What stays within one bay, and leaves its mechanics. -/
theorem BothOk.leaves (ok : s.BothOk) (within : State.Within b s t) (own : t.mech b = s.mech b) : t.BothOk :=
  ok.only within (own ▸ ok b)

/-! ### What stays within a bay -/

@[simp] theorem within_retrySeek : State.Within b s (t.retrySeek b) ↔ State.Within b s t := by
  simp only [retrySeek]; (repeat' split) <;> simp
@[simp] theorem within_unloadEnded : State.Within b s (t.unloadEnded b) ↔ State.Within b s t := by
  simp only [unloadEnded]; (repeat' split) <;> simp
@[simp] theorem within_evaluateBay : State.Within b s (t.evaluateBay b) ↔ State.Within b s t := by
  simp only [evaluateBay]; (repeat' split) <;> simp
@[simp] theorem within_removed : State.Within b s (t.removed b) ↔ State.Within b s t := by
  simp only [removed]; (repeat' split) <;> simp
@[simp] theorem within_loseSupplyIn : State.Within b s (t.loseSupplyIn b) ↔ State.Within b s t := by
  simp [loseSupplyIn]
@[simp] theorem within_spindleStopped : State.Within b s (t.spindleStopped b) ↔ State.Within b s t := by
  simp only [spindleStopped]; (repeat' split) <;> simp
@[simp] theorem within_resetBay : State.Within b s (t.resetBay b) ↔ State.Within b s t := by
  simp [resetBay]
@[simp] theorem within_abortEject : State.Within b s (t.abortEject b) ↔ State.Within b s t := by
  simp only [abortEject]; (repeat' split) <;> simp
@[simp] theorem within_speedLost : State.Within b s (t.speedLost b) ↔ State.Within b s t := by
  have asked := State.within_askUnload (b := b) s (((t.modSpindle b fun x => { x with state := .recoverWait, recoverAsked := false }).release b
      .spindle).latch b .speedLoss)
  simp only [speedLost]
  split <;> rename_i u h <;> rw [h] at asked <;> simpa using asked

/-- Items of one bay alone change. -/
theorem within_removeEntry (n : Nat) : State.Within b s (t.removeEntry b n) ↔ State.Within b s t := by
  rw [removeEntry, State.within_markTest, State.within_items]
  exact WriteQueue.itemsOf_removeWriting_other (by simp) n _

theorem itemsOf_changeWriting_other {c : BayId} (other : c ≠ b) (n attempts : Nat) (l : List Item) :
    itemsOf c (changeWriting b n (fun e => { e with writing := false, attempts }) l) = itemsOf c l := by
  obtain ⟨h, changes, leaves, eq⟩ := WriteQueue.changeWriting_changes b n attempts
  rw [eq, changes.itemsOf_map]
  refine (List.map_congr_left fun i hi => leaves i fun own => ?_).trans (List.map_id _)
  exact other (by simpa [itemsOf, own, eq_comm] using (List.mem_filter.1 hi).2)

theorem within_requeue (n attempts : Nat) : State.Within b s (t.requeue b n attempts) ↔ State.Within b s t := by
  rw [requeue, State.within_items]
  exact itemsOf_changeWriting_other (by simp) n attempts _

theorem within_entryFails (e : WriteEntry) : State.Within b s (t.entryFails b e) ↔ State.Within b s t := by
  simp only [entryFails]
  (repeat' split) <;> simp [within_removeEntry, within_requeue]

/-! ### The Write Queue -/

/-- A bay's mechanics look at its blocks and at whether it has items. -/
theorem mech_drained (bay : t.bay b = s.bay b) : t.mech b = { s.mech b with drained := t.queue.drained b } := by
  simp [mech, bay]

/-- Items that only change in place stay as many. -/
theorem drained_map {h : Item → Item} {g : WriteEntry → WriteEntry} (c : ChangesItems h g) (l : List Item) (b : BayId) :
    (itemsOf b (l.map h)).isEmpty = (itemsOf b l).isEmpty := by
  rw [c.itemsOf_map, List.isEmpty_map]

/-- A bay without items gets none by the mark test. -/
theorem mech_markTest : ∃ d, (s.markTest b).mech b = { s.mech b with drained := d } ∧ ((s.mech b).drained = true → d = true) := by
  have tested : ∃ t : State, t = { s with queue := { s.queue with items := (dropMarks b s.queue.items).1 } } ∧
      t.mech b = { s.mech b with drained := (itemsOf b (dropMarks b s.queue.items).1).isEmpty } :=
    ⟨_, rfl, by cases b <;> rfl⟩
  obtain ⟨t, is, same⟩ := tested
  refine ⟨(itemsOf b (dropMarks b s.queue.items).1).isEmpty, ?_, fun drained => ?_⟩
  · unfold markTest
    dsimp only
    rw [← is]
    split
    · rw [mech_completeSlot, same]
    · exact same
  · have none : itemsOf b s.queue.items = [] := List.isEmpty_iff.1 drained
    rw [itemsOf_dropMarks_own, none]
    rfl

theorem removeEntry_ok (ok : (s.mech b).Ok) (n : Nat) : ((s.removeEntry b n).mech b).Ok := by
  obtain ⟨d, same, kept⟩ := mech_markTest (b := b) (s := { s with queue := { s.queue with items := removeWriting b n s.queue.items } })
  have removed : ({ s with queue := { s.queue with items := removeWriting b n s.queue.items } } : State).mech b =
      { s.mech b with drained := (itemsOf b (removeWriting b n s.queue.items)).isEmpty } := by cases b <;> rfl
  rw [removeEntry, same, removed]
  rw [removed] at kept
  refine (ok.emptied _ fun drained => ?_).emptied d kept
  have none : itemsOf b s.queue.items = [] := List.isEmpty_iff.1 drained
  rw [List.isEmpty_iff, ← List.sublist_nil, ← none]
  exact List.filter_sublist.filter _

theorem requeue_ok (ok : (s.mech b).Ok) (n attempts : Nat) : ((s.requeue b n attempts).mech b).Ok := by
  obtain ⟨h, changes, -, eq⟩ := WriteQueue.changeWriting_changes b n attempts
  have same : (s.requeue b n attempts).mech b = s.mech b := by
    have drained : (s.requeue b n attempts).queue.drained b = s.queue.drained b := by
      rw [WriteQueue.drained, requeue, eq, drained_map changes]
      rfl
    rw [mech_drained (s := s) (by cases b <;> rfl), drained]
    rfl
  rwa [same]

theorem entryFails_ok (ok : (s.mech b).Ok) (e : WriteEntry) : ((s.entryFails b e).mech b).Ok := by
  unfold entryFails
  dsimp only
  split
  · exact removeEntry_ok (by rwa [mech_raise]) _
  · split
    · exact removeEntry_ok (by rwa [mech_latch, mech_appendFault, mech_raise, mech_raise]) _
    · exact requeue_ok (by rwa [mech_raise]) _ _

/-- An operation whose request is dropped keeps its stage (R151, R159). -/
theorem orphanOp_ok (ok : (s.mech b).Ok) (p : OpKind → Bool) : ((s.orphanOp b p).mech b).Ok := by
  have stage (o : MediaOp) : (if p o.kind then { o with orphan := true } else o : MediaOp).stage = o.stage := by split <;> rfl
  rw [orphanOp, mech_modOp]
  refine ⟨⟨ok.heads.headsOnRun, ok.heads.headsAllowed, ok.heads.loadWanted, ok.heads.atRest, ok.heads.spinPending,
    ok.heads.queueEmpty, ok.heads.saveDrained, ok.heads.seekLoaded, ok.heads.solenoid⟩, ⟨?_, ?_, ?_⟩⟩
  · simpa using ok.engine.opWorks
  · intro q hq
    have owns := ok.engine.seekOwner q hq
    cases r : q.requester <;> simp only [r, Mechanism.Owns] at owns ⊢
    · simpa [Option.any_map, stage] using owns
    · exact owns
  · simpa [Option.any_map, stage] using ok.engine.sectorTracks

/-- A bay that returns to READY or RAW from an eject in DRAIN (R159). -/
theorem abortEject_ok (ok : (s.mech b).Ok) (drains : (s.bay b).record.state = .ejecting ∧ (s.bay b).record.phase = .drain) :
    ((s.abortEject b).mech b).Ok := by
  have state : (s.mech b).record.state = .ejecting := drains.1
  have phase : (s.mech b).record.phase = .drain := drains.2
  obtain ⟨t, cleared, same⟩ : ∃ t : State, t = (((s.freeSlot b).modRecord b fun r => { r with eject := none }).modMedia b
      fun m => { m with custody := none, saveFailures := 0 }) ∧ t.mech b =
        { s.mech b with record := { (s.mech b).record with eject := none } } :=
    ⟨_, rfl, by rw [mech_media _ _ (by rfl), mech_modRecord, mech_freeSlot]⟩
  have ok' : (t.mech b).Ok := by
    rw [same]
    exact ok.sameRecord ⟨rfl, rfl, rfl⟩ rfl rfl nofun
  have record (p : OpKind → Bool) : ((t.orphanOp b p).mech b).record = { (s.mech b).record with eject := none } := by
    rw [orphanOp, mech_modOp, same]
  unfold abortEject
  dsimp only
  rw [← cleared]
  split
  · exact enterReady_ok (orphanOp_ok ok' _) (by rw [record]; simp [state])
      (by rw [record]; exact ok.heads.notPulsing (.inr (by simp [phase])))
  · exact enterRaw_ok (orphanOp_ok ok' _) (by rw [record]; simp [state])
      (by rw [record]; exact ok.heads.notPulsing (.inr (by simp [phase])))

/-! ### The spindle -/

theorem spindleStopped_ok (ok : (s.mech b).Ok) (stopping : (s.mech b).spindle.state = .stopping) :
    ((s.spindleStopped b).mech b).Ok := by
  have slow : (s.mech b).spindle.state ≠ .run := by simp [stopping]
  have turning : (s.mech b).spindle.state ≠ .off := by simp [stopping]
  have stopped (t : State) (x : Spindle) (e : Bool) (same : t.mech b = { s.mech b with spindle := x }) (pend : x.pendingSpinUp = false)
      (off : x.state = .off ∨ (s.mech b).record.state = .spinning ∨ (s.mech b).record.state = .cleaning ∨
        ((s.mech b).record.state = .fault ∧ (s.mech b).record.cause = .unloadFault)) : ((t.stopConfirmed b e).mech b).Ok := by
    have ok' : (t.mech b).Ok := by rw [same]; exact ok.respin slow turning pend
    by_cases busy : (t.mech b).record.mediaWorks = true ∨ (t.mech b).record.mayHoldWrites = true ∨
        ((t.mech b).record.state = .ejecting ∧ (t.mech b).record.phase = .release)
    · rw [(stopConfirmed_busy busy).2 e]
      exact ok'
    · obtain ⟨works, holds, rel⟩ := not_or.1 busy |>.imp id not_or.1
      refine stopConfirmed_ok (ok'.easeOff ?_ ?_ (Bool.eq_false_iff.2 works) (Bool.eq_false_iff.2 holds)
        (ok'.heads.notPulsing (Classical.not_and_iff_not_or_not.1 rel))) ?_ ?_ e
      · rw [same]; exact ok.heads.headsOff (.inr slow)
      · rw [same]; exact ok.heads.noLoad (.inr slow)
      · rw [same]; exact pend
      · rw [same]; exact off
  unfold spindleStopped
  dsimp only
  split
  · rename_i pending
    refine stopped _ { (s.mech b).spindle with state := .waiting, count := 2, attemptEnd := false, pendingSpinUp := false } _ ?_ rfl
      (.inr (ok.heads.spinPending pending).2)
    rw [mech_request, mech_modSpindle, mech_modSpindle]
  · refine stopped _ { (s.mech b).spindle with state := .off, count := 2, attemptEnd := false, pendingSpinUp := false } _ ?_ rfl
      (.inl rfl)
    rw [mech_modSpindle]

theorem counting_ok (ok : (s.mech b).Ok) (n : Nat) (stall : Bool) : ((s.modSpindle b fun x => x.counting n stall).mech b).Ok := by
  rw [mech_modSpindle]
  exact ok.sameSpindle rfl id

theorem endAttempt_ok (ok : (s.mech b).Ok) (accel : (s.mech b).spindle.state = .accel) : ((s.endAttempt b).mech b).Ok := by
  rw [endAttempt, mech_release, mech_modSpindle]
  exact ok.respin (by simp [accel]) (by simp [accel]) (ok.heads.notPending (.inl (by simp [accel])))

end State

end Sys2Proof.Machine
end

section
/-! PROOFS. The messages and the link keep the rules of the mechanics of both bays (O59). -/

namespace Sys2Proof.Machine

namespace State.BothOk

variable {s t : State} {b : BayId}

/-! ### Messages -/

theorem respond (ok : s.BothOk) (code field : Byte) (r : ReplyStatus) (body : List Byte) : (s.respond code field r body).BothOk :=
  ok.same fun _ => mech_respond ..

theorem takeMessage (ok : s.BothOk) {act : State → State} (acts : ∀ {u : State}, u.BothOk → (act u).BothOk) :
    (s.takeMessage act).BothOk := by
  unfold State.takeMessage
  split
  · exact acts (ok.same fun c => by cases c <;> rfl)
  · exact ok

theorem toBay (ok : s.BothOk) (code field : Byte) {act : State → BayId → State} (acts : ∀ b, (act s b).BothOk) :
    (s.toBay code field act).BothOk := by
  unfold State.toBay
  split
  · exact acts _
  · exact ok.respond _ _ _ _

theorem forBay (ok : s.BothOk) (code field : Byte) {act : State → BayId → State}
    (acts : ∀ {u : State} b, u.BothOk → (act u b).BothOk) : (s.forBay code field act).BothOk :=
  ok.takeMessage fun taken => taken.toBay code field fun b => acts b taken

theorem forBayCounted (ok : s.BothOk) (code field count : Byte) {act : State → BayId → State}
    (acts : ∀ {u : State} b, u.BothOk → (act u b).BothOk) : (s.forBayCounted code field count act).BothOk :=
  ok.takeMessage fun taken => by
    split
    · exact taken.toBay code field fun b => acts b taken
    · exact taken.respond _ _ _ _

theorem forUnit (ok : s.BothOk) (code field : Byte) {act : State → State} (acts : ∀ {u : State}, u.BothOk → (act u).BothOk) :
    (s.forUnit code field act).BothOk :=
  ok.takeMessage fun taken => by
    split
    · exact acts taken
    · exact taken.respond _ _ _ _

theorem mapReply (ok : s.BothOk) (code field : Byte) (r : ReplyStatus) (answer : List Byte) :
    (s.mapReply code field b r answer).BothOk := ok.respond _ _ _ _

theorem mapMessage (ok : s.BothOk) (code field : Byte) (index block spare : Option Nat) {act : State → BayId → State}
    (acts : ∀ {u : State} b, u.BothOk → (act u b).BothOk) : (s.mapMessage code field index block spare act).BothOk := by
  refine ok.forBay code field fun {u} b taken => ?_
  split
  · exact taken.respond _ _ _ _
  · split
    · exact taken.respond _ _ _ _
    · exact acts b taken

theorem accept (ok : s.BothOk) (code field : Byte) (r : LongRequest) : (s.accept code field b r).BothOk :=
  (ok.leaves (by simp) (mech_occupySlot s b r)).respond _ _ _ _

theorem modMap (ok : s.BothOk) (f : RemapTable → RemapTable) : (s.modMap b f).BothOk := ok.leaves (by simp) (mech_modMap ..)

/-- A change of a bay's record alone. -/
theorem modRecord (ok : s.BothOk) {f : BayRecord → BayRecord}
    (own : ({ s.mech b with record := f (s.mech b).record } : Mechanism).Ok) : (s.modRecord b f).BothOk :=
  ok.only (b := b) (by simp) (by rwa [mech_modRecord])

/-- In READY the bay's items may change as they will. -/
theorem queued (ok : s.BothOk) (ready : (s.bay b).record.state = .ready) (bays : ∀ c, t.bay c = s.bay c)
    (other : itemsOf b.other t.queue.items = itemsOf b.other s.queue.items) : t.BothOk := by
  intro c
  rw [mech_drained (bays c)]
  rcases b.eq_or_other c with rfl | rfl
  · exact (ok c).ready ready _
  · rw [WriteQueue.drained, other]
    exact ok _

end State.BothOk

/-- An item that joins the list is its own bay's. -/
theorem itemsOf_append_other {b : BayId} (l : List Item) {i : Item} (own : i.bay = b) :
    itemsOf b.other (l ++ [i]) = itemsOf b.other l := by
  subst own
  simp [itemsOf]

theorem BayState.ready_of_refusesData {x : BayState} (h : x.refusesData = none) : x = .ready := by
  cases x <;> simp_all [BayState.refusesData]

/-! ### The commands -/

section
variable {s : State} (ok : s.BothOk)
include ok

theorem execStart_ends (bay : Byte) : State.EndsOk (execStart bay s) := by
  refine (ok.forBay _ _ fun {u} b ok => ?_).next
  have starts (state : (u.bay b).record.state = .inserted ∨ (u.bay b).record.state = .parked) :
      ((u.modRecord b fun r => { r with attempts := 0 }).startSpinning b .spinning).BothOk := by
    have state : (u.mech b).record.state = .inserted ∨ (u.mech b).record.state = .parked := state
    have off : (u.mech b).record.allowsHeads = false := by
      rcases state with h | h <;> simp [BayRecord.allowsHeads, BayRecord.wantsHeads, h]
    have pulse := (ok b).heads.notPulsing (.inl (by rcases state with h | h <;> simp [h]))
    have pend := (ok b).heads.notPending (.inr (by rcases state with h | h <;> simp [h]))
    have unpended : ((u.modRecord b fun r => { r with attempts := 0 }).mech b).spindle.pendingSpinUp = false := by
      rw [State.mech_modRecord]
      exact pend
    refine ok.only (by simp) (State.startSpinning_ok ?_ (fun p => absurd (unpended.symm.trans p) nofun) (.inl rfl) fun _ => unpended)
    rw [State.mech_modRecord]
    exact ((ok b).ease off pulse).with (r := { (u.mech b).record with attempts := 0 }) pulse _
  split
  · exact (starts (.inl ‹_›)).respond _ _ _ _
  · exact (starts (.inr ‹_›)).respond _ _ _ _
  all_goals exact ok.respond _ _ _ _

theorem execStop_ends (bay : Byte) : State.EndsOk (execStop bay s) := by
  refine (ok.forBay _ _ fun {u} b ok => ?_).next
  have parks (state : (u.bay b).record.state = .ready ∨ (u.bay b).record.state = .raw) :
      ((u.modRecord b fun r => { r with state := .parking, parkStep := .drain }).checkDrain b).BothOk := by
    have state : (u.mech b).record.state = .ready ∨ (u.mech b).record.state = .raw := state
    refine ok.only (by simp) (State.checkDrain_ok ?_)
    rw [State.mech_modRecord]
    refine (ok b).toWork (r := { (u.mech b).record with state := .parking, parkStep := .drain }) rfl (.inl rfl) (fun _ => .inl nofun)
      ((ok b).heads.notPulsing (.inl ?_)) ?_ <;> rcases state with h | h <;> simp [h]
  split
  · exact (parks (.inl ‹_›)).respond _ _ _ _
  · exact (parks (.inr ‹_›)).respond _ _ _ _
  all_goals exact ok.respond _ _ _ _

theorem execLock_ends (bay : Byte) : State.EndsOk (execLock bay s) := by
  refine (ok.forBay _ _ fun {u} b ok => ?_).next
  split
  · exact (ok.modRecord ((ok b).sameRecord ⟨rfl, rfl, rfl⟩ rfl rfl .inl)).respond _ _ _ _
  · exact ok.respond _ _ _ _

theorem execUnlock_ends (bay : Byte) : State.EndsOk (execUnlock bay s) := by
  refine (ok.forBay _ _ fun {u} b ok => ?_).next
  split
  · exact (ok.modRecord ((ok b).sameRecord ⟨rfl, rfl, rfl⟩ rfl rfl .inl)).respond _ _ _ _
  · exact ok.respond _ _ _ _

theorem execOrder_ends (bay : Byte) : State.EndsOk (execOrder bay s) := by
  refine (ok.forBay _ _ fun {u} b ok => ?_).next
  split
  · exact ok.respond _ _ _ _
  · rename_i accepted
    have ready := BayState.ready_of_refusesData accepted
    have ordered : ({ u with queue := (u.queue.order b).1 } : State).BothOk := by
      refine ok.queued ready (fun c => by cases c <;> rfl) ?_
      rcases u.queue.order_cases b with same | ⟨-, same⟩
      · exact congrArg (fun q : WriteQueue => itemsOf b.other q.items) same
      · rw [same]
        exact itemsOf_append_other _ rfl
    split <;> rename_i h
    · rw [h] at ordered
      exact ordered.respond _ _ _ _
    · exact ok.respond _ _ _ _

theorem execWrite_ends (bay : Byte) (block : BitVec 16) (data : Sector) : State.EndsOk (execWrite bay block data s) := by
  refine (ok.forBay _ _ fun {u} b ok => ?_).next
  split
  · exact ok.respond _ _ _ _
  · rename_i accepted
    have ready := BayState.ready_of_refusesData accepted
    have placed : ({ u with queue := (u.queue.place b block.toNat data).1 } : State).BothOk := by
      refine ok.queued ready (fun c => by cases c <;> rfl) ?_
      rcases u.queue.place_cases b block.toNat data with ⟨e, -, same⟩ | ⟨i, -, -, same⟩ | ⟨-, -, same⟩ <;> rw [same]
      · rfl
      · exact itemsOf_append_other _ rfl
    split
    · split <;> rename_i h
      · rw [h] at placed
        exact placed.respond _ _ _ _
      · rw [h] at placed
        exact placed.respond _ _ _ _
      · exact ok.respond _ _ _ _
    · exact ok.respond _ _ _ _

theorem execResult_ends (bay : Byte) : State.EndsOk (execResult bay s) := by
  refine (ok.forBay _ _ fun {u} b ok => ?_).next
  dsimp only
  split
  · exact ok.respond _ _ _ _
  · exact ok.respond _ _ _ _
  · split
    · split
      · exact (ok.respond _ _ _ _).leaves (by simp) (State.mech_freeSlot ..)
      · exact (ok.respond _ _ _ _).leaves (by simp) (State.mech_modSlot ..)
    · exact (ok.respond _ _ _ _).leaves (by simp) (State.mech_freeSlot ..)

theorem execAbort_ends (bay : Byte) : State.EndsOk (execAbort bay s) := by
  refine (ok.forBay _ _ fun {u} b ok => ?_).next
  split
  · exact ok.respond _ _ _ _
  · exact (ok.leaves (by simp) (State.mech_freeSlot u b)).respond _ _ _ _
  · split
    · split
      · rename_i drains
        exact (ok.only (by simp) (State.abortEject_ok (ok b) drains)).respond _ _ _ _
      · exact ok.respond _ _ _ _
    · have ordered : ({ u with queue := { u.queue with items := flushToOrder b u.queue.items } } : State).BothOk := by
        refine ok.same fun c => ?_
        have bays : ({ u with queue := { u.queue with items := flushToOrder b u.queue.items } } : State).bay c = u.bay c := by
          cases c <;> rfl
        have drained : (itemsOf c (flushToOrder b u.queue.items)).isEmpty = u.queue.drained c :=
          State.drained_map (WriteQueue.flushToOrder_changes b) _ c
        rw [State.mech_drained bays, WriteQueue.drained, drained]
        rfl
      exact (ordered.leaves (by simp) (State.mech_freeSlot ..)).respond _ _ _ _
    · refine (ok.only (b := b) (by simp) (State.checkDrain_ok ?_)).respond _ _ _ _
      rw [State.mech_freeSlot]
      exact State.orphanOp_ok (ok b) _

theorem execMapProbe_ends (bay : Byte) (block : BitVec 16) : State.EndsOk (execMapProbe bay block s) := by
  refine (ok.mapMessage _ _ _ _ _ fun {u} b ok => ?_).next
  split <;> exact ok.mapReply _ _ _ _

theorem execMapRead_ends (bay index : Byte) : State.EndsOk (execMapRead bay index s) := by
  refine (ok.mapMessage _ _ _ _ _ fun {u} b ok => ?_).next
  split <;> exact ok.mapReply _ _ _ _

theorem execMapWrite_ends (bay index : Byte) (block : BitVec 16) (spare : Byte) :
    State.EndsOk (execMapWrite bay index block spare s) := by
  refine (ok.mapMessage _ _ _ _ _ fun {u} b ok => ?_).next
  dsimp only
  split
  · exact ok.respond _ _ _ _
  · split
    · exact ok.respond _ _ _ _
    · exact (ok.modMap _).mapReply _ _ _ _

theorem execMapWriteAny_ends (bay : Byte) (block : BitVec 16) (spare : Byte) :
    State.EndsOk (execMapWriteAny bay block spare s) := by
  refine (ok.mapMessage _ _ _ _ _ fun {u} b ok => ?_).next
  dsimp only
  split
  · exact ok.respond _ _ _ _
  · split
    · exact ok.respond _ _ _ _
    · split
      · exact (ok.modMap _).mapReply _ _ _ _
      · exact ok.respond _ _ _ _

theorem execMapClear_ends (bay index : Byte) : State.EndsOk (execMapClear bay index s) := by
  refine (ok.mapMessage _ _ _ _ _ fun {u} b ok => ?_).next
  dsimp only
  split
  · exact ok.respond _ _ _ _
  · split
    · exact (ok.modMap _).mapReply _ _ _ _
    · exact ok.mapReply _ _ _ _

theorem execEject_ends (bay : Byte) : State.EndsOk (execEject bay s) := by
  refine (ok.forBay _ _ fun {u} b ok => ?_).next
  split
  · exact ok.respond _ _ _ _
  · rename_i accepted
    have accepting : ((u.accept 0x30 bay b .eject).mech b) = u.mech b := (State.mech_respond ..).trans (State.mech_occupySlot ..)
    refine (ok.accept (b := b) 0x30 bay .eject).only (b := b) (by simp) (State.startEject_ok (ok.accept 0x30 bay .eject b) _ ?_)
    rw [accepting]
    intro fault cause
    have fault : (u.bay b).record.state = .fault := fault
    have cause : (u.bay b).record.cause = .unloadFault := cause
    simp [State.ejectRefusal, fault, cause] at accepted

theorem execRead_ends (bay : Byte) (block : BitVec 16) (count : Byte) : State.EndsOk (execRead bay block count s) := by
  refine (ok.forBayCounted _ _ _ fun {u} b ok => ?_).next
  repeat' split
  · exact ok.respond _ _ _ _
  · exact ok.respond _ _ _ _
  · exact ok.accept _ _ _
  · exact ok.respond _ _ _ _

theorem execReadPhys_ends (bay : Byte) (cylinder : BitVec 16) (head sector count : Byte) :
    State.EndsOk (execReadPhys bay cylinder head sector count s) := by
  refine (ok.forBayCounted _ _ _ fun {u} b ok => ?_).next
  dsimp only
  repeat' split
  · exact ok.respond _ _ _ _
  · exact ok.accept _ _ _
  · exact ok.respond _ _ _ _

theorem execWritePhys_ends (bay : Byte) (cylinder : BitVec 16) (head sector : Byte) (data : Sector) :
    State.EndsOk (execWritePhys bay cylinder head sector data s) := by
  refine (ok.forBay _ _ fun {u} b ok => ?_).next
  dsimp only
  repeat' split
  · exact ok.respond _ _ _ _
  · exact (ok.accept _ _ _).leaves (by simp) (State.mech_media _ _ rfl)
  · exact ok.respond _ _ _ _
  · exact ok.respond _ _ _ _

theorem execFlush_ends (bay : Byte) : State.EndsOk (execFlush bay s) := by
  refine (ok.forBay _ _ fun {u} b ok => ?_).next
  split
  · exact ok.respond _ _ _ _
  · rename_i accepted
    have ready := BayState.ready_of_refusesData accepted
    split
    · exact ok.respond _ _ _ _
    · split
      · dsimp only
        have accepting : ((u.accept 0x34 bay b .flush).mech b) = u.mech b := (State.mech_respond ..).trans (State.mech_occupySlot ..)
        have ready : ((u.accept 0x34 bay b .flush).bay b).record.state = .ready := by rw [State.record_eq_mech, accepting]; exact ready
        have marked := (ok.accept (b := b) 0x34 bay .flush).queued ready
          (t := { u.accept 0x34 bay b .flush with queue :=
            { (u.accept 0x34 bay b .flush).queue with items := (u.accept 0x34 bay b .flush).queue.items ++ [Item.mark b .flush] } })
          (fun c => by cases c <;> rfl) (itemsOf_append_other _ rfl)
        refine marked.only (b := b) (by simp) ?_
        obtain ⟨d, tested, kept⟩ := State.mech_markTest (b := b) (s := { u.accept 0x34 bay b .flush with queue :=
          { (u.accept 0x34 bay b .flush).queue with items := (u.accept 0x34 bay b .flush).queue.items ++ [Item.mark b .flush] } })
        rw [tested]
        exact (marked b).emptied d kept
      · exact ok.respond _ _ _ _

theorem execSeek_ends (bay : Byte) (cylinder : BitVec 16) : State.EndsOk (execSeek bay cylinder s) := by
  refine (ok.forBay _ _ fun {u} b ok => ?_).next
  repeat' split
  · exact ok.respond _ _ _ _
  · exact ok.accept _ _ _
  · exact ok.respond _ _ _ _

theorem execMapSave_ends (bay : Byte) : State.EndsOk (execMapSave bay s) := by
  refine (ok.forBay _ _ fun {u} b ok => ?_).next
  split
  · exact ok.respond _ _ _ _
  · exact ok.accept _ _ _

end

end Sys2Proof.Machine
end

section
/-! PROOFS. The commands of the link, the unit, the supply and the budget keep the rules of the mechanics of both bays (O59). -/

namespace Sys2Proof.Machine

namespace State

variable (s : State) (c : BayId)

/-! ### The link and the settings -/

@[simp] theorem mech_discardFrame : s.discardFrame.mech c = s.mech c := by cases c <;> rfl

@[simp] theorem mech_takeAddress (low : Byte) : (s.takeAddress low).mech c = s.mech c := by
  unfold takeAddress
  dsimp only
  repeat' split
  · exact mech_setAssembly ..
  · exact (mech_setAssembly ..).trans (mech_discardFrame ..)
  · rfl
  · exact mech_discardFrame ..

@[simp] theorem mech_takeData (low : Byte) : (s.takeData low).mech c = s.mech c := by
  unfold takeData
  dsimp only
  repeat' split
  · rfl
  · exact mech_setAssembly ..
  · exact mech_discardFrame ..
  · exact mech_setAssembly ..
  · exact mech_discardFrame ..
  · exact mech_setAssembly ..

@[simp] theorem mech_takeChar (x : LinkChar) : (s.takeChar x).mech c = s.mech c := by
  unfold takeChar
  split
  · split
    · rfl
    · exact mech_discardFrame ..
  · split
    · exact mech_takeAddress ..
    · exact mech_takeData ..

theorem mech_takeChars (l : List LinkChar) : (l.foldl State.takeChar s).mech c = s.mech c := by
  induction l generalizing s with
  | nil => rfl
  | cons x l ih => exact (ih _).trans (mech_takeChar ..)

/-- A counter's or a threshold's change is no bay's mechanics. -/
theorem mech_counters (b : BayId) (f : Counters → Counters) : (s.modCounters b f).mech c = s.mech c := by
  rcases b.eq_or_other c with rfl | rfl
  · exact mech_modCounters ..
  · exact mech_other (by simp)

theorem mech_latches (b : BayId) (f : Latches → Latches) : (s.modLatches b f).mech c = s.mech c := by
  rcases b.eq_or_other c with rfl | rfl
  · exact mech_modLatches ..
  · exact mech_other (by simp)

@[simp] theorem mech_clearLatches : s.clearLatches.mech c = s.mech c := by
  have events : s.clearLatches.mech c = ((s.modLatches .bayA fun _ => {}).modLatches .bayB fun _ => {}).mech c := by cases c <;> rfl
  rw [events, mech_latches, mech_latches]

theorem mech_store {item v : Nat} {itemBay : Byte} {r : State × Nat} (stored : s.store item itemBay v = some r) :
    r.1.mech c = s.mech c := by
  unfold store at stored
  split at stored
  · dsimp only at stored
    split at stored
    · obtain rfl := Option.some.inj stored
      exact mech_counters ..
    · split at stored
      · obtain rfl := Option.some.inj stored
        exact (mech_counters ..).trans (mech_counters ..)
      · contradiction
  · split at stored
    · contradiction
    · split at stored
      · obtain rfl := Option.some.inj stored
        exact mech_putBudget ..
      · obtain ⟨x, set, rfl⟩ := Option.map_eq_some_iff.1 stored
        cases c <;> rfl

end State

section
variable {s : State} (ok : s.BothOk)
include ok

theorem execFrameDiscard_ends (chars : List LinkChar) : State.EndsOk (execFrameDiscard chars s) := by
  unfold execFrameDiscard
  split
  · exact (ok.same fun c => State.mech_takeChars ..).next
  · exact ok.next

theorem execAddressCharacter_ends (low : Byte) : State.EndsOk (execAddressCharacter low s) := by
  unfold execAddressCharacter
  split
  · exact (ok.same fun c => State.mech_takeAddress ..).next
  · exact ok.next

theorem execCharacterGapTimeout_ends : State.EndsOk (execCharacterGapTimeout s) := by
  unfold execCharacterGapTimeout
  split
  · exact ok.next
  · exact (ok.same fun c => (State.mech_discardFrame ..).trans (State.mech_clockTo ..)).next

theorem execUnknownMessage_ends (code bay : Byte) (body : List Byte) : State.EndsOk (execUnknownMessage code bay body s) :=
  (ok.takeMessage fun taken => taken.respond _ _ _ _).next

theorem execIdentify_ends (bay : Byte) (clear : Bool) : State.EndsOk (execIdentify bay clear s) := by
  refine (ok.forUnit _ _ fun {u} ok => ?_).next
  dsimp only
  split
  · exact ok.same fun c => by cases c <;> rfl
  · exact ok.respond _ _ _ _

theorem execReport_ends (bay : Byte) (peek : Bool) : State.EndsOk (execReport bay peek s) := by
  refine (ok.forUnit _ _ fun {u} ok => ?_).next
  dsimp only
  split
  · exact ok.respond _ _ _ _
  · exact (ok.respond _ _ _ _).same fun c => State.mech_clearLatches ..

theorem execFaults_ends (bay : Byte) : State.EndsOk (execFaults bay s) := by
  refine (ok.forUnit _ _ fun {u} ok => ?_).next
  exact ok.same fun c => by cases c <;> rfl

theorem execSet_ends (bay item itemBay : Byte) (value : BitVec 32) : State.EndsOk (execSet bay item itemBay value s) := by
  refine (ok.forUnit _ _ fun {u} ok => ?_).next
  split
  · rename_i stored
    exact (ok.same fun c => State.mech_store u c stored).respond _ _ _ _
  · exact ok.respond _ _ _ _

theorem execGet_ends (bay item itemBay : Byte) : State.EndsOk (execGet bay item itemBay s) := by
  refine (ok.forUnit _ _ fun {u} ok => ?_).next
  split <;> exact ok.respond _ _ _ _

theorem execCounters_ends (bay : Byte) (clear : Bool) : State.EndsOk (execCounters bay clear s) := by
  refine (ok.forUnit _ _ fun {u} ok => ?_).next
  dsimp only
  split
  · exact (ok.respond _ _ _ _).same fun c => (State.mech_counters ..).trans (State.mech_counters ..)
  · exact ok.respond _ _ _ _

theorem execReset_ends (bay : Byte) (force : Bool) : State.EndsOk (execReset bay force s) := by
  refine (ok.forUnit _ _ fun {u} ok => ?_).next
  dsimp only
  split
  · exact ok.respond _ _ _ _
  · exact ok.same fun c => by cases c <;> rfl

/-! ### The supply and the budget -/

theorem execSupplyGoodRises_ends : State.EndsOk (execSupplyGoodRises s) := by
  unfold execSupplyGoodRises
  split
  · exact (ok.same fun c => by cases c <;> rfl).next
  · exact ok.next

theorem execHoldEnd_ends : State.EndsOk (execHoldEnd s) := by
  unfold execHoldEnd
  split
  · dsimp only
    generalize (s.clockTo ((s.budget.holdTimer.getD s.clock) + Config.holdTime)).budget.powerOnHold = again
    obtain ⟨t, held, same⟩ : ∃ t : State, t = (if again then s.clockTo ((s.budget.holdTimer.getD s.clock) + Config.holdTime)
        else (s.clockTo ((s.budget.holdTimer.getD s.clock) + Config.holdTime)).latchUnit .supplyRestored) ∧
        ∀ c, t.mech c = s.mech c := ⟨_, rfl, fun c => by split <;> simp⟩
    rw [← held]
    have good : ({ t with budget := { t.budget with supply := .good, powerOnHold := false, holdTimer := none } } : State).BothOk :=
      ok.same fun c => (State.mech_budget ..).trans (same c)
    have first := good.only (b := .bayA) (by simp) (State.leaveHalted_ok (good .bayA))
    have second := first.only (b := .bayB) (by simp) (State.leaveHalted_ok (first .bayB))
    exact (second.same fun c => State.mech_putBudget ..).next
  · exact ok.next

theorem execSupplyLoss_ends : State.EndsOk (execSupplyLoss s) := by
  unfold execSupplyLoss
  split
  · exact ok.next
  · dsimp only
    have lost : ({ s with supplyGood := false, budget := s.budget.lose }.endBudgetSignals.latchUnit .supplyLoss).BothOk :=
      ok.same fun c => by
        rw [State.mech_latchUnit, State.mech_endBudgetSignals]
        cases c <;> rfl
    have first := lost.only (b := .bayA) (by simp) (State.loseSupplyIn_ok (lost .bayA))
    exact (first.only (b := .bayB) (by simp) (State.loseSupplyIn_ok (first .bayB))).next

theorem execBudgetRequest_ends (b : BayId) (k : RequestKind) : State.EndsOk (execBudgetRequest b k s) := by
  unfold execBudgetRequest
  split
  · split
    · exact (ok.same fun c => (State.mech_putBudget ..).trans (State.mech_dropSignal ..)).next
    · exact ok.next
  · exact ok.next

theorem execClaimRelease_ends (b : BayId) (k : Consumer) : State.EndsOk (execClaimRelease b k s) := by
  unfold execClaimRelease
  split
  · split
    · exact (ok.same fun c => (State.mech_putBudget ..).trans (State.mech_dropSignal ..)).next
    · exact ok.next
  · exact ok.next

theorem execWithdrawal_ends (b : BayId) (k : RequestKind) : State.EndsOk (execWithdrawal b k s) := by
  unfold execWithdrawal
  split
  · split
    · dsimp only
      split
      · exact (ok.same fun c => (State.mech_putBudget ..).trans (State.mech_dropSignal ..)).next
      · split
        · exact (ok.same fun c => (State.mech_putBudget ..).trans ((State.mech_dropSignal ..).trans (State.mech_dropSignal ..))).next
        · exact (ok.same fun c => State.mech_dropSignal ..).next
    · exact ok.next
  · exact ok.next

/-- A grant is taken with its owner's load started, or its claim released (R31). -/
theorem State.BothOk.takeGrant {b : BayId} (k : RequestKind) {wanted : Bool} {act : State → Nat → State}
    (acts : ∀ {u : State} l, wanted = true → u.bay = s.bay → u.BothOk → (act u l).BothOk) :
    (s.takeGrant b k wanted act).BothOk := by
  have dropped : (s.dropSignal (Signal.isGrant b k)).BothOk := ok.same fun c => State.mech_dropSignal ..
  unfold State.takeGrant
  split
  · dsimp only
    split
    · rename_i wants
      exact acts _ wants.1 (by funext c; cases c <;> rfl) dropped
    · exact dropped.same fun c => State.mech_releaseUnwanted ..
  · exact ok

end

end Sys2Proof.Machine
end

section
/-! PROOFS. The events of the bays keep the rules of the mechanics of both bays (O59). -/

namespace Sys2Proof.Machine

namespace State.BothOk

variable {s t : State} {b : BayId}

/-- The clock is brought to a count. -/
theorem clockTo (ok : s.BothOk) (n : Nat) : (s.clockTo n).BothOk := ok.same fun _ => mech_clockTo ..

theorem modPins (ok : s.BothOk) (f : BayPins → BayPins) : (s.modPins b f).BothOk := ok.leaves (by simp) (mech_modPins ..)

theorem latch (ok : s.BothOk) (e : BayEvent) : (s.latch b e).BothOk := ok.leaves (by simp) (mech_latch ..)

theorem dropSignal (ok : s.BothOk) (p : Signal → Bool) : (s.dropSignal p).BothOk := ok.same fun _ => mech_dropSignal ..

theorem modSpindle (ok : s.BothOk) {f : Spindle → Spindle}
    (own : ({ s.mech b with spindle := f (s.mech b).spindle } : Mechanism).Ok) : (s.modSpindle b f).BothOk :=
  ok.only (b := b) (by simp) (by rwa [mech_modSpindle])

end State.BothOk

section
variable {s : State} (ok : s.BothOk) (b : BayId)
include ok

/-! ### Grants at their owners -/

theorem execSpinUpGrant_ends : State.EndsOk (execSpinUpGrant b s) := by
  refine (ok.takeGrant .spinUp fun {u} l wanted bays ok => ok.modSpindle ?_).next
  have waiting : (u.mech b).spindle.state = .waiting := by
    rw [← State.spindle_eq_mech, bays]
    simpa using wanted
  exact (ok b).respin (by simp [waiting]) (by simp [waiting]) ((ok b).heads.notPending (.inl (by simp [waiting])))

theorem execRecoverGrant_ends : State.EndsOk (execRecoverGrant b s) := by
  refine (ok.takeGrant .recover fun {u} l wanted bays ok => ok.modSpindle ?_).next
  have waiting : (u.mech b).spindle.state = .recoverWait := by
    rw [← State.spindle_eq_mech, bays]
    exact (of_decide_eq_true wanted).1
  exact (ok b).respin (by simp [waiting]) (by simp [waiting]) ((ok b).heads.notPending (.inl (by simp [waiting])))

theorem execSeekGrant_ends : State.EndsOk (execSeekGrant b s) := by
  refine (ok.takeGrant .seek fun {u} l wanted bays ok => ?_).next
  split
  · rename_i q requested
    rw [← bays] at requested
    obtain ⟨tracking, seek⟩ : (u.mech b).act.state = .tracking ∧ (u.mech b).act.seek = some q := by
      unfold Actuator.requestedSeek at requested
      split at requested
      · exact ⟨‹_›, (Option.filter_eq_some_iff.1 requested).1⟩
      · contradiction
    refine ok.only (b := b) (by simp) ?_
    rw [State.mech_startSeek]
    refine (ok b).seeking (State.loaded_tracking tracking) rfl (.inl rfl) ?_
      fun h => absurd ((State.notAtSector (ok b) seek).symm.trans h) nofun
    rintro _ ⟨⟩
    exact (ok b).engine.seekOwner q seek
  · exact ok

theorem execLoadGrant_ends : State.EndsOk (execLoadGrant b s) := by
  refine (ok.takeGrant .load fun {u} l wanted bays ok => ?_).next
  obtain ⟨unloaded, attempt⟩ : (u.mech b).act.state = .unloaded ∧ (u.mech b).act.loadAttempt.isSome = true := by
    rw [← State.act_eq_mech, bays]
    exact of_decide_eq_true wanted
  obtain ⟨wants, run⟩ := (ok b).heads.loadWanted attempt
  have off : (u.mech b).act.state.loaded = false := by rw [unloaded]; rfl
  have moved : (u.newMove b).BothOk := by
    have turned : (u.modAct b fun x => { x with move := u.freeIndex }).BothOk := by
      refine ok.only (b := b) (by simp) ?_
      rw [State.mech_modAct]
      exact (ok b).sameAct rfl (.inl rfl) rfl
    exact turned.same fun c => State.mech_freeIndex ..
  have same : (u.newMove b).mech b = { u.mech b with act := { (u.mech b).act with move := u.freeIndex } } :=
    (State.mech_freeIndex ..).trans (State.mech_modAct ..)
  have loads : ((u.newMove b).modAct b fun x => { x with state := .loading, cylinder := none }).BothOk := by
    refine moved.only (b := b) (by simp) ?_
    rw [State.mech_modAct, same]
    refine ⟨⟨fun _ => run, fun _ => BayRecord.allowsHeads_of_wantsHeads wants, fun _ => ⟨wants, run⟩, (ok b).heads.atRest,
      (ok b).heads.spinPending, (ok b).heads.queueEmpty, (ok b).heads.saveDrained, fun _ => rfl, fun p => ?_⟩,
      ⟨(ok b).engine.opWorks, (ok b).engine.seekOwner, fun h => ?_⟩⟩
    · obtain ⟨-, -, -, spindle, -⟩ := (ok b).heads.solenoid p
      exact absurd (run.symm.trans spindle) nofun
    · exact absurd (((ok b).engine.sectorTracks h).symm.trans unloaded) nofun
  exact loads.modPins _

theorem execRecalibrateGrant_ends : State.EndsOk (execRecalibrateGrant b s) := by
  refine (ok.takeGrant .recalibrate fun {u} l wanted bays ok => ?_).next
  have moved : (u.newMove b).BothOk := by
    have turned : (u.modAct b fun x => { x with move := u.freeIndex }).BothOk := by
      refine ok.only (b := b) (by simp) ?_
      rw [State.mech_modAct]
      exact (ok b).sameAct rfl (.inl rfl) rfl
    exact turned.same fun c => State.mech_freeIndex ..
  refine State.BothOk.modPins ?_ _
  refine moved.only (b := b) (by simp) ?_
  rw [State.mech_modAct]
  exact (moved b).sameAct rfl (.inl rfl) rfl

theorem execSolenoidGrant_ends : State.EndsOk (execSolenoidGrant b s) := by
  refine (ok.takeGrant .solenoid fun {u} l wanted bays ok => ?_).next
  obtain ⟨state, phase, pulse⟩ : (u.mech b).record.state = .ejecting ∧ (u.mech b).record.phase = .release ∧
      (u.mech b).record.pulsing = false := by
    rw [← State.record_eq_mech, bays]
    exact of_decide_eq_true wanted
  have ease := (ok b).ease (by simp [BayRecord.allowsHeads, BayRecord.wantsHeads, state, phase]) pulse
  have pend := (ok b).heads.notPending (.inr (by simp [state]))
  have released : (u.release b .solenoid).BothOk := ok.same fun c => State.mech_release ..
  have easy : ((u.release b .solenoid).mech b).AtEase := by rwa [State.mech_release]
  split
  · refine released.only (b := b) (by simp) (State.enterUnload_ok easy.leaving ?_)
    rwa [State.mech_release]
  · rename_i unloaded
    split
    · refine released.only (b := b) (by simp) (State.enterSpindown_ok easy fun p => ?_)
      rw [State.mech_release] at p
      exact absurd (pend.symm.trans p) nofun
    · rename_i atRest
      obtain ⟨off, drained⟩ := not_or.1 atRest
      refine ok.modRecord ?_
      obtain ⟨heads, load, seek, op, -, -⟩ := ease
      refine ⟨⟨?_, ?_, ?_, (ok b).heads.atRest, (ok b).heads.spinPending, (ok b).heads.queueEmpty, (ok b).heads.saveDrained, ?_,
        fun _ => ⟨state, phase, Classical.not_not.1 unloaded, Classical.not_not.1 off, ?_⟩⟩, ⟨?_, ?_, ?_⟩⟩
      · simp [heads]
      · simp [heads]
      · simp [load]
      · simp [seek]
      · exact eq_true_of_ne_false drained
      · simp [op]
      · simp [seek]
      · simp [op]

/-! ### Sensors, button and solenoid -/

theorem execPresentSenseRise_ends : State.EndsOk (execPresentSenseRise b s) := by
  have risen := ok.modPins (b := b) fun p => { p with present := true }
  unfold execPresentSenseRise
  dsimp only
  split
  · exact (risen.modRecord ((risen b).sameRecord ⟨rfl, rfl, rfl⟩ rfl rfl .inl)).next
  · exact risen.next

theorem execInsertion_ends (x y : Bool) : State.EndsOk (execInsertion b x y s) := by
  unfold execInsertion
  dsimp only
  split
  · rename_i taken
    have empty : (s.mech b).record.state = .empty := taken.1
    have ease := (ok b).ease (by simp [BayRecord.allowsHeads, BayRecord.wantsHeads, empty])
      ((ok b).heads.notPulsing (.inl (by simp [empty])))
    have off := (ok b).heads.atRest (by simp [BayRecord.discAtRest, empty])
    have pend := (ok b).heads.notPending (.inr (by simp [empty]))
    generalize hcode : typeCodeOf x y = code
    have pinned := (ok.clockTo ((s.bay b).record.debounceAt + Config.debounceTime)).modPins (b := b)
      fun p => { p with typeSense0 := x, typeSense1 := y }
    obtain ⟨t, inserted, within, act, same, heads, load, seek⟩ : ∃ t : State, t = ((((s.clockTo ((s.bay b).record.debounceAt +
        Config.debounceTime)).modPins b fun p => { p with typeSense0 := x, typeSense1 := y }).modRecord b fun _ =>
        { typeCode := code }).modBay b Bay.insertNeighbours) ∧ State.Within b ((s.clockTo ((s.bay b).record.debounceAt +
        Config.debounceTime)).modPins b fun p => { p with typeSense0 := x, typeSense1 := y }) t ∧
        ∃ a : Actuator, t.mech b = { s.mech b with record := { typeCode := code }, act := a } ∧ a.state = (s.mech b).act.state ∧
          a.loadAttempt = (s.mech b).act.loadAttempt ∧ a.seek = (s.mech b).act.seek := by
      refine ⟨_, rfl, by simp, { (s.mech b).act with failures := 0, upshiftRun := 0, downshift := 0 }, ?_, rfl, rfl, rfl⟩
      cases b <;> rfl
    have easy : (t.mech b).AtEase := by
      rw [same]
      exact ⟨by rw [heads]; exact ease.heads, load.trans ease.load, seek.trans ease.seek, ease.op, ease.drained, rfl⟩
    have off : (t.mech b).spindle.state = .off := by rw [same]; exact off
    have pend : (t.mech b).spindle.pendingSpinUp = false := by rw [same]; exact pend
    have ok' : t.BothOk := pinned.only within (easy.off off pend)
    rw [← inserted]
    split
    · have latched := ok'.latch (b := b) .unknownCartridge
      refine (latched.only (b := b) (by simp) (State.enterRelease_ok ?_ ?_ ?_)).next <;>
        rw [State.mech_modRecord, State.mech_latch]
      · exact easy.with (r := { (t.mech b).record with eject := some { origin := .device, pulse := 1, saveMarker := false } })
          easy.pulse _
      · exact off
      · exact pend
    · have latched := ok'.latch (b := b) .inserted
      have spins (next : BayState) (h : next = .spinning ∨ next = .cleaning) :
          ((t.latch b .inserted).startSpinning b next).BothOk := by
        refine latched.only (b := b) (by simp) (State.startSpinning_ok ?_ ?_ h ?_) <;> rw [State.mech_latch]
        · exact easy
        · exact fun p => absurd (pend.symm.trans p) nofun
        · exact fun _ => pend
      split
      · exact (spins _ (.inr rfl)).next
      · split
        · exact (spins _ (.inl rfl)).next
        · refine (latched.modRecord ?_).next
          rw [State.mech_latch]
          exact (easy.with (r := { (t.mech b).record with state := .inserted }) easy.pulse (t.mech b).spindle).off off pend
  · exact ok.next

theorem State.BothOk.removed (h : (s.bay b).record.state = .ejecting ∧ (s.bay b).record.phase = .awaitRemoval) :
    (s.removed b).BothOk := by
  obtain ⟨ease, off, pend⟩ := State.awaiting_ease (ok b) h
  exact ok.only (b := b) (by simp) (State.removed_ok ease off pend)

theorem execPresentSenseFall_ends : State.EndsOk (execPresentSenseFall b s) := by
  have fallen := ok.modPins (b := b) fun p => { p with present := false }
  unfold execPresentSenseFall
  dsimp only
  split
  · exact (fallen.modRecord ((fallen b).sameRecord ⟨rfl, rfl, rfl⟩ rfl rfl .inl)).next
  · split
    · exact (fallen.removed b ‹_›).next
    · exact (fallen.only (b := b) (by simp) (State.faultReport_ok (fallen b) (fun h => absurd rfl h) fun _ h => absurd rfl h)).next

theorem execEjectButtonPress_ends : State.EndsOk (execEjectButtonPress b s) := by
  unfold execEjectButtonPress
  dsimp only
  repeat' split
  · exact ok.next
  · exact ok.next
  · exact (ok.latch (b := b) _).next
  · rename_i refused
    exact (ok.only (b := b) (by simp) (State.startEject_ok (ok b) _ fun fault cause => refused (.inl ⟨fault, cause⟩))).next

theorem execSolenoidPulseEnd_ends (present : Bool) : State.EndsOk (execSolenoidPulseEnd b present s) := by
  unfold execSolenoidPulseEnd
  dsimp only
  split
  · rename_i pulses
    have pulsing : (s.mech b).record.pulsing = true := pulses.2.2
    obtain ⟨state, phase, unloaded, off, drained⟩ := (ok b).heads.solenoid pulsing
    have allows : (s.mech b).record.allowsHeads = false := by simp [BayRecord.allowsHeads, BayRecord.wantsHeads, state, phase]
    have pend := (ok b).heads.notPending (.inr (by simp [state]))
    have heads : (s.mech b).act.state.loaded = false := by rw [unloaded]; rfl
    have ease (r : BayRecord) (p : r.pulsing = false) : ({ s.mech b with record := r } : Mechanism).AtEase :=
      ⟨heads, (ok b).heads.noLoad (.inl (BayRecord.wantsHeads_of_allowsHeads allows)), (ok b).heads.noSeek heads,
        (ok b).engine.noOp (BayRecord.mediaWorks_of_allowsHeads allows), drained, p⟩
    obtain ⟨t, ended, was, same⟩ : ∃ t : State, t = (((s.clockTo ((s.bay b).record.pulseAt + Config.pulseTime)).release b
        .solenoid).modPins b fun p => { p with present }) ∧ t.BothOk ∧ t.mech b = s.mech b := by
      refine ⟨_, rfl, ((ok.clockTo _).same fun c => State.mech_release ..).modPins _, ?_⟩
      rw [State.mech_modPins, State.mech_release, State.mech_clockTo]
    rw [← ended]
    have awaits : (t.modRecord b fun r => { r with phase := .awaitRemoval, pulsing := false, removalAt := t.clock }).BothOk := by
      refine was.modRecord ?_
      rw [same]
      exact (ease { (s.mech b).record with phase := .awaitRemoval, pulsing := false, removalAt := t.clock } rfl).off off pend
    split
    · exact awaits.next
    · refine (awaits.removed b ?_).next
      rw [State.record_eq_mech, State.mech_modRecord, same]
      exact ⟨state, rfl⟩
  · exact ok.next

theorem execRemovalTimeout_ends : State.EndsOk (execRemovalTimeout b s) := by
  unfold execRemovalTimeout
  dsimp only
  split
  · rename_i awaits
    have due := ok.clockTo ((s.bay b).record.removalAt + Config.removalTime)
    generalize (s.bay b).record.removalAt + Config.removalTime = n at due
    have awaits : ((s.clockTo n).bay b).record.state = .ejecting ∧ ((s.clockTo n).bay b).record.phase = .awaitRemoval := by
      rw [State.record_eq_mech, State.mech_clockTo]
      exact awaits
    obtain ⟨ease, off, pend⟩ := State.awaiting_ease (due b) awaits
    split
    · exact (due.removed b awaits).next
    · split
      · refine (due.only (b := b) (by simp) (State.faultReport_ok (due b) (fun _ _ _ => pend) fun _ _ => ⟨ease.heads, ease.load⟩)).next
      · refine (due.only (b := b) (by simp) (State.enterRelease_ok ?_ ?_ ?_)).next <;> rw [State.mech_modRecord]
        · exact ease.with (r := { ((s.clockTo n).mech b).record with
            eject := ((s.clockTo n).mech b).record.eject.map fun e => { e with pulse := 2 } }) ease.pulse _
        · exact off
        · exact pend
  · exact ok.next

end

end Sys2Proof.Machine
end

section
/-! PROOFS. The events of spindle, actuator and engine, and the soft reset, keep the rules of the mechanics (O59). -/

namespace Sys2Proof.Machine

section
variable {s : State} (ok : s.BothOk) (b : BayId)
include ok

/-! ### The spindle -/

theorem execMeasurementWindowStart_ends : State.EndsOk (execMeasurementWindowStart b s) :=
  ((ok.clockTo _).modSpindle ((ok.clockTo _ b).sameSpindle rfl id)).next

theorem execAttemptTimeout_ends : State.EndsOk (execAttemptTimeout b s) := by
  unfold execAttemptTimeout
  dsimp only
  split
  · rename_i accel
    have due := ok.clockTo ((s.bay b).spindle.timer.getD s.clock + Config.attemptTime)
    refine (due.only (b := b) (by simp) (State.endAttempt_ok (due b) ?_)).next
    rw [State.mech_clockTo]
    exact accel
  · exact ok.next

theorem execRecoveryTimeout_ends : State.EndsOk (execRecoveryTimeout b s) := by
  unfold execRecoveryTimeout
  dsimp only
  split
  · rename_i recovers
    have recovers : (s.mech b).spindle.state = .recover := recovers
    obtain ⟨t, released, was, same⟩ : ∃ t : State, t = (s.clockTo ((s.bay b).spindle.timer.getD s.clock + Config.attemptTime)).release b
        .spindle ∧ t.BothOk ∧ t.mech b = s.mech b :=
      ⟨_, rfl, (ok.clockTo _).same fun c => State.mech_release .., (State.mech_release ..).trans (State.mech_clockTo ..)⟩
    have fails (u : State) (x : Spindle) (within : State.Within b t u) (h : u.mech b = { s.mech b with spindle := x })
        (pend : x.pendingSpinUp = false) : (u.faultReport b .speedLost).BothOk := by
      have slow : (s.mech b).spindle.state ≠ .run := by simp [recovers]
      have spun : u.BothOk := was.only within (by rw [h]; exact (ok b).respin slow (by simp [recovers]) pend)
      refine spun.only (b := b) (by simp) (State.faultReport_ok (spun b) (fun _ _ _ => ?_) fun _ _ => ?_)
      · rw [h]; exact pend
      · rw [h]; exact ⟨(ok b).heads.headsOff (.inr slow), (ok b).heads.noLoad (.inr slow)⟩
    have pend : (s.mech b).spindle.pendingSpinUp = false := (ok b).heads.notPending (.inl (by simp [recovers]))
    rw [← released]
    split
    · refine (fails _ (s.mech b).spindle.brake (by simp) ?_ pend).next
      rw [State.mech_modSpindle, same]
    · refine (fails _ { (s.mech b).spindle with state := .recoverWait, timer := none, recoverAsked := true } (by simp) ?_ pend).next
      rw [State.mech_request, State.mech_modSpindle, same]
  · exact ok.next

/-- A reading recorded leaves the state of the spindle. -/
theorem State.BothOk.recordReading (w : Window) (raw : RawOutcome) (c : SpeedClass) : (s.recordReading b w raw c).BothOk ∧
    ((s.recordReading b w raw c).mech b).spindle.state = (s.mech b).spindle.state := by
  have free : ({ s.clockTo (w.startAt + s.measureCounts raw) with freeIndex := s.freeIndex + 1 } : State).BothOk :=
    (ok.clockTo _).same fun c => State.mech_freeIndex ..
  constructor
  · exact free.modSpindle ((free b).sameSpindle rfl id)
  · unfold State.recordReading
    rw [State.mech_modSpindle, State.mech_freeIndex, State.mech_clockTo]

theorem State.BothOk.enterRun (slow : (s.mech b).spindle.state = .accel ∨ (s.mech b).spindle.state = .recover) :
    (s.enterRun b).BothOk := by
  have free : ({ s with freeIndex := s.freeIndex + 1 } : State).BothOk := ok.same fun c => State.mech_freeIndex ..
  intro c
  rcases b.eq_or_other c with rfl | rfl
  · exact State.enterRun_ok (ok c) slow
  · have spun : (({ s with freeIndex := s.freeIndex + 1 } : State).modSpindle b fun x => x.regulate s.freeIndex).mech b.other =
        ({ s with freeIndex := s.freeIndex + 1 } : State).mech b.other := State.mech_other (by simp)
    have reduced : ((({ s with freeIndex := s.freeIndex + 1 } : State).modSpindle b fun x => x.regulate s.freeIndex).reduceClaim b).mech
        b.other = s.mech b.other := by
      rw [State.mech_reduceClaim, spun, State.mech_freeIndex]
    have report := State.mech_other (b := b) (t := s.enterRun b) ((State.within_runReport _ _ b).2 (State.Within.refl b _))
    rw [report, reduced]
    exact ok _

theorem State.BothOk.counting (n : Nat) (stall : Bool) : (s.modSpindle b fun x => x.counting n stall).BothOk :=
  ok.only (b := b) (by simp) (State.counting_ok (ok b) n stall)

theorem State.BothOk.readInAccel (accel : (s.mech b).spindle.state = .accel) (c : SpeedClass) (late : Bool) :
    (s.readInAccel b c late).BothOk := by
  unfold State.readInAccel
  dsimp only
  split
  · split
    · exact ok.enterRun b (.inl accel)
    · exact ok.counting b _ _
  · split
    · split
      · exact ok.only (b := b) (by simp) (State.endAttempt_ok (ok b) accel)
      · exact ok.counting b _ _
    · exact ok.counting b _ _
  · exact ok.counting b _ _

theorem State.BothOk.readInRun (run : (s.mech b).spindle.state = .run) (c drive : SpeedClass) :
    (s.readInRun b c drive).BothOk := by
  obtain ⟨t, driven, was, state⟩ : ∃ t : State, t = ({ s with freeIndex := s.freeIndex + 1 }.modSpindle b fun x =>
      { x with demand := regulated x.demand drive s.freeIndex }) ∧ t.BothOk ∧ (t.mech b).spindle.state = .run := by
    have free : ({ s with freeIndex := s.freeIndex + 1 } : State).BothOk := ok.same fun c => State.mech_freeIndex ..
    refine ⟨_, rfl, free.modSpindle ((free b).sameSpindle rfl id), ?_⟩
    rw [State.mech_modSpindle, State.mech_freeIndex]
    exact run
  unfold State.readInRun
  dsimp only
  rw [← driven]
  split
  · exact was.counting b _ _
  · split
    · have counted := was.counting b 2 false
      refine counted.only (b := b) (by simp) (State.speedLost_ok (counted b) ?_)
      rw [State.mech_modSpindle]
      exact state
    · exact was.counting b _ _

theorem State.BothOk.readInRecover (recovers : (s.mech b).spindle.state = .recover) (c : SpeedClass) :
    (s.readInRecover b c).BothOk := by
  unfold State.readInRecover
  split
  · split
    · refine (ok.latch (b := b) .speedRecovered).enterRun b (.inr ?_)
      rw [State.mech_latch]
      exact recovers
    · exact ok.counting b _ _
  · exact ok.counting b _ _

theorem State.BothOk.readInStopping (stopping : (s.mech b).spindle.state = .stopping) (c : SpeedClass) :
    (s.readInStopping b c).BothOk := by
  unfold State.readInStopping
  split
  · split
    · exact ok.only (b := b) (by simp) (State.spindleStopped_ok (ok b) stopping)
    · exact ok.counting b _ _
  · exact ok.counting b _ _

theorem execMeasurementComplete_ends (raw : RawOutcome) : State.EndsOk (execMeasurementComplete b raw s) := by
  unfold execMeasurementComplete
  dsimp only
  split
  · exact ok.next
  · rename_i w window
    obtain ⟨was, state⟩ := ok.recordReading b w (rawOutcome raw) (s.classAt w (rawOutcome raw) (nominalSpeed (s.bay b).record.typeCode))
    split
    · exact was.next
    · split <;> rename_i st
      · exact (was.readInAccel b (state.trans st) _ _).next
      · exact (was.readInRun b (state.trans st) _ _).next
      · exact (was.readInRecover b (state.trans st) _).next
      · exact (was.readInStopping b (state.trans st) _).next
      all_goals exact was.next

/-! ### The actuator -/

theorem execSeekComplete_ends (sample : Nat) : State.EndsOk (execSeekComplete b sample s) := by
  unfold execSeekComplete
  split
  · rename_i q running
    obtain ⟨seeking, seek⟩ : (s.mech b).act.state = .seeking ∧ (s.mech b).act.seek = some q := by
      unfold Actuator.runningSeek at running
      split at running
      · exact ⟨‹_›, running⟩
      · contradiction
    have loaded := (ok b).heads.seekLoaded (by simp [seek])
    split
    · obtain ⟨a, same, tracking, none, load⟩ := State.mech_seekSucceeds (s := s) (b := b) q
      have tracked : ((s.seekSucceeds b q).mech b).Ok := by
        rw [same]
        exact (ok b).seeking loaded (by rw [tracking]; rfl) (.inl load) (by simp [none]) fun _ => tracking
      dsimp only
      split
      · refine (ok.only (b := b) (by simp) (State.mediaSeekDone_ok tracked.heads ?_ tracked.engine.opWorks ?_)).next
        · rw [same]; exact none
        · rw [same]; exact tracking
      · refine (ok.only (b := b) (by simp) (State.mediaAskAgain_ok (State.sweepEnded_ok tracked ?_))).next
        rw [same]
        exact (ok b).heads.headsOnRun loaded
    · exact ok.next
  · exact ok.next

theorem execSeekTimeout_ends : State.EndsOk (execSeekTimeout b s) := by
  unfold execSeekTimeout
  split
  · rename_i q running
    refine (ok.only (b := b) (by simp) (State.seekFails_ok (ok b) ?_ _)).next
    unfold Actuator.runningSeek at running
    split at running
    · exact running
    · contradiction
  · exact ok.next

theorem execServoLoss_ends : State.EndsOk (execServoLoss b s) := by
  unfold execServoLoss
  split
  · rename_i q running
    refine (ok.only (b := b) (by simp) (State.seekFails_ok (ok b) ?_ _)).next
    unfold Actuator.runningSeek at running
    split at running
    · exact running
    · contradiction
  · exact ok.next

theorem execTrackLoss_ends : State.EndsOk (execTrackLoss b s) := by
  unfold execTrackLoss
  split
  · rename_i tracking
    have held := State.holdSeek_ok (ok b)
    have loaded : ((s.holdSeek b).mech b).act.state.loaded = true := by
      have state : ((s.holdSeek b).mech b).act.state = (s.mech b).act.state := by
        unfold State.holdSeek
        split
        · split
          · rw [State.mech_withdraw, State.mech_modAct]
          · rfl
        · rfl
      rw [state]
      exact State.loaded_tracking tracking
    refine (ok.only (b := b) (by simp) (State.mediaTrackLost_ok ?_ ?_ ?_)).next <;> rw [State.mech_askRecal]
    · exact held.heads.moved (a := { ((s.holdSeek b).mech b).act with
        state := .recalibrating, cylinder := none, recal := .waiting, recalForLoad := false }) loaded rfl (.inl rfl) _
    · exact held.engine.opWorks
    · exact held.engine.seekOwner
  · exact ok.next

theorem execLoadGuardFound_ends : State.EndsOk (execLoadGuardFound b s) := by
  unfold execLoadGuardFound
  split
  · rename_i loading
    have loading : (s.mech b).act.state = .loading := loading
    refine State.BothOk.next (State.BothOk.modPins ?_ _)
    refine ok.only (b := b) (by simp) ?_
    rw [State.mech_modAct]
    refine (ok b).seeking (by rw [loading]; rfl) rfl (.inl rfl) (ok b).engine.seekOwner fun h => ?_
    exact absurd (((ok b).engine.sectorTracks h).symm.trans loading) nofun
  · exact ok.next

theorem execLoadTimeout_ends : State.EndsOk (execLoadTimeout b s) := by
  unfold execLoadTimeout
  split
  · rename_i loading
    have loading : (s.mech b).act.state = .loading := loading
    have loaded : (s.mech b).act.state.loaded = true := by rw [loading]; rfl
    refine (ok.only (b := b) (by simp) ?_).next
    rw [State.mech_startUnload, State.mech_release]
    refine ⟨⟨nofun, nofun, (ok b).heads.loadWanted, (ok b).heads.atRest, (ok b).heads.spinPending, (ok b).heads.queueEmpty,
      (ok b).heads.saveDrained, nofun, fun p => ?_⟩, ⟨(ok b).engine.opWorks, nofun, fun h => ?_⟩⟩
    · obtain ⟨-, -, unloaded, -⟩ := (ok b).heads.solenoid p
      exact absurd (loading.symm.trans unloaded) nofun
    · exact absurd (((ok b).engine.sectorTracks h).symm.trans loading) nofun
  · exact ok.next

theorem execRecalibrationComplete_ends : State.EndsOk (execRecalibrationComplete b s) := by
  unfold execRecalibrationComplete
  dsimp only
  split
  · rename_i recal
    have recal : (s.mech b).act.state = .recalibrating := recal.1
    refine (ok.only (b := b) (by simp) ?_).next
    refine State.mediaTracking_ok (State.retrySeek_ok (State.trackingReport_ok ?_))
    rw [State.mech_modAct, State.mech_release]
    refine (ok b).seeking (by rw [recal]; rfl) rfl ?_ (ok b).engine.seekOwner fun _ => rfl
    dsimp only
    split
    · exact .inr rfl
    · exact .inl rfl
  · exact ok.next

theorem execRecalibrationFailed_ends : State.EndsOk (execRecalibrationFailed b s) := by
  unfold execRecalibrationFailed
  dsimp only
  split
  · rename_i recal
    have recal : (s.mech b).act.state = .recalibrating := recal.1
    have loaded : (s.mech b).act.state.loaded = true := by rw [recal]; rfl
    refine (ok.only (b := b) (by simp) (State.positionLost_ok ?_ ?_)).next <;> rw [State.mech_modAct, State.mech_release]
    · refine (ok b).seeking loaded loaded (.inl rfl) nofun fun h => ?_
      exact absurd (((ok b).engine.sectorTracks h).symm.trans recal) nofun
    · exact fun _ => (ok b).heads.headsOnRun loaded
  · exact ok.next

theorem execUnloadComplete_ends : State.EndsOk (execUnloadComplete b s) := by
  have seen := (ok.dropSignal fun z => z = .atStop b).modPins (b := b) fun p => { p with retractStop := true }
  unfold execUnloadComplete
  dsimp only
  split
  · rename_i unloads
    refine (seen.only (b := b) (by simp) (State.unloadEnded_ok (seen b) ?_)).next
    have unloading : (s.mech b).act.state = .unloading := unloads.1
    rw [State.mech_modPins, State.mech_dropSignal, unloading]
    rfl
  · exact seen.next

theorem execUnloadFailed_ends : State.EndsOk (execUnloadFailed b s) := by
  unfold execUnloadFailed
  dsimp only
  split
  · rename_i unloads
    have unloading : (s.mech b).act.state = .unloading := unloads.1
    have due := ok.clockTo ((s.bay b).act.unloadAt + Config.unloadTime)
    refine (due.only (b := b) (by simp) (State.answerSpindle_ok (State.faultReport_ok ?_ (fun _ h => absurd rfl h) fun _ _ => ?_))).next <;>
      rw [State.mech_modAct, State.mech_clockTo]
    · exact (ok b).sameAct rfl (.inr rfl) rfl
    · exact ⟨by rw [unloading]; rfl, rfl⟩
  · exact ok.next

theorem execEvaluation_ends : State.EndsOk (execEvaluation s) := by
  have due : ({ s.clockTo s.nextEval with nextEval := s.nextEval + Config.evaluationPeriod } : State).BothOk :=
    ok.same fun c => by cases c <;> rfl
  have first := due.only (b := .bayA) (by simp) (State.evaluateBay_ok (due .bayA))
  exact (first.only (b := .bayB) (by simp) (State.evaluateBay_ok (first .bayB))).next

end

end Sys2Proof.Machine
end

section
/-! PROOFS. The events of the engine and the soft reset keep the rules of the mechanics; O59. -/

namespace Sys2Proof.Machine

namespace State

variable {s t : State} {b : BayId}

/-- An operation on its sector: the heads track, with no seek in hand, in a bay whose engine works. -/
theorem atSector_facts (ok : s.BothOk) {o : MediaOp} (h : (s.bay b).media.atSector = some o) :
    (s.mech b).act.state = .tracking ∧ (s.mech b).act.seek = none ∧ (s.mech b).record.mediaWorks = true := by
  obtain ⟨op, stage⟩ := Option.filter_eq_some_iff.1 h
  have op : (s.mech b).op = some o := op
  have stage : o.stage = .atSector := of_decide_eq_true stage
  exact ⟨(ok b).engine.sectorTracks (by simp [op, stage]), (ok b).engine.noSeek op (by simp [stage]),
    (ok b).engine.opWorks (by simp [op])⟩

@[simp] theorem within_serveFromQueue (first fuel : Nat) : State.Within b s (t.serveFromQueue b first fuel) ↔ State.Within b s t := by
  induction fuel generalizing t with
  | zero => rfl
  | succ fuel ih =>
    unfold serveFromQueue
    split
    · rw [ih, State.within_stage]
    · rfl

@[simp] theorem within_takeSlot (r : LongRequest) : State.Within b s (t.takeSlot b r) ↔ State.Within b s t := by
  simp only [takeSlot]; (repeat' split) <;> simp

/-- An entry that becomes WRITING is its own bay's. -/
theorem itemsOf_markWriting_other {e : WriteEntry} (own : e.bay = b) (l : List Item) :
    itemsOf b.other (markWriting e l) = itemsOf b.other l := by
  induction l with
  | nil => rfl
  | cons i rest ih =>
    unfold markWriting
    split
    · rename_i same
      subst same
      simp [itemsOf, Item.bay, own]
    · simp only [itemsOf, List.filter_cons] at ih ⊢
      rw [ih]

@[simp] theorem within_takeDrain : State.Within b s (t.takeDrain b) ↔ State.Within b s t := by
  unfold takeDrain
  split
  · rename_i e chosen
    have own : e.bay = b := by
      have eligible := nearest_mem chosen
      simp only [WriteQueue.eligible, List.mem_filter] at eligible
      exact (of_decide_eq_true eligible.2).1
    dsimp only
    rw [State.within_beginOp, State.within_modMedia, State.within_items (itemsOf_markWriting_other own _)]
  · rfl

@[simp] theorem within_choose : State.Within b s (t.choose b) ↔ State.Within b s t := by
  simp only [choose]; (repeat' split) <;> simp

end State

section
variable {s : State} (ok : s.BothOk) (b : BayId)
include ok

/-! ### The engine -/

theorem execMediaChoice_ends : State.EndsOk (execMediaChoice b s) :=
  (ok.only (b := b) (by simp) (State.choose_ok (ok b))).next

theorem execReadPassEnd_ends (result : PassResult) : State.EndsOk (execReadPassEnd b result s) := by
  unfold execReadPassEnd
  split
  · rename_i o at_
    obtain ⟨tracking, seek, works⟩ := State.atSector_facts ok at_
    split
    · split
      · exact (ok.only (b := b) (by simp) (State.readGood_ok (ok b).heads seek _ _)).next
      · exact (ok.only (b := b) (by simp) (State.passFails_ok (ok b).heads seek tracking works _)).next
    · exact ok.next
  · exact ok.next

theorem execSectorIdTimeout_ends : State.EndsOk (execSectorIdTimeout b s) := by
  unfold execSectorIdTimeout
  split
  · rename_i o at_
    obtain ⟨tracking, seek, works⟩ := State.atSector_facts ok at_
    split
    · exact (ok.only (b := b) (by simp) (State.passFails_ok (ok b).heads seek tracking works _)).next
    · split
      · exact (ok.only (b := b) (by simp) (State.writeBad_ok (ok b).heads seek _)).next
      · exact ok.next
  · exact ok.next

theorem execWriteAttemptDone_ends : State.EndsOk (execWriteAttemptDone b s) := by
  unfold execWriteAttemptDone
  split
  · rename_i o at_
    obtain ⟨-, seek, -⟩ := State.atSector_facts ok at_
    split
    · exact (ok.only (b := b) (by simp) (State.writeGood_ok (ok b).heads seek _)).next
    · exact ok.next
  · exact ok.next

theorem execWriteFault_ends : State.EndsOk (execWriteFault b s) := by
  unfold execWriteFault
  split
  · rename_i o at_
    obtain ⟨-, seek, -⟩ := State.atSector_facts ok at_
    split
    · exact (ok.only (b := b) (by simp) (State.writeBad_ok (ok b).heads seek _)).next
    · exact ok.next
  · exact ok.next

/-! ### Outcomes at the Write Queue -/

theorem execEntryPerformed_ends : State.EndsOk (execEntryPerformed b s) := by
  have taken := ok.dropSignal (Signal.isOutcome b)
  unfold execEntryPerformed
  split
  · dsimp only
    split
    · refine (taken.only (b := b) ?_ (State.checkDrain_ok (State.removeEntry_ok (taken b) _))).next
      rw [State.within_checkDrain, State.within_removeEntry]
      exact State.Within.refl b _
    · exact taken.next
  · exact ok.next

theorem execEntryFailed_ends : State.EndsOk (execEntryFailed b s) := by
  have taken := ok.dropSignal (Signal.isOutcome b)
  unfold execEntryFailed
  split
  · dsimp only
    split
    · refine (taken.only (b := b) ?_ (State.checkDrain_ok (State.entryFails_ok (taken b) _))).next
      rw [State.within_checkDrain, State.within_entryFails]
      exact State.Within.refl b _
    · exact taken.next
  · exact ok.next

theorem execEntryAbandoned_ends : State.EndsOk (execEntryAbandoned b s) := by
  have taken := ok.dropSignal (Signal.isOutcome b)
  unfold execEntryAbandoned
  split
  · dsimp only
    split
    · split
      · refine (taken.only (b := b) ?_ (State.checkDrain_ok (State.removeEntry_ok (taken b) _))).next
        rw [State.within_checkDrain, State.within_removeEntry]
        exact State.Within.refl b _
      · refine (taken.only (b := b) ?_ (State.requeue_ok (taken b) _ _)).next
        rw [State.within_requeue]
        exact State.Within.refl b _
    · exact taken.next
  · exact ok.next

end

/-! ### The soft reset (R178) -/

/-- A queue without entries holds no mark: a mark stands behind an entry of its bay (R127, R129). -/
theorem WriteQueue.Ok.drained_of_noEntry {q : WriteQueue} (ok : q.Ok) (none : q.entryCount = 0) (b : BayId) : q.drained b = true := by
  have entries : entriesOf q.items = [] := List.length_eq_zero_iff.1 none
  have head := (ok.items b).noMarkHead
  rw [WriteQueue.drained, List.isEmpty_iff]
  cases h : itemsOf b q.items with
  | nil => rfl
  | cons i rest =>
    have there : i ∈ q.items := (List.mem_filter.1 (h ▸ List.mem_cons_self : i ∈ itemsOf b q.items)).1
    cases i with
    | entry e =>
      have held : e ∈ entriesOf q.items := mem_entriesOf.2 there
      rw [entries] at held
      exact absurd held (List.not_mem_nil)
    | mark c k =>
      rw [h] at head
      exact absurd head nofun

namespace State

variable {s : State}

/-- After the Message Decoder's part of a soft reset no item waits, and the blocks of the bays stand as they did. -/
theorem mech_resetDecoder (queue : s.queue.Ok) (force : Bool) (reset : force = false → s.queue.entryCount = 0) (b : BayId) :
    (s.resetDecoder force).mech b = { s.mech b with drained := true } := by
  have discarded : (if force then (s.discard .bayA).discard .bayB else s).mech b = { s.mech b with drained := true } := by
    cases force with
    | false =>
      have drained := queue.drained_of_noEntry (reset rfl) b
      rw [if_neg nofun, ← drained]
      rfl
    | true =>
      rw [if_pos rfl]
      cases b with
      | bayA =>
        have other : ((s.discard .bayA).discard .bayB).mech .bayA = (s.discard .bayA).mech .bayA :=
          mech_other (b := .bayB) ((State.within_discard ..).2 (State.Within.refl ..))
        rw [other, mech_discard]
      | bayB =>
        have other : (s.discard .bayA).mech .bayB = s.mech .bayB :=
          mech_other (b := .bayA) ((State.within_discard ..).2 (State.Within.refl ..))
        rw [mech_discard, other]
  have freed (t : State) : ((t.freeSlot .bayA).freeSlot .bayB).mech b = t.mech b := by
    cases b with
    | bayA => exact (mech_other (b := .bayB) ((State.within_freeSlot ..).2 (State.Within.refl ..))).trans (mech_freeSlot ..)
    | bayB => exact (mech_freeSlot ..).trans (mech_other (b := .bayA) ((State.within_freeSlot ..).2 (State.Within.refl ..)))
  have lists (t : State) : ({ t with faults := {}, link := { t.link with resetPending := none } }.latchUnit .unitReset).mech b =
      t.mech b := by cases b <;> rfl
  unfold resetDecoder
  dsimp only
  rw [lists, mech_clearLatches, freed, discarded]

/-- A bay whose blocks have been reset parks, by an unload and a stop (R19). -/
theorem resetBay_ok {t : State} {b : BayId} (seek : (t.mech b).act.seek = none) (op : (t.mech b).op = none)
    (drained : (t.mech b).drained = true) (pend : (t.mech b).spindle.pendingSpinUp = false) : ((t.resetBay b).mech b).Ok := by
  apply unloadHeads_ok <;> rw [mech_modRecord]
  · exact ⟨by simp [seek], op, drained, rfl⟩
  · exact nofun
  · exact fun p => absurd (pend.symm.trans p) nofun

theorem softReset_both (queue : s.queue.Ok) (force : Bool) (reset : force = false → s.queue.entryCount = 0) :
    (s.softReset force).BothOk := by
  obtain ⟨t, decoded, blocks, same⟩ : ∃ t : State, t = ((s.resetDecoder force).modBay .bayA Bay.softReset).modBay .bayB Bay.softReset ∧
      (∀ b, t.bay b = ((s.resetDecoder force).bay b).softReset) ∧ t.queue = (s.resetDecoder force).queue :=
    ⟨_, rfl, fun b => by cases b <;> rfl, rfl⟩
  have pend (x : Spindle) : x.softReset.pendingSpinUp = false := by
    unfold Spindle.softReset
    dsimp only
    split <;> rfl
  have ready (u : State) (b : BayId) (h : u.mech b = t.mech b) : ((u.resetBay b).mech b).Ok := by
    have drained : (t.mech b).drained = true := by
      show t.queue.drained b = true
      rw [same]
      exact congrArg Mechanism.drained (mech_resetDecoder queue force reset b)
    apply resetBay_ok <;> rw [h]
    · rw [← act_eq_mech, blocks]; rfl
    · rw [← op_eq_mech, blocks]; rfl
    · exact drained
    · rw [← spindle_eq_mech, blocks]; exact pend _
  obtain ⟨u, budgeted, keeps⟩ : ∃ u : State, u = ({ t with budget := t.budget.softReset fun b => (t.bay b).spindle.state ==
      SpindleState.run } : State).endBudgetSignals ∧ ∀ b, u.mech b = t.mech b :=
    ⟨_, rfl, fun b => (mech_endBudgetSignals ..).trans (mech_budget ..)⟩
  unfold softReset
  dsimp only
  rw [← decoded, ← budgeted]
  have first : (u.resetBay .bayA).mech .bayB = u.mech .bayB :=
    mech_other (b := .bayA) ((within_resetBay ..).2 (State.Within.refl ..))
  have second : ((u.resetBay .bayA).resetBay .bayB).mech .bayA = (u.resetBay .bayA).mech .bayA :=
    mech_other (b := .bayB) ((within_resetBay ..).2 (State.Within.refl ..))
  intro b
  cases b with
  | bayA => rw [second]; exact ready u .bayA (keeps .bayA)
  | bayB => exact ready _ .bayB (first.trans (keeps .bayB))

end State

theorem execSoftReset_ends {s : State} (ok : s.BothOk) (queue : s.queue.Ok) (reset : s.ResetOk) : State.EndsOk (execSoftReset s) := by
  unfold execSoftReset
  split
  · rename_i force pending
    exact (State.softReset_both queue force fun off => reset (off ▸ pending)).next
  · exact ok.next

/-! ### Every step -/

/-- Every command but POWER_ON keeps the rules of the mechanics of both bays. -/
theorem exec_ends (c : Instr) {s : State} (ok : s.BothOk) (queue : s.queue.Ok) (reset : s.ResetOk) (running : ∀ p, c ≠ .powerOn p) :
    State.EndsOk (exec c s) := by
  cases c with
  | powerOn p => exact absurd rfl (running p)
  | softReset => exact execSoftReset_ends ok queue reset
  | frameDiscard chars => exact execFrameDiscard_ends ok chars
  | characterGapTimeout => exact execCharacterGapTimeout_ends ok
  | unknownMessage code bay body => exact execUnknownMessage_ends ok code bay body
  | identify bay clear => exact execIdentify_ends ok bay clear
  | report bay peek => exact execReport_ends ok bay peek
  | faults bay => exact execFaults_ends ok bay
  | set bay item itemBay value => exact execSet_ends ok bay item itemBay value
  | get bay item itemBay => exact execGet_ends ok bay item itemBay
  | counters bay clear => exact execCounters_ends ok bay clear
  | reset bay force => exact execReset_ends ok bay force
  | start bay => exact execStart_ends ok bay
  | stop bay => exact execStop_ends ok bay
  | lock bay => exact execLock_ends ok bay
  | unlock bay => exact execUnlock_ends ok bay
  | order bay => exact execOrder_ends ok bay
  | write bay block data => exact execWrite_ends ok bay block data
  | result bay => exact execResult_ends ok bay
  | abort bay => exact execAbort_ends ok bay
  | mapProbe bay block => exact execMapProbe_ends ok bay block
  | mapRead bay index => exact execMapRead_ends ok bay index
  | mapWrite bay index block spare => exact execMapWrite_ends ok bay index block spare
  | mapWriteAny bay block spare => exact execMapWriteAny_ends ok bay block spare
  | mapClear bay index => exact execMapClear_ends ok bay index
  | eject bay => exact execEject_ends ok bay
  | read bay block count => exact execRead_ends ok bay block count
  | readPhys bay cylinder head sector count => exact execReadPhys_ends ok bay cylinder head sector count
  | writePhys bay cylinder head sector data => exact execWritePhys_ends ok bay cylinder head sector data
  | flush bay => exact execFlush_ends ok bay
  | seek bay cylinder => exact execSeek_ends ok bay cylinder
  | mapSave bay => exact execMapSave_ends ok bay
  | supplyGoodRises => exact execSupplyGoodRises_ends ok
  | holdEnd => exact execHoldEnd_ends ok
  | supplyLoss => exact execSupplyLoss_ends ok
  | presentSenseRise bay => exact execPresentSenseRise_ends ok bay
  | insertion bay typeSense0 typeSense1 => exact execInsertion_ends ok bay typeSense0 typeSense1
  | presentSenseFall bay => exact execPresentSenseFall_ends ok bay
  | ejectButtonPress bay => exact execEjectButtonPress_ends ok bay
  | solenoidPulseEnd bay present => exact execSolenoidPulseEnd_ends ok bay present
  | removalTimeout bay => exact execRemovalTimeout_ends ok bay
  | measurementWindowStart bay => exact execMeasurementWindowStart_ends ok bay
  | measurementComplete bay raw => exact execMeasurementComplete_ends ok bay raw
  | attemptTimeout bay => exact execAttemptTimeout_ends ok bay
  | recoveryTimeout bay => exact execRecoveryTimeout_ends ok bay
  | budgetRequest bay kind => exact execBudgetRequest_ends ok bay kind
  | claimRelease bay consumer => exact execClaimRelease_ends ok bay consumer
  | withdrawal bay kind => exact execWithdrawal_ends ok bay kind
  | spinUpGrant bay => exact execSpinUpGrant_ends ok bay
  | recoverGrant bay => exact execRecoverGrant_ends ok bay
  | seekGrant bay => exact execSeekGrant_ends ok bay
  | loadGrant bay => exact execLoadGrant_ends ok bay
  | recalibrateGrant bay => exact execRecalibrateGrant_ends ok bay
  | solenoidGrant bay => exact execSolenoidGrant_ends ok bay
  | seekComplete bay sample => exact execSeekComplete_ends ok bay sample
  | seekTimeout bay => exact execSeekTimeout_ends ok bay
  | servoLoss bay => exact execServoLoss_ends ok bay
  | trackLoss bay => exact execTrackLoss_ends ok bay
  | loadGuardFound bay => exact execLoadGuardFound_ends ok bay
  | loadTimeout bay => exact execLoadTimeout_ends ok bay
  | recalibrationComplete bay => exact execRecalibrationComplete_ends ok bay
  | recalibrationFailed bay => exact execRecalibrationFailed_ends ok bay
  | unloadComplete bay => exact execUnloadComplete_ends ok bay
  | unloadFailed bay => exact execUnloadFailed_ends ok bay
  | evaluation => exact execEvaluation_ends ok
  | mediaChoice bay => exact execMediaChoice_ends ok bay
  | readPassEnd bay result => exact execReadPassEnd_ends ok bay result
  | sectorIdTimeout bay => exact execSectorIdTimeout_ends ok bay
  | writeAttemptDone bay => exact execWriteAttemptDone_ends ok bay
  | writeFault bay => exact execWriteFault_ends ok bay
  | entryPerformed bay => exact execEntryPerformed_ends ok bay
  | entryFailed bay => exact execEntryFailed_ends ok bay
  | entryAbandoned bay => exact execEntryAbandoned_ends ok bay
  | addressCharacter low => exact execAddressCharacter_ends ok low

theorem State.mechanicsOk_iff (s : State) : s.MechanicsOk ↔ s.BothOk ∧ s.ResetOk ∧ s.queue.Ok := by
  constructor
  · rintro ⟨bayA, bayB, reset, queue⟩
    refine ⟨fun b => ?_, reset, queue⟩
    cases b with
    | bayA => exact (s.mech_ok .bayA).2 bayA
    | bayB => exact (s.mech_ok .bayB).2 bayB
  · rintro ⟨both, reset, queue⟩
    exact ⟨(s.mech_ok .bayA).1 (both .bayA), (s.mech_ok .bayB).1 (both .bayB), reset, queue⟩

theorem exec_keeps_mechanics (c : Instr) {s t : State} (ok : s.MechanicsOk) (h : exec c s = .next t) : t.MechanicsOk := by
  by_cases on : ∃ p, c = .powerOn p
  · obtain ⟨p, rfl⟩ := on
    exact (rulesHoldAtPowerOn.2 p s t h).2.2.2
  · have running (p : PinLevels) (same : c = .powerOn p) : False := on ⟨p, same⟩
    obtain ⟨both, reset, queue⟩ := s.mechanicsOk_iff.1 ok
    obtain ⟨u, ends, kept⟩ := exec_ends c both queue reset running
    obtain ⟨v, goes, keeps⟩ := exec_goesOn c s running
    obtain rfl := Host.Outcome.next.inj (h.symm.trans ends)
    obtain rfl := Host.Outcome.next.inj (h.symm.trans goes)
    exact t.mechanicsOk_iff.2 ⟨kept, keeps.reset_ok reset, keeps.queue_ok queue⟩

/-- Settles O59: each operation keeps the rules of its bay's heads, spindle, solenoid and operation in flight, and each command is made
of operations within one bay. -/
theorem mechanicsRulesAreKept : Obligations.MechanicsRulesAreKept := by
  unfold Obligations.MechanicsRulesAreKept
  intro s t ok h
  have waiting (cs : List Instr) : (s.withPending cs).MechanicsOk := ⟨ok.bayA, ok.bayB, ok.reset, ok.queue⟩
  unfold step at h
  split at h
  · exact exec_keeps_mechanics _ (waiting _) h
  · unfold idle at h
    split at h
    · exact exec_keeps_mechanics _ ok h
    · obtain rfl := Host.Outcome.next.inj h
      exact ⟨ok.bayA, ok.bayB, ok.reset, ok.queue⟩

end Sys2Proof.Machine
end

section
/-! PROOFS. Latches, the fault list, the counters, RESET and the lock (O13, O14, O15, O19, O21). -/

namespace Sys2Proof.Machine

/-! ### Latches and ATTENTION -/

/-- The per-bay events in the order of their bits (section 11.6). -/
def BayEvent.ofBit (i : Nat) : BayEvent :=
  [.inserted, .unknownCartridge, .ready, .labelInvalid, .spinRetry, .spinFail, .speedLoss, .speedRecovered, .downshift, .upshift,
    .heatStep, .coilHot, .coilCool, .positionLost, .unloadFault, .writeFailed, .writesDiscarded, .ejectRefused, .ejected, .ejectJam,
    .cartridgeLost, .cleanDone, .parked, .labelSaveFailed, .resultReady, .counterThreshold].getD i .inserted

theorem BayEvent.ofBit_bit (e : BayEvent) : BayEvent.ofBit e.bit = e := by cases e <;> rfl
theorem BayEvent.bit_ofBit : ∀ i < 26, (BayEvent.ofBit i).bit = i := by decide
theorem BayEvent.bit_lt (e : BayEvent) : e.bit < 26 := by cases e <;> decide
theorem BayEvent.bit_inj {e f : BayEvent} : e.bit = f.bit ↔ e = f :=
  ⟨fun h => by rw [← e.ofBit_bit, h, f.ofBit_bit], congrArg _⟩

/-- The unit events in the order of their bits. -/
def UnitEvent.ofBit (i : Nat) : UnitEvent := [.unitReset, .supplyLoss, .supplyRestored, .linkError, .faultList].getD i .unitReset

theorem UnitEvent.ofBit_bit (u : UnitEvent) : UnitEvent.ofBit u.bit = u := by cases u <;> rfl
theorem UnitEvent.bit_ofBit : ∀ i < 5, (UnitEvent.ofBit i).bit = i := by decide
theorem UnitEvent.bit_lt (u : UnitEvent) : u.bit < 5 := by cases u <;> decide
theorem UnitEvent.bit_inj {u v : UnitEvent} : u.bit = v.bit ↔ u = v :=
  ⟨fun h => by rw [← u.ofBit_bit, h, v.ofBit_bit], congrArg _⟩

namespace State

variable (s : State)

theorem latched_latch (b c : BayId) (e f : BayEvent) : (s.latch b e).latched c f = (decide (b = c ∧ e = f) || s.latched c f) := by
  rcases b.eq_or_other c with rfl | rfl
  · simp only [latched, latch, modLatches_bay, BitVec.getLsbD_or, BitVec.getLsbD_twoPow, e.bit_lt, BayEvent.bit_inj, true_and]
    simp [Bool.or_comm]
  · have other : (s.latch b e).bay b.other = s.bay b.other := by simp [latch]
    simp [latched, other]

theorem unitLatched_latchUnit (u v : UnitEvent) : (s.latchUnit u).unitLatched v = (decide (u = v) || s.unitLatched v) := by
  simp [unitLatched, latchUnit, BitVec.getLsbD_twoPow, u.bit_lt, UnitEvent.bit_inj, Bool.or_comm]

/-- The kinds latched: a bit below 26 for a per-bay event of either bay, and the unit events from bit 26 on (R175). -/
theorem getLsbD_latchedKinds {i : Nat} (low : i < 31) : s.latchedKinds.getLsbD i = true ↔
    (∃ (b : BayId) (e : BayEvent), s.latched b e = true ∧ e.bit = i) ∨
      ∃ u : UnitEvent, s.unitLatched u = true ∧ 26 + u.bit = i := by
  have kinds : s.latchedKinds.getLsbD i = ((s.bayA.latches.events.getLsbD i || s.bayB.latches.events.getLsbD i) ||
      (!decide (i < 26) && s.events.getLsbD (i - 26))) := by
    simp [latchedKinds, low]
  rw [kinds, Bool.or_eq_true, Bool.or_eq_true, Bool.and_eq_true, Bool.not_eq_true', decide_eq_false_iff_not, Nat.not_lt]
  constructor
  · rintro ((a | b) | ⟨unit, u⟩)
    · exact .inl ⟨.bayA, .ofBit i, by rwa [latched, BayEvent.bit_ofBit i (BitVec.lt_of_getLsbD a)],
        BayEvent.bit_ofBit i (BitVec.lt_of_getLsbD a)⟩
    · exact .inl ⟨.bayB, .ofBit i, by rwa [latched, BayEvent.bit_ofBit i (BitVec.lt_of_getLsbD b)],
        BayEvent.bit_ofBit i (BitVec.lt_of_getLsbD b)⟩
    · have bit := UnitEvent.bit_ofBit (i - 26) (by omega)
      exact .inr ⟨.ofBit (i - 26), by rwa [unitLatched, bit], by omega⟩
  · rintro (⟨b, e, set, rfl⟩ | ⟨u, set, rfl⟩)
    · cases b with
      | bayA => exact .inl (.inl set)
      | bayB => exact .inl (.inr set)
    · exact .inr ⟨Nat.le_add_right 26 _, by rwa [Nat.add_sub_cancel_left]⟩

/-- ATTENTION is held while a latched kind is a member of the mask (R175). -/
theorem attention_iff : s.attention = true ↔ ∃ i < 31, s.latchedKinds.getLsbD i = true ∧ s.settings.eventMask.getLsbD i = true := by
  unfold attention
  rw [bne_iff_ne]
  constructor
  · intro set
    refine Classical.byContradiction fun none => ?_
    refine set (BitVec.eq_of_getLsbD_eq fun i low => ?_)
    rw [BitVec.getLsbD_and, BitVec.getLsbD_zero, Bool.eq_false_iff]
    exact fun both => none ⟨i, low, Bool.and_eq_true_iff.1 both⟩
  · rintro ⟨i, -, kind, mask⟩ zero
    have bit := congrArg (fun x : BitVec 31 => x.getLsbD i) zero
    simp [kind, mask] at bit

theorem attention_of_noLatch (a : s.bayA.latches = {}) (b : s.bayB.latches = {}) (e : s.events = 0#5) : s.attention = false := by
  simp [attention, latchedKinds, a, b, e]

end State

/-- Settles O13: each event has a bit of its own, and the mask's bits are those of the kinds. -/
theorem latchesAndAttention : Obligations.LatchesAndAttention := by
  unfold Obligations.LatchesAndAttention
  refine ⟨fun s b c e f u v => ⟨s.latched_latch b c e f, s.unitLatched_latchUnit u v, by simp [State.unitLatched], ?_⟩, fun s => ?_,
    fun s t receives h => ?_⟩
  · cases c <;> rfl
  · rw [State.attention_iff]
    constructor
    · rintro ⟨i, low, kind, mask⟩
      rcases (s.getLsbD_latchedKinds low).1 kind with ⟨b, e, set, rfl⟩ | ⟨u, set, rfl⟩
      · exact .inl ⟨b, e, set, mask⟩
      · exact .inr ⟨u, set, mask⟩
    · rintro (⟨b, e, set, mask⟩ | ⟨u, set, mask⟩)
      · have low : e.bit < 31 := Nat.lt_trans e.bit_lt (by decide)
        exact ⟨e.bit, low, (s.getLsbD_latchedKinds low).2 (.inl ⟨b, e, set, rfl⟩), mask⟩
      · have low : 26 + u.bit < 31 := Nat.add_lt_add_left u.bit_lt 26
        exact ⟨26 + u.bit, low, (s.getLsbD_latchedKinds low).2 (.inr ⟨u, set, rfl⟩), mask⟩
  · have answered := reportAnswers.1 s false receives
    obtain rfl := Host.Outcome.next.inj (answered.symm.trans h)
    exact State.attention_of_noLatch _ rfl rfl rfl

/-! ### The fault list (R138, R139) -/

/-- Settles O14: the cases of an append, and the reply that empties the list. -/
theorem faultListAndFaults : Obligations.FaultListAndFaults := by
  unfold Obligations.FaultListAndFaults
  refine ⟨fun s r => ⟨fun empty => ?_, fun some room => ?_, fun full => ?_⟩, fun s receives => ?_⟩
  · simp [State.appendFault, empty, State.latchUnit]
    rfl
  · have room : s.faults.records.length < Config.maxFaults := room
    rw [State.appendFault, if_pos room]
    exact if_neg some
  · have full : ¬ s.faults.records.length < Config.maxFaults := Nat.not_lt.2 full
    rw [State.appendFault, if_neg full]
  · rw [exec_faults, execFaults, State.forUnit_field receives]
    refine congrArg (fun l => Host.Outcome.next { s.replied 0x03 255#8 .ok l with faults := {} }) (?_ : s.faults.body = _)
    refine congrArg (fun f => BitVec.ofNat 8 s.faults.records.length :: s.faults.records.flatMap f ++
      [BitVec.ofNat 8 s.faults.overflow]) (funext fun r => ?_)
    cases r with
    | writeFailed b block => cases b <;> rfl
    | writesDiscarded b n => cases b <;> rfl

/-! ### The counters (R152, R153) -/

theorem State.raise_of_crossing (s : State) {b : BayId} {n : CounterName} {amount : Nat}
    (crosses : (s.bay b).counters.counts[n.index] < (s.bay b).counters.thresholds[n.index] ∧
      (s.bay b).counters.thresholds[n.index] ≤ min Config.max16 ((s.bay b).counters.counts[n.index] + amount)) :
    s.raise b n amount = (s.modCounters b fun c =>
      { c with counts := c.counts.set n.index (min Config.max16 ((s.bay b).counters.counts[n.index] + amount)) }).latchCounter b n := by
  unfold State.raise
  dsimp only
  rw [State.modCounters_bay, if_pos crosses]

theorem State.raise_of_quiet (s : State) {b : BayId} {n : CounterName} {amount : Nat}
    (quiet : ¬ ((s.bay b).counters.counts[n.index] < (s.bay b).counters.thresholds[n.index] ∧
      (s.bay b).counters.thresholds[n.index] ≤ min Config.max16 ((s.bay b).counters.counts[n.index] + amount))) :
    s.raise b n amount = s.modCounters b fun c =>
      { c with counts := c.counts.set n.index (min Config.max16 ((s.bay b).counters.counts[n.index] + amount)) } := by
  unfold State.raise
  dsimp only
  rw [State.modCounters_bay, if_neg quiet]

/-- Settles O15: a rise that crosses its threshold and one that does not, and the reply of COUNTERS. -/
theorem countersRiseAndAnswer : Obligations.CountersRiseAndAnswer := by
  unfold Obligations.CountersRiseAndAnswer
  refine ⟨fun s b n amount => ⟨fun below reached => ?_, fun quiet => ?_⟩, fun s clear receives => ?_⟩
  · have crosses : (s.bay b).counters.counts[n.index] < (s.bay b).counters.thresholds[n.index] ∧
        (s.bay b).counters.thresholds[n.index] ≤ min Config.max16 ((s.bay b).counters.counts[n.index] + amount) := ⟨below, reached⟩
    have raised := s.raise_of_crossing crosses
    rw [raised]
    cases b <;> rfl
  · exact s.raise_of_quiet quiet
  · rw [exec_counters, execCounters, State.forUnit_field receives]
    dsimp only
    rw [List.flatMap_append]
    cases clear <;> rfl

/-! ### RESET (R178) -/

/-- A message sent while the unit does not receive is lost (R167). -/
theorem exec_message_lost {i : Instr} {s : State} (deaf : s.receives = false) (message : i.message ≠ none) : exec i s = .next s := by
  have lost (act : State → State) : s.takeMessage act = s := State.takeMessage_lost deaf act
  have lostMap (code field : Byte) (x y z : Option Nat) (act : State → BayId → State) : s.mapMessage code field x y z act = s := by
    unfold State.mapMessage
    exact lost _
  cases i with
  | unknownMessage | identify | report | faults | set | get | counters | reset | start | stop | lock | unlock | order | write | result
  | abort | eject | read | readPhys | writePhys | flush | seek | mapSave => exact congrArg Host.Outcome.next (lost _)
  | mapProbe | mapRead | mapWrite | mapWriteAny | mapClear => exact congrArg Host.Outcome.next (lostMap ..)
  | powerOn | softReset | frameDiscard | characterGapTimeout | supplyGoodRises | holdEnd | supplyLoss | presentSenseRise | insertion
  | presentSenseFall | ejectButtonPress | solenoidPulseEnd | removalTimeout | measurementWindowStart | measurementComplete
  | attemptTimeout | recoveryTimeout | budgetRequest | claimRelease | withdrawal | spinUpGrant | recoverGrant | seekGrant | loadGrant
  | recalibrateGrant | solenoidGrant | seekComplete | seekTimeout | servoLoss | trackLoss | loadGuardFound | loadTimeout
  | recalibrationComplete | recalibrationFailed | unloadComplete | unloadFailed | evaluation | mediaChoice | readPassEnd
  | sectorIdTimeout | writeAttemptDone | writeFault | entryPerformed | entryFailed | entryAbandoned | addressCharacter =>
    exact absurd rfl message

/-- Settles O19: RESET's two answers, and what is lost until the soft reset. -/
theorem resetIsJudged : Obligations.ResetIsJudged := by
  unfold Obligations.ResetIsJudged
  refine ⟨fun s force receives => ⟨fun allowed => ?_, fun kept held => ?_⟩, fun i s pending sent => ?_⟩
  · have passes : ¬ (force = false ∧ (s.setAssembly .idle).queue.entryCount ≠ 0) := by
      rintro ⟨kept, held⟩
      rcases allowed with forced | empty
      · exact absurd (forced.symm.trans kept) nofun
      · exact held (List.length_eq_zero_iff.2 empty)
    rw [exec_reset, execReset, State.forUnit_field receives, if_neg passes]
    rfl
  · have busy : force = false ∧ (s.setAssembly .idle).queue.entryCount ≠ 0 := ⟨kept, fun none => held (List.length_eq_zero_iff.1 none)⟩
    rw [exec_reset, execReset, State.forUnit_field receives, if_pos busy]
    rfl
  · have deaf : s.receives = false := by
      rw [State.receives, Option.isNone_eq_false_iff]
      exact Option.isSome_iff_ne_none.2 pending
    rcases sent with sent | ⟨low, rfl⟩ | ⟨chars, rfl⟩
    · exact exec_message_lost deaf sent
    · rw [exec_addressCharacter, execAddressCharacter, deaf]
      rfl
    · rw [exec_frameDiscard, execFrameDiscard, deaf]
      rfl

/-! ### The lock (R154) -/

/-- Settles O21: the type code decides. -/
theorem lockAndUnlock : Obligations.LockAndUnlock := by
  unfold Obligations.LockAndUnlock
  intro s b receives
  dsimp only
  refine ⟨fun data => ?_, fun one two => ?_⟩
  · have data : isData ((s.setAssembly .idle).bay b).record.typeCode = true := by simpa [isData] using data
    rw [exec_lock, execLock, exec_unlock, execUnlock, State.forBay_field receives, State.forBay_field receives, if_pos data, if_pos data]
    cases b <;> exact ⟨rfl, rfl⟩
  · have none : ¬ isData ((s.setAssembly .idle).bay b).record.typeCode = true := by simp [isData, one, two]
    rw [exec_lock, execLock, exec_unlock, execUnlock, State.forBay_field receives, State.forBay_field receives, if_neg none, if_neg none]
    exact ⟨rfl, rfl⟩

end Sys2Proof.Machine
end

section
/-! PROOFS. SET and GET (O16, O17, O18). -/

namespace Sys2Proof.Machine

/-! ### SET (R176) -/

section
variable {s : State} {item : Byte} {value : BitVec 32} (receives : s.receives = true)
include receives

/-- SET of a setting that belongs to no bay, which the settings take (R176). -/
theorem exec_set_stored {d : Settings} {n : Nat} (threshold : thresholdName item.toNat = none) (capacity : item.toNat ≠ 7)
    (stored : s.settings.store item.toNat value.toNat = some (d, n)) :
    exec (.set 255#8 item 255#8 value) s = .next (({ s with settings := d } : State).replied 0x04 255#8 .ok (item :: bytes4 n)) := by
  have taken : (s.setAssembly .idle).store item.toNat 255#8 value.toNat = some ((s.setAssembly .idle).withSettings d, n) := by
    have settings : (s.setAssembly .idle).settings.store item.toNat value.toNat = some (d, n) := stored
    unfold State.store
    split
    · rename_i h
      exact absurd (threshold.symm.trans h) nofun
    · rw [if_neg (by simp [unitField]), if_neg capacity, settings]
      rfl
  rw [exec_set, execSet, State.forUnit_field receives, taken]
  rfl

/-- A SET that nothing stores is refused BAD VALUE, with its item (R176, R169). -/
theorem exec_set_refused {itemBay : Byte} (refused : (s.setAssembly .idle).store item.toNat itemBay value.toNat = none) :
    exec (.set 255#8 item itemBay value) s = .next (s.replied 0x04 255#8 .badValue [item]) := by
  rw [exec_set, execSet, State.forUnit_field receives, refused]
  rfl

end

theorem State.store_setting_none {s : State} {item v : Nat} (threshold : thresholdName item = none) (capacity : item ≠ 7)
    (refused : s.settings.store item v = none) : s.store item 255#8 v = none := by
  unfold State.store
  split
  · rename_i h
    exact absurd (threshold.symm.trans h) nofun
  · rw [if_neg (by simp [unitField]), if_neg capacity, refused]
    rfl

theorem onOff_eq (v : Nat) : onOff v = if v ≤ 1 then some (decide (v = 1)) else none := by
  unfold onOff
  by_cases one : v = 1
  · simp [one]
  · by_cases zero : v = 0
    · simp [zero]
    · rw [if_neg one, if_neg zero, if_neg (by omega)]

theorem Settings.heatOrdered_iff (c : Settings) : c.heatOrdered = true ↔ c.heatRelease < c.heatTop ∧ c.heatTop < c.heatTrip := by
  simp [Settings.heatOrdered]

/-- Settles O16: each item's rule in the settings, and the reply of a SET stored or refused. -/
theorem setStoresASetting : Obligations.SetStoresASetting := by
  unfold Obligations.SetStoresASetting
  intro s value receives
  dsimp only
  have stored {item : Byte} {d : Settings} {n : Nat} (h : s.settings.store item.toNat value.toNat = some (d, n))
      (threshold : thresholdName item.toNat = none) (capacity : item.toNat ≠ 7) :=
    exec_set_stored receives threshold capacity h
  have refused {item : Byte} (h : s.settings.store item.toNat value.toNat = none) (threshold : thresholdName item.toNat = none)
      (capacity : item.toNat ≠ 7) : exec (.set 255#8 item 255#8 value) s = .next (s.replied 0x04 255#8 .badValue [item]) :=
    exec_set_refused receives (State.store_setting_none threshold capacity h)
  refine ⟨?_, stored rfl rfl (by decide), ?_, ?_, stored rfl rfl (by decide), ?_, stored rfl rfl (by decide), stored rfl rfl (by decide),
    ?_, ?_, ?_, stored rfl rfl (by decide), ?_⟩
  · split <;> rename_i on
    · exact stored (by simp [Settings.store, onOff_eq, on]) rfl (by decide)
    · exact refused (by simp [Settings.store, onOff_eq, on]) rfl (by decide)
  · split <;> rename_i member
    · exact stored (if_pos (by simpa using member)) rfl (by decide)
    · exact refused (if_neg (by simpa using member)) rfl (by decide)
  · split <;> rename_i member
    · exact stored (if_pos (by simpa using member)) rfl (by decide)
    · exact refused (if_neg (by simpa using member)) rfl (by decide)
  · split <;> rename_i on
    · exact stored (by simp [Settings.store, onOff_eq, on]) rfl (by decide)
    · exact refused (by simp [Settings.store, onOff_eq, on]) rfl (by decide)
  · split <;> rename_i order
    · exact stored (if_pos ((Settings.heatOrdered_iff _).2 order)) rfl (by decide)
    · exact refused (if_neg fun h => order ((Settings.heatOrdered_iff _).1 h)) rfl (by decide)
  · split <;> rename_i order
    · exact stored (if_pos ((Settings.heatOrdered_iff _).2 order)) rfl (by decide)
    · exact refused (if_neg fun h => order ((Settings.heatOrdered_iff _).1 h)) rfl (by decide)
  · split <;> rename_i order
    · exact stored (if_pos ((Settings.heatOrdered_iff _).2 order)) rfl (by decide)
    · exact refused (if_neg fun h => order ((Settings.heatOrdered_iff _).1 h)) rfl (by decide)
  · have mask : BitVec.ofNat 31 value.toNat = value.setWidth 31 := by
      apply BitVec.eq_of_toNat_eq
      simp
    rw [← mask]
    split <;> rename_i low
    · exact stored (if_pos low) rfl (by decide)
    · exact refused (if_neg low) rfl (by decide)

/-- An item from 20 on, up to 26, is the threshold of its counter. -/
theorem thresholdName_of_index {item : Nat} {name : CounterName} (h : item = 20 + name.index.val) : thresholdName item = some name := by
  subst h
  cases name <;> rfl

theorem thresholdName_none {item : Nat} (h : item < 20 ∨ 26 < item) : thresholdName item = none := by
  unfold thresholdName
  split <;> first | omega | rfl

theorem thresholdName_some {item : Nat} (low : 20 ≤ item) (high : item ≤ 26) : ∃ name, thresholdName item = some name := by
  have cases : item = 20 ∨ item = 21 ∨ item = 22 ∨ item = 23 ∨ item = 24 ∨ item = 25 ∨ item = 26 := by omega
  rcases cases with rfl | rfl | rfl | rfl | rfl | rfl | rfl <;> exact ⟨_, rfl⟩

theorem bayOf_none {field : Byte} (h : 1 < field.toNat) : bayOf field = none := by
  unfold bayOf
  rw [if_neg, if_neg]
  · rintro rfl
    exact absurd h (by decide)
  · rintro rfl
    exact absurd h (by decide)

/-- No setting belongs to an item above 14 or to item 0. -/
theorem Settings.store_none (c : Settings) {item : Nat} (v : Nat) (h : item = 0 ∨ 14 < item) : c.store item v = none := by
  unfold Settings.store
  dsimp only
  split <;> first | omega | rfl

/-- Settles O17: the bays a threshold is stored for, and the items and bays refused. -/
theorem setThresholdAndRefusals : Obligations.SetThresholdAndRefusals := by
  unfold Obligations.SetThresholdAndRefusals
  intro s item itemBay value receives
  dsimp only
  refine ⟨fun name index => ?_, fun other => ?_⟩
  · have isThreshold := thresholdName_of_index index
    have bytes (n : Nat) (low : n ≤ 65535) : bytes4 n = [BitVec.ofNat 8 n, BitVec.ofNat 8 (n / 256), 0#8, 0#8] := by
      rw [bytes4, Nat.div_eq_of_lt (show n < 65536 by omega), Nat.div_eq_of_lt (show n < 16777216 by omega)]
    have low : max 1 (min 65535 value.toNat) ≤ 65535 := by omega
    refine ⟨fun b own => ?_, fun both => ?_, fun above no => ?_⟩
    · have taken : (s.setAssembly .idle).store item.toNat itemBay value.toNat =
          some ((s.setAssembly .idle).setThreshold b name (max 1 (min 65535 value.toNat)), max 1 (min 65535 value.toNat)) := by
        rw [State.store, isThreshold, own, bayOf_field]
        rfl
      rw [exec_set, execSet, State.forUnit_field receives, taken]
      dsimp only
      rw [bytes _ low]
      cases b <;> rfl
    · have taken : (s.setAssembly .idle).store item.toNat itemBay value.toNat =
          some (((s.setAssembly .idle).setThreshold .bayA name (max 1 (min 65535 value.toNat))).setThreshold .bayB name
            (max 1 (min 65535 value.toNat)), max 1 (min 65535 value.toNat)) := by
        rw [State.store, isThreshold, both]
        rfl
      rw [exec_set, execSet, State.forUnit_field receives, taken]
      dsimp only
      rw [bytes _ low]
      rfl
    · refine exec_set_refused receives ?_
      rw [State.store, isThreshold, bayOf_none above]
      exact if_neg no
  · refine exec_set_refused receives ?_
    have plain : thresholdName item.toNat = none := thresholdName_none (by omega)
    rw [State.store, plain]
    dsimp only
    split
    · rfl
    · rename_i unit
      have unit : itemBay = 255#8 := Classical.not_not.1 unit
      have range : item.toNat = 0 ∨ 14 < item.toNat := by
        rcases other with h | ⟨h, -⟩ | h | ⟨-, h⟩
        · exact .inl h
        · exact .inr h
        · exact .inr (by omega)
        · exact absurd unit h
      rw [if_neg (by omega), Settings.store_none _ _ range]
      rfl

/-! ### GET (R176) -/

/-- The bytes of a plan record (R72, R73). -/
theorem planBody_some (p : Plan) : planBody (some p) =
    [BitVec.ofNat 8 p.targetCylinder, BitVec.ofNat 8 (p.targetCylinder / 256), BitVec.ofNat 8 p.targetHead, BitVec.ofNat 8 p.distance,
      BitVec.ofNat 8 (p.distance / 256), BitVec.ofNat 8 p.direction.code, BitVec.ofNat 8 p.requested, BitVec.ofNat 8 p.level,
      BitVec.ofNat 8 p.ramp] ++ p.coastOrExtra.body ++
    [BitVec.ofNat 8 p.moving, BitVec.ofNat 8 p.settle, BitVec.ofNat 8 p.timeout, BitVec.ofNat 8 (p.timeout / 256),
      BitVec.ofNat 8 p.draw, BitVec.ofNat 8 p.heatAdd, BitVec.ofNat 8 p.outcome.code] := by
  simp [planBody, byte, bytes2]

section
variable {s : State} {item itemBay : Byte} (receives : s.receives = true)
include receives

/-- GET of an item that has a value (R176). -/
theorem exec_get_value {body : List Byte} (value : (s.setAssembly .idle).item item.toNat itemBay = some body) :
    exec (.get 255#8 item itemBay) s = .next (s.replied 0x05 255#8 .ok (item :: itemBay :: body)) := by
  rw [exec_get, execGet, State.forUnit_field receives, value]
  rfl

theorem exec_get_none (none : (s.setAssembly .idle).item item.toNat itemBay = none) :
    exec (.get 255#8 item itemBay) s = .next (s.replied 0x05 255#8 .badValue) := by
  rw [exec_get, execGet, State.forUnit_field receives, none]
  rfl

end

theorem Settings.value_none (c : Settings) {item : Nat} (h : item = 0 ∨ 14 < item) : c.value item = none := by
  unfold Settings.value
  split <;> first | omega | rfl

/-- Settles O18: the value of each item, and what has none. -/
theorem getAnswers : Obligations.GetAnswers := by
  unfold Obligations.GetAnswers
  intro s item itemBay receives
  dsimp only
  refine ⟨fun unit => ?_, fun b name own index => ?_, fun other => ?_⟩
  · subst unit
    refine ⟨?_, ?_, ?_, ?_, ?_, ?_, ?_, ?_, ?_, ?_, ?_, ?_, ?_, ?_, ?_, ?_, ?_⟩ <;> rintro rfl
    all_goals refine exec_get_value receives ?_
    case refine_15 | refine_16 =>
      refine congrArg some ?_
      split <;> rename_i plan
      · exact congrArg planBody plan
      · refine (congrArg planBody plan).trans ((planBody_some _).trans ?_)
        rename_i p
        cases p.direction <;> cases p.coastOrExtra <;> cases p.outcome <;> rfl
    case refine_17 =>
      refine congrArg (fun f => some (BitVec.ofNat 8 s.queue.items.length :: s.queue.items.flatMap f)) (funext fun i => ?_)
      cases i with
      | entry e =>
        obtain ⟨bay, block, slot, writing, attempts, arrival⟩ := e
        cases bay <;> cases writing <;> rfl
      | mark b k => cases b <;> cases k <;> rfl
    all_goals rfl
  · have isThreshold := thresholdName_of_index index
    refine exec_get_value receives ?_
    unfold State.item
    rw [isThreshold, own, bayOf_field]
    cases b <;> rfl
  · refine exec_get_none receives ?_
    unfold State.item
    cases threshold : thresholdName item.toNat with
    | some name =>
      have range : 20 ≤ item.toNat ∧ item.toNat ≤ 26 := by
        refine Classical.byContradiction fun out => ?_
        exact absurd ((thresholdName_none (by omega)).symm.trans threshold) nofun
      have above : 1 < itemBay.toNat := by omega
      dsimp only
      rw [bayOf_none above]
      rfl
    | none =>
      have range : item.toNat < 20 ∨ 26 < item.toNat := by
        refine Classical.byContradiction fun within => ?_
        have range : 20 ≤ item.toNat ∧ item.toNat ≤ 26 := by omega
        obtain ⟨low, high⟩ := range
        obtain ⟨name, named⟩ := thresholdName_some low high
        rw [named] at threshold
        contradiction
      dsimp only
      split
      · rfl
      · rename_i unit
        have unit : itemBay = 255#8 := Classical.not_not.1 unit
        have range : (item.toNat = 0 ∨ 14 < item.toNat) ∧ item.toNat ≠ 40 ∧ item.toNat ≠ 41 ∧ item.toNat ≠ 42 := by
          rcases other with h | h | h | h | ⟨-, h⟩ | ⟨-, h⟩ | h
          · omega
          · omega
          · omega
          · omega
          · exact absurd unit h
          · exact absurd unit h
          · omega
        split
        · omega
        · omega
        · omega
        · omega
        · exact congrArg (Option.map bytes4) (Settings.value_none _ range.1)

end Sys2Proof.Machine
end

section
/-! PROOFS. The Link Port: when an assembly opens, when a frame is discarded, and how a frame is gathered (O6, O8). -/

namespace Sys2Proof.Machine

/-! ### The characters (R167, R168) -/

theorem addressByte_command (a : BitVec 2) : addressByte a false = a.setWidth 8 := by simp [addressByte]

theorem namesUnit_iff (a : BitVec 2) (low : Byte) : namesUnit a low = true ↔ low = a.setWidth 8 := by
  simp [namesUnit, addressByte_command]

namespace State

variable {s : State} {gathered : List Byte}

/-- A discard counts an error and latches LINK ERROR (R168). -/
theorem discardFrame_eq (s : State) : s.discardFrame =
    { s with link := { s.link with assembly := .idle, errors := min 65535 (s.link.errors + 1) }, events := s.events ||| 8#5 } := rfl

theorem takeChar_bad_idle (idle : s.link.assembly = .idle) {c : LinkChar} (bad : c.stop = false) : s.takeChar c = s := by
  simp [takeChar, bad, idle]

theorem takeChar_bad_opened (opened : s.link.assembly = .opened gathered) {c : LinkChar} (bad : c.stop = false) :
    s.takeChar c = s.discardFrame := by
  simp [takeChar, bad, opened]

theorem takeChar_address {c : LinkChar} (good : c.stop = true) (ninth : c.ninth = true) : s.takeChar c = s.takeAddress c.low := by
  simp [takeChar, good, ninth]

theorem takeChar_data {c : LinkChar} (good : c.stop = true) (data : c.ninth = false) : s.takeChar c = s.takeData c.low := by
  simp [takeChar, good, data]

theorem takeData_idle (idle : s.link.assembly = .idle) (low : Byte) : s.takeData low = s := by simp [takeData, idle]

theorem takeData_first (opened : s.link.assembly = .opened gathered) {low : Byte} (first : (gathered ++ [low]).length < 2) :
    s.takeData low = s.setAssembly (.opened (gathered ++ [low])) := by
  unfold takeData
  rw [opened]
  exact if_pos first

/-- A character after the length characters ends the assembly or is gathered (R167, R168). -/
theorem takeData_later (opened : s.link.assembly = .opened gathered) {low : Byte} (later : 2 ≤ (gathered ++ [low]).length) :
    s.takeData low = if !lengthOk (gathered ++ [low]) then s.discardFrame
      else if frameComplete (gathered ++ [low]) then
        (if frameGood (gathered ++ [low]) then s.setAssembly .idle else s.discardFrame)
      else s.setAssembly (.opened (gathered ++ [low])) := by
  unfold takeData
  rw [opened]
  exact if_neg (Nat.not_lt.2 later)

theorem takeAddress_idle (idle : s.link.assembly = .idle) (low : Byte) :
    s.takeAddress low = if low = s.link.unitAddress.setWidth 8 then s.setAssembly (.opened []) else s := by
  simp [takeAddress, idle, namesUnit_iff]

theorem takeAddress_opened (opened : s.link.assembly = .opened gathered) (low : Byte) :
    s.takeAddress low =
      if low = s.link.unitAddress.setWidth 8 then s.discardFrame.setAssembly (.opened []) else s.discardFrame := by
  simp [takeAddress, opened, namesUnit_iff]

theorem setAssembly_self (h : s.link.assembly = a) : s.setAssembly a = s := by
  subst h
  rfl

/-- A character leaves a RESET that waits (R178). -/
theorem takeChar_receives (c : LinkChar) : (s.takeChar c).receives = s.receives := by
  have address (low : Byte) : (s.takeAddress low).receives = s.receives := by
    cases h : s.link.assembly with
    | idle => rw [takeAddress_idle h]; split <;> rfl
    | opened g => rw [takeAddress_opened h]; split <;> rfl
  have data (low : Byte) : (s.takeData low).receives = s.receives := by
    unfold takeData
    dsimp only
    repeat' split
    all_goals rfl
  unfold takeChar
  split
  · split <;> rfl
  · split
    · exact address _
    · exact data _

end State

/-- Settles O6: the discards and the openings, one rule for each kind of character. -/
theorem assemblyOpensAndDiscards : Obligations.AssemblyOpensAndDiscards := by
  unfold Obligations.AssemblyOpensAndDiscards
  have taken {s : State} (receives : s.receives = true) (c : LinkChar) : exec (.frameDiscard [c]) s = .next (s.takeChar c) := by
    rw [exec_frameDiscard, execFrameDiscard, receives]
    rfl
  refine ⟨fun s gathered c receives opened spoils => ?_, fun s c idle passes => ?_, fun s => ⟨fun gathered opened => ?_, fun idle => ?_⟩,
    fun s low receives => ⟨fun idle => ?_, fun gathered opened => ?_, fun c rest => ?_⟩⟩
  · rw [taken receives, ← s.discardFrame_eq]
    refine congrArg _ ?_
    rcases spoils with bad | ⟨good, ninth, other⟩ | ⟨good, data, second, out⟩ | ⟨good, data, some, complete, mismatch⟩
    · exact State.takeChar_bad_opened opened bad
    · rw [State.takeChar_address good ninth, State.takeAddress_opened opened, if_neg]
      rwa [← addressByte_command]
    · have bad : lengthOk (gathered ++ [c.low]) = false := by
        have all : (gathered ++ [c.low]).take 2 = gathered ++ [c.low] := List.take_of_length_le (by simp [second])
        simp only [lengthOk, frameLength, all, decide_eq_false_iff_not]
        omega
      rw [State.takeChar_data good data, State.takeData_later opened (by simp [second]), bad]
      rfl
    · rw [State.takeChar_data good data, State.takeData_later opened (by simp; omega), complete, mismatch]
      exact ite_self _
  · cases receives : s.receives with
    | false => rw [exec_frameDiscard, execFrameDiscard, receives]; rfl
    | true =>
      rw [taken receives]
      refine congrArg _ ?_
      by_cases bad : c.stop = false
      · exact State.takeChar_bad_idle idle bad
      · have good : c.stop = true := by simpa using bad
        have data : c.ninth = false := by simpa [good] using passes
        rw [State.takeChar_data good data, State.takeData_idle idle]
  · have later : max s.clock (s.clock + 1000) = s.clock + 1000 := by omega
    rw [exec_characterGapTimeout, execCharacterGapTimeout, opened, ← later]
    rfl
  · rw [exec_characterGapTimeout, execCharacterGapTimeout, idle]
  · rw [exec_addressCharacter, execAddressCharacter, receives, if_pos rfl, State.takeAddress_idle idle]
    split
    · rfl
    · exact congrArg _ (State.setAssembly_self idle).symm
  · rw [exec_addressCharacter, execAddressCharacter, receives, if_pos rfl, State.takeAddress_opened opened]
    split <;> rfl
  · refine ⟨s.takeChar c, taken receives c, ?_⟩
    rw [exec_frameDiscard, execFrameDiscard, exec_frameDiscard, execFrameDiscard, State.takeChar_receives, receives]
    rfl

/-! ### How a frame is gathered (R167) -/

/-- A character of a frame after its address character. -/
def dataChar (c : Byte) : LinkChar := { low := c, ninth := false, stop := true }

/-- The rest of a good frame is gathered to its end (R167). -/
theorem gather_rest {frame : List Byte} (ok : lengthOk frame = true) (complete : frameComplete frame = true) (good : frameGood frame = true)
    (rest : List Byte) {s : State} (pre : List Byte) (opened : s.link.assembly = .opened pre) (whole : pre ++ rest = frame)
    (some : rest ≠ []) : (rest.map dataChar).foldl State.takeChar s = s.setAssembly .idle := by
  induction rest generalizing s pre with
  | nil => exact absurd rfl some
  | cons c rest ih =>
    have split : (pre ++ [c]) ++ rest = frame := by simpa using whole
    have step : s.takeChar (dataChar c) = if rest = [] then s.setAssembly .idle else s.setAssembly (.opened (pre ++ [c])) := by
      rw [State.takeChar_data rfl rfl]
      show s.takeData c = _
      have total : frame.length = (pre ++ [c]).length + rest.length := by rw [← split, List.length_append]
      have due : frame.length = 2 + frameLength frame + 2 := of_decide_eq_true complete
      by_cases first : (pre ++ [c]).length < 2
      · have more : rest ≠ [] := by
          rintro rfl
          simp only [List.length_nil] at total
          omega
        rw [State.takeData_first opened first, if_neg more]
      · have same : frameLength (pre ++ [c]) = frameLength frame := by
          rw [frameLength, frameLength, ← split, List.take_append_of_le_length (Nat.not_lt.1 first)]
        have okHere : lengthOk (pre ++ [c]) = true := by simpa only [lengthOk, same] using ok
        rw [State.takeData_later opened (Nat.not_lt.1 first), okHere]
        by_cases last : rest = []
        · subst last
          rw [List.append_nil] at split
          rw [split, complete, good]
          rfl
        · have partly : frameComplete (pre ++ [c]) = false := by
            refine decide_eq_false fun h => last (List.length_eq_zero_iff.1 ?_)
            rw [same] at h
            omega
          rw [partly, if_neg last]
          rfl
    rw [List.map_cons, List.foldl_cons, step]
    split
    · rename_i last
      subst last
      rfl
    · rename_i last
      exact (ih (s := s.setAssembly (.opened (pre ++ [c]))) (pre ++ [c]) rfl split last)

/-- Data characters pass over an idle assembly (R167). -/
theorem idle_passes {s : State} (idle : s.link.assembly = .idle) (chars : List Byte) : (chars.map dataChar).foldl State.takeChar s = s := by
  induction chars with
  | nil => rfl
  | cons c rest ih =>
    rw [List.map_cons, List.foldl_cons, State.takeChar_data rfl rfl, State.takeData_idle idle]
    exact ih

/-! ### The frame of a message (section 11.6) -/

theorem ofBytes_bytes2 {n : Nat} (low : n < 65536) : ofBytes (bytes2 n) = n := by
  simp [bytes2, ofBytes]
  omega

section
variable (code bay : Byte) {body : List Byte} (short : body.length ≤ 1038)

/-- What the length and the check of a frame cover. -/
theorem commandFrame_eq (body : List Byte) : commandFrame code bay body =
    bytes2 (body.length + 2) ++ (code :: bay :: body) ++ checkBytes (frameCheck (bytes2 (body.length + 2) ++ (code :: bay :: body))) :=
  rfl

include short

theorem frameLength_commandFrame : frameLength (commandFrame code bay body) = body.length + 2 := by
  have first : (commandFrame code bay body).take 2 = bytes2 (body.length + 2) := rfl
  rw [frameLength, first, ofBytes_bytes2 (by omega)]

theorem lengthOk_commandFrame : lengthOk (commandFrame code bay body) = true := by
  rw [lengthOk, frameLength_commandFrame code bay short, decide_eq_true_eq]
  omega

theorem frameComplete_commandFrame : frameComplete (commandFrame code bay body) = true := by
  rw [frameComplete, frameLength_commandFrame code bay short, decide_eq_true_eq]
  simp [commandFrame_eq, bytes2, checkBytes]
  omega

theorem frameGood_commandFrame : frameGood (commandFrame code bay body) = true := by
  have covered : 2 + (body.length + 2) = (bytes2 (body.length + 2) ++ (code :: bay :: body)).length := by
    simp [bytes2]
    omega
  rw [frameGood, frameLength_commandFrame code bay short, covered, commandFrame_eq, List.take_left, List.drop_left]
  exact decide_eq_true rfl

/-- A frame reads back as its code, bay field and body. -/
theorem readFrame_commandFrame : readFrame (commandFrame code bay body) = some (parseMessage code bay body) := by
  have whole := And.intro (lengthOk_commandFrame code bay short)
    (And.intro (frameComplete_commandFrame code bay short) (frameGood_commandFrame code bay short))
  have counted : ((commandFrame code bay body).drop 2).take (body.length + 2) = code :: bay :: body := by
    have rest : (commandFrame code bay body).drop 2 = (code :: bay :: body) ++
        checkBytes (frameCheck (bytes2 (body.length + 2) ++ (code :: bay :: body))) := rfl
    rw [rest]
    exact List.take_left' rfl
  rw [readFrame, if_pos whole, frameLength_commandFrame code bay short, counted]

end

/-- The body of a well-formed message fits its frame. -/
theorem message_short {i : Instr} {code bay : Byte} {body : List Byte} (wellFormed : i.wellFormed = true)
    (message : i.message = some (code, bay, body)) : body.length ≤ 1038 := by
  cases i with
  | unknownMessage c b l =>
    cases message
    exact (of_decide_eq_true wellFormed).1
  | identify | report | faults | set | get | counters | reset | start | stop | lock | unlock | order | write | result | abort
  | mapProbe | mapRead | mapWrite | mapWriteAny | mapClear | eject | read | readPhys | writePhys | flush | seek | mapSave =>
    cases message
    simp [field2, field4]
  | powerOn | softReset | frameDiscard | characterGapTimeout | supplyGoodRises | holdEnd | supplyLoss | presentSenseRise | insertion
  | presentSenseFall | ejectButtonPress | solenoidPulseEnd | removalTimeout | measurementWindowStart | measurementComplete
  | attemptTimeout | recoveryTimeout | budgetRequest | claimRelease | withdrawal | spinUpGrant | recoverGrant | seekGrant | loadGrant
  | recalibrateGrant | solenoidGrant | seekComplete | seekTimeout | servoLoss | trackLoss | loadGuardFound | loadTimeout
  | recalibrationComplete | recalibrationFailed | unloadComplete | unloadFailed | evaluation | mediaChoice | readPassEnd
  | sectorIdTimeout | writeAttemptDone | writeFault | entryPerformed | entryFailed | entryAbandoned | addressCharacter =>
    exact absurd message nofun

/-- Settles O8: the frame is gathered character by character; an idle assembly passes a reply over. -/
theorem frameIsGathered : Obligations.FrameIsGathered := by
  unfold Obligations.FrameIsGathered
  refine ⟨fun i code bay body s wellFormed message idle => ?_, fun r s idle => ?_, fun c => rfl, by decide⟩
  · have short := message_short wellFormed message
    have opened : s.takeChar { low := addressByte s.link.unitAddress false, ninth := true, stop := true } = s.setAssembly (.opened []) := by
      rw [State.takeChar_address rfl rfl, State.takeAddress_idle idle, if_pos (addressByte_command _)]
    rw [opened]
    refine (gather_rest (lengthOk_commandFrame code bay short) (frameComplete_commandFrame code bay short)
      (frameGood_commandFrame code bay short) _ [] rfl rfl nofun).trans ?_
    exact State.setAssembly_self idle
  · dsimp only
    refine ⟨?_, ?_⟩
    · have counted : (byte r.status.code ++ [r.code, r.bay] ++ r.body).length = 3 + r.body.length := by
        simp [byte]
        omega
      rw [Reply.characters, Reply.frame, counted]
      rfl
    · rw [Reply.characters, List.foldl_cons, State.takeChar_address rfl rfl, State.takeAddress_idle idle, if_neg]
      · exact idle_passes idle _
      · intro h
        exact absurd ((namesUnit_reply s.link.unitAddress s.link.unitAddress).symm.trans ((namesUnit_iff _ _).2 h)) nofun

end Sys2Proof.Machine
end

section
/-! PROOFS. Messages as frames, and refusals (O7, O9, O10). -/

namespace Sys2Proof.Machine

/-! ### The fields of a body (section 11.6) -/

/-- A two-byte field is its halves. -/
theorem halves_append (v : BitVec 16) : v.extractLsb' 8 8 ++ v.extractLsb' 0 8 = v := by
  apply BitVec.eq_of_getLsbD_eq
  intro i low
  rw [BitVec.getLsbD_append]
  by_cases first : i < 8
  · simp [first]
  · have second : i - 8 < 8 := by omega
    have place : 8 + (i - 8) = i := by omega
    simp [first, second, place]

/-- A four-byte field is its halves. -/
theorem quarters_append (v : BitVec 32) : ((v.extractLsb' 24 8 ++ v.extractLsb' 16 8 : BitVec 16) ++
    (v.extractLsb' 8 8 ++ v.extractLsb' 0 8 : BitVec 16) : BitVec 32) = v := by
  apply BitVec.eq_of_getLsbD_eq
  intro i low
  have byte (j : Nat) (h : 8 * j ≤ i) : 8 * j + (i - 8 * j) = i := by omega
  rw [BitVec.getLsbD_append, BitVec.getLsbD_append, BitVec.getLsbD_append]
  by_cases one : i < 8
  · simp [one, Nat.lt_trans one (show 8 < 16 by decide)]
  · by_cases two : i < 16
    · have place := byte 1 (by omega)
      have range : i - 8 < 8 := by omega
      rw [if_pos two, if_neg one, BitVec.getLsbD_extractLsb', decide_eq_true range, Bool.true_and]
      exact congrArg v.getLsbD place
    · rw [if_neg two]
      by_cases three : i < 24
      · have place := byte 2 (by omega)
        have range : i - 16 < 8 := by omega
        rw [if_pos range, BitVec.getLsbD_extractLsb', decide_eq_true range, Bool.true_and]
        exact congrArg v.getLsbD place
      · have place : 24 + (i - 16 - 8) = i := by omega
        have range : i - 16 - 8 < 8 := by omega
        rw [if_neg (by omega), BitVec.getLsbD_extractLsb', decide_eq_true range, Bool.true_and]
        exact congrArg v.getLsbD place

theorem sectorOf_toList (d : Sector) : sectorOf d.toList = d := by
  apply Vector.ext
  intro i low
  simp [sectorOf]

/-- Every well-formed message is the message of its code, bay field and body. -/
theorem parseMessage_message {i : Instr} {code bay : Byte} {body : List Byte} (wellFormed : i.wellFormed = true)
    (message : i.message = some (code, bay, body)) : parseMessage code bay body = i := by
  cases i with
  | unknownMessage c b l =>
    cases message
    have bad : bodyOk code body = false := (of_decide_eq_true wellFormed).2
    rw [parseMessage, bad]
    rfl
  | identify b o | report b o | counters b o | reset b o =>
    cases message
    cases o <;> rfl
  | faults | start | stop | lock | unlock | order | result | abort | get | mapRead | mapClear | eject | flush | mapSave =>
    cases message
    rfl
  | set b item itemBay value =>
    cases message
    exact congrArg (Instr.set bay item itemBay) (quarters_append value)
  | write b block data =>
    cases message
    have ok : bodyOk 0x15 (field2 block ++ data.toList) = true := decide_eq_true (by simp [field2])
    rw [parseMessage, if_pos ok]
    exact congr (congrArg (Instr.write bay) (halves_append block)) (sectorOf_toList data)
  | mapProbe b block =>
    cases message
    exact congrArg (Instr.mapProbe bay) (halves_append block)
  | mapWrite b index block spare =>
    cases message
    exact congrArg (fun v => Instr.mapWrite bay index v spare) (halves_append block)
  | mapWriteAny b block spare =>
    cases message
    exact congrArg (fun v => Instr.mapWriteAny bay v spare) (halves_append block)
  | read b block count =>
    cases message
    have ok : bodyOk 0x31 (field2 block ++ [count]) = true := decide_eq_true ⟨rfl, wellFormed⟩
    rw [parseMessage, if_pos ok]
    exact congrArg (fun v => Instr.read bay v count) (halves_append block)
  | readPhys b cylinder head sector count =>
    cases message
    have ok : bodyOk 0x32 (field2 cylinder ++ [head, sector, count]) = true := decide_eq_true ⟨rfl, wellFormed⟩
    rw [parseMessage, if_pos ok]
    exact congrArg (fun v => Instr.readPhys bay v head sector count) (halves_append cylinder)
  | writePhys b cylinder head sector data =>
    cases message
    have ok : bodyOk 0x33 (field2 cylinder ++ [head, sector] ++ data.toList) = true := decide_eq_true (by simp [field2])
    rw [parseMessage, if_pos ok]
    exact congr (congrArg (fun v d => Instr.writePhys bay v head sector d) (halves_append cylinder)) (sectorOf_toList data)
  | seek b cylinder =>
    cases message
    exact congrArg (Instr.seek bay) (halves_append cylinder)
  | powerOn | softReset | frameDiscard | characterGapTimeout | supplyGoodRises | holdEnd | supplyLoss | presentSenseRise | insertion
  | presentSenseFall | ejectButtonPress | solenoidPulseEnd | removalTimeout | measurementWindowStart | measurementComplete
  | attemptTimeout | recoveryTimeout | budgetRequest | claimRelease | withdrawal | spinUpGrant | recoverGrant | seekGrant | loadGrant
  | recalibrateGrant | solenoidGrant | seekComplete | seekTimeout | servoLoss | trackLoss | loadGuardFound | loadTimeout
  | recalibrationComplete | recalibrationFailed | unloadComplete | unloadFailed | evaluation | mediaChoice | readPassEnd
  | sectorIdTimeout | writeAttemptDone | writeFault | entryPerformed | entryFailed | entryAbandoned | addressCharacter =>
    exact absurd message nofun

/-- Settles O7: a frame reads back as its code, bay field and body, and these as the message. -/
theorem frameReadsBack : Obligations.FrameReadsBack := by
  unfold Obligations.FrameReadsBack
  intro i code bay body wellFormed message
  rw [readFrame_commandFrame code bay (message_short wellFormed message), parseMessage_message wellFormed message]

/-! ### BAD MESSAGE and BAD BAY (R169) -/

theorem bayOf_eq_none {field : Byte} (zero : field ≠ 0#8) (one : field ≠ 1#8) : bayOf field = none := by
  rw [bayOf, if_neg zero, if_neg one]

/-- Settles O9: the messages of a bay and those of the unit refuse a bay field that does not suit them. -/
theorem badMessagesAndBays : Obligations.BadMessagesAndBays := by
  unfold Obligations.BadMessagesAndBays
  refine ⟨fun code bay body s receives => ?_, fun i code bay body s receives wellFormed message known unsuited => ?_⟩
  · rw [exec_unknownMessage, execUnknownMessage, State.takeMessage_receives receives]
    rfl
  · have unit {f : Byte} (h : f ≠ 255#8) (c : Byte) (act : State → State) : s.forUnit c f act = s.replied c f .badBay :=
      State.forUnit_bad receives c h act
    have ofBay {f : Byte} (h : f ≠ 0#8 ∧ f ≠ 1#8) (c : Byte) (act : State → BayId → State) : s.forBay c f act = s.replied c f .badBay :=
      State.forBay_bad receives c (bayOf_eq_none h.1 h.2) act
    have counted {f : Byte} (h : f ≠ 0#8 ∧ f ≠ 1#8) (c : Byte) {n : Byte} (ok : countOk n = true) (act : State → BayId → State) :
        s.forBayCounted c f n act = s.replied c f .badBay := by
      rw [State.forBayCounted, State.takeMessage_receives receives, if_pos ok, State.toBay, bayOf_eq_none h.1 h.2]
      rfl
    have map {f : Byte} (h : f ≠ 0#8 ∧ f ≠ 1#8) (c : Byte) (x y z : Option Nat) (act : State → BayId → State) :
        s.mapMessage c f x y z act = s.replied c f .badBay := by
      unfold State.mapMessage
      exact ofBay h c _
    cases i with
    | unknownMessage c b l =>
      cases message
      exact absurd ((of_decide_eq_true wellFormed).2.symm.trans known) nofun
    | identify | report | faults | set | get | counters | reset =>
      cases message
      exact congrArg Host.Outcome.next (unit unsuited _ _)
    | start | stop | lock | unlock | order | write | result | abort | eject | writePhys | flush | seek | mapSave =>
      cases message
      exact congrArg Host.Outcome.next (ofBay unsuited _ _)
    | mapProbe | mapRead | mapWrite | mapWriteAny | mapClear =>
      cases message
      exact congrArg Host.Outcome.next (map unsuited _ _ _ _ _)
    | read | readPhys =>
      cases message
      exact congrArg Host.Outcome.next (counted unsuited _ wellFormed _)
    | powerOn | softReset | frameDiscard | characterGapTimeout | supplyGoodRises | holdEnd | supplyLoss | presentSenseRise | insertion
    | presentSenseFall | ejectButtonPress | solenoidPulseEnd | removalTimeout | measurementWindowStart | measurementComplete
    | attemptTimeout | recoveryTimeout | budgetRequest | claimRelease | withdrawal | spinUpGrant | recoverGrant | seekGrant | loadGrant
    | recalibrateGrant | solenoidGrant | seekComplete | seekTimeout | servoLoss | trackLoss | loadGuardFound | loadTimeout
    | recalibrationComplete | recalibrationFailed | unloadComplete | unloadFailed | evaluation | mediaChoice | readPassEnd
    | sectorIdTimeout | writeAttemptDone | writeFault | entryPerformed | entryFailed | entryAbandoned | addressCharacter =>
      exact absurd message nofun

end Sys2Proof.Machine
end

section
/-! PROOFS. A refused message changes nothing but the reply (O10). -/

namespace Sys2Proof.Machine

namespace State

/-- A state that answers a message: with a reply of status 10 (hexadecimal) or above, nothing else has changed (R169). -/
structure Answers (s : State) (code field : Byte) (t : State) : Prop where
  unchanged : ∀ r : Reply, t.link.reply = some r → 0x10 ≤ r.status.code → t = s.replied code field r.status r.body

variable {s t : State} {code field : Byte}

/-- A reply alone. -/
theorem answers_respond (s : State) (code field : Byte) (r : ReplyStatus) (body : List Byte) :
    s.Answers code field ((s.setAssembly .idle).respond code field r body) := by
  refine ⟨?_⟩
  rintro _ ⟨⟩ -
  rfl

/-- An accepting reply, whatever else has changed. -/
theorem answers_accepting {st : ReplyStatus} {body : List Byte} (reply : t.link.reply = some { status := st, code, bay := field, body })
    (accepts : st.code < 0x10) : s.Answers code field t := by
  refine ⟨fun q same refuses => ?_⟩
  obtain rfl := Option.some.inj (reply.symm.trans same)
  exact absurd refuses (Nat.not_le.2 accepts)

/-- An accepting reply, and changes within a bay. -/
theorem answers_within {u : State} {st : ReplyStatus} {body : List Byte} {b : BayId} (accepts : st.code < 0x10)
    (within : State.Within b (u.respond code field st body) t) : s.Answers code field t :=
  answers_accepting (st := st) (body := body) (within.link ▸ rfl) accepts

theorem answers_toBay {act : State → BayId → State}
    (acts : ∀ b, s.Answers code field (act (s.setAssembly .idle) b)) : s.Answers code field ((s.setAssembly .idle).toBay code field act) := by
  unfold toBay
  split
  · exact acts _
  · exact answers_respond ..

variable (receives : s.receives = true)
include receives

theorem answers_forBay {act : State → BayId → State}
    (acts : ∀ b, s.Answers code field (act (s.setAssembly .idle) b)) : s.Answers code field (s.forBay code field act) := by
  rw [forBay, takeMessage_receives receives]
  exact answers_toBay acts

theorem answers_forBayCounted {count : Byte} {act : State → BayId → State}
    (acts : ∀ b, s.Answers code field (act (s.setAssembly .idle) b)) : s.Answers code field (s.forBayCounted code field count act) := by
  rw [forBayCounted, takeMessage_receives receives]
  split
  · exact answers_toBay acts
  · exact answers_respond ..

theorem answers_forUnit {act : State → State} (acts : s.Answers code field (act (s.setAssembly .idle))) :
    s.Answers code field (s.forUnit code field act) := by
  rw [forUnit, takeMessage_receives receives]
  split
  · exact acts
  · exact answers_respond ..

theorem answers_mapMessage {x y z : Option Nat} {act : State → BayId → State}
    (acts : ∀ b, s.Answers code field (act (s.setAssembly .idle) b)) : s.Answers code field (s.mapMessage code field x y z act) := by
  refine answers_forBay receives fun b => ?_
  split
  · exact answers_respond ..
  · split
    · exact answers_respond ..
    · exact acts b

end State

section
variable {s t : State} (receives : s.receives = true)
include receives

open State

/-! ### The messages of a bay -/

theorem execStart_answers {bay : Byte} (h : execStart bay s = .next t) : s.Answers 0x10 bay t := by
  obtain rfl := Host.Outcome.next.inj h
  refine answers_forBay receives fun b => ?_
  split
  case h_1 | h_2 => exact answers_accepting rfl (by decide)
  all_goals exact answers_respond ..

theorem execStop_answers {bay : Byte} (h : execStop bay s = .next t) : s.Answers 0x11 bay t := by
  obtain rfl := Host.Outcome.next.inj h
  refine answers_forBay receives fun b => ?_
  split
  case h_1 | h_2 => exact answers_accepting rfl (by decide)
  all_goals exact answers_respond ..

theorem execLock_answers {bay : Byte} (h : execLock bay s = .next t) : s.Answers 0x12 bay t := by
  obtain rfl := Host.Outcome.next.inj h
  refine answers_forBay receives fun b => ?_
  split
  · exact answers_accepting rfl (by decide)
  · exact answers_respond ..

theorem execUnlock_answers {bay : Byte} (h : execUnlock bay s = .next t) : s.Answers 0x13 bay t := by
  obtain rfl := Host.Outcome.next.inj h
  refine answers_forBay receives fun b => ?_
  split
  · exact answers_accepting rfl (by decide)
  · exact answers_respond ..

theorem execOrder_answers {bay : Byte} (h : execOrder bay s = .next t) : s.Answers 0x14 bay t := by
  obtain rfl := Host.Outcome.next.inj h
  refine answers_forBay receives fun b => ?_
  split
  · exact answers_respond ..
  · split
    · exact answers_accepting rfl (by decide)
    · exact answers_respond ..

theorem execWrite_answers {bay : Byte} {block : BitVec 16} {data : Sector} (h : execWrite bay block data s = .next t) :
    s.Answers 0x15 bay t := by
  obtain rfl := Host.Outcome.next.inj h
  refine answers_forBay receives fun b => ?_
  split
  · exact answers_respond ..
  · split
    · split
      · exact answers_accepting rfl (by decide)
      · exact answers_accepting rfl (by decide)
      · exact answers_respond ..
    · exact answers_respond ..

theorem execResult_answers {bay : Byte} (h : execResult bay s = .next t) : s.Answers 0x18 bay t := by
  obtain rfl := Host.Outcome.next.inj h
  refine answers_forBay receives fun b => ?_
  dsimp only
  split
  · exact answers_respond ..
  · exact answers_respond ..
  · split
    · split
      · exact answers_within (st := .ok) (by decide) ((within_freeSlot _ _ b).2 (.refl b _))
      · exact answers_within (st := .ok) (by decide) ((within_modSlot _ _ b _).2 (.refl b _))
    · exact answers_within (st := .ok) (by decide) ((within_freeSlot _ _ b).2 (.refl b _))

theorem execAbort_answers {bay : Byte} (h : execAbort bay s = .next t) : s.Answers 0x19 bay t := by
  obtain rfl := Host.Outcome.next.inj h
  refine answers_forBay receives fun b => ?_
  split
  · exact answers_respond ..
  · exact answers_accepting rfl (by decide)
  · split
    · split
      · exact answers_accepting rfl (by decide)
      · exact answers_respond ..
    · exact answers_accepting rfl (by decide)
    · exact answers_accepting rfl (by decide)

theorem execEject_answers {bay : Byte} (h : execEject bay s = .next t) : s.Answers 0x30 bay t := by
  obtain rfl := Host.Outcome.next.inj h
  refine answers_forBay receives fun b => ?_
  split
  · exact answers_respond ..
  · exact answers_within (st := .accepted) (by decide) ((within_startEject _ _ b _).2 (.refl b _))

theorem execRead_answers {bay : Byte} {block : BitVec 16} {count : Byte} (h : execRead bay block count s = .next t) :
    s.Answers 0x31 bay t := by
  obtain rfl := Host.Outcome.next.inj h
  refine answers_forBayCounted receives fun b => ?_
  repeat' split
  · exact answers_respond ..
  · exact answers_respond ..
  · exact answers_accepting rfl (by decide)
  · exact answers_respond ..

theorem execReadPhys_answers {bay : Byte} {cylinder : BitVec 16} {head sector count : Byte}
    (h : execReadPhys bay cylinder head sector count s = .next t) : s.Answers 0x32 bay t := by
  obtain rfl := Host.Outcome.next.inj h
  refine answers_forBayCounted receives fun b => ?_
  dsimp only
  repeat' split
  · exact answers_respond ..
  · exact answers_accepting rfl (by decide)
  · exact answers_respond ..

theorem execWritePhys_answers {bay : Byte} {cylinder : BitVec 16} {head sector : Byte} {data : Sector}
    (h : execWritePhys bay cylinder head sector data s = .next t) : s.Answers 0x33 bay t := by
  obtain rfl := Host.Outcome.next.inj h
  refine answers_forBay receives fun b => ?_
  dsimp only
  repeat' split
  · exact answers_respond ..
  · exact answers_within (st := .accepted) (by decide) ((within_modMedia _ _ b _).2 (.refl b _))
  · exact answers_respond ..
  · exact answers_respond ..

theorem execFlush_answers {bay : Byte} (h : execFlush bay s = .next t) : s.Answers 0x34 bay t := by
  obtain rfl := Host.Outcome.next.inj h
  refine answers_forBay receives fun b => ?_
  split
  · exact answers_respond ..
  · split
    · exact answers_respond ..
    · split
      · have link (u : State) : (u.markTest b).link = u.link := ((within_markTest _ _ b).2 (.refl b _)).link
        refine answers_accepting (st := .accepted) (body := []) ?_ (by decide)
        exact (congrArg Link.reply (link _)).trans rfl
      · exact answers_respond ..

theorem execSeek_answers {bay : Byte} {cylinder : BitVec 16} (h : execSeek bay cylinder s = .next t) : s.Answers 0x35 bay t := by
  obtain rfl := Host.Outcome.next.inj h
  refine answers_forBay receives fun b => ?_
  repeat' split
  · exact answers_respond ..
  · exact answers_accepting rfl (by decide)
  · exact answers_respond ..

theorem execMapSave_answers {bay : Byte} (h : execMapSave bay s = .next t) : s.Answers 0x36 bay t := by
  obtain rfl := Host.Outcome.next.inj h
  refine answers_forBay receives fun b => ?_
  split
  · exact answers_respond ..
  · exact answers_accepting rfl (by decide)

/-! ### The map messages -/

theorem execMapProbe_answers {bay : Byte} {block : BitVec 16} (h : execMapProbe bay block s = .next t) : s.Answers 0x20 bay t := by
  obtain rfl := Host.Outcome.next.inj h
  refine answers_mapMessage receives fun b => ?_
  split <;> exact answers_respond ..

theorem execMapRead_answers {bay index : Byte} (h : execMapRead bay index s = .next t) : s.Answers 0x21 bay t := by
  obtain rfl := Host.Outcome.next.inj h
  refine answers_mapMessage receives fun b => ?_
  split <;> exact answers_respond ..

theorem execMapWrite_answers {bay index : Byte} {block : BitVec 16} {spare : Byte} (h : execMapWrite bay index block spare s = .next t) :
    s.Answers 0x22 bay t := by
  obtain rfl := Host.Outcome.next.inj h
  refine answers_mapMessage receives fun b => ?_
  dsimp only
  repeat' split
  · exact answers_respond ..
  · exact answers_respond ..
  · exact answers_accepting rfl (by decide)

theorem execMapWriteAny_answers {bay : Byte} {block : BitVec 16} {spare : Byte} (h : execMapWriteAny bay block spare s = .next t) :
    s.Answers 0x23 bay t := by
  obtain rfl := Host.Outcome.next.inj h
  refine answers_mapMessage receives fun b => ?_
  dsimp only
  repeat' split
  · exact answers_respond ..
  · exact answers_respond ..
  · exact answers_accepting rfl (by decide)
  · exact answers_respond ..

theorem execMapClear_answers {bay index : Byte} (h : execMapClear bay index s = .next t) : s.Answers 0x24 bay t := by
  obtain rfl := Host.Outcome.next.inj h
  refine answers_mapMessage receives fun b => ?_
  dsimp only
  repeat' split
  · exact answers_respond ..
  · exact answers_accepting rfl (by decide)
  · exact answers_respond ..

/-! ### The unit-level messages -/

theorem execIdentify_answers {bay : Byte} {clear : Bool} (h : execIdentify bay clear s = .next t) : s.Answers 0x01 bay t := by
  obtain rfl := Host.Outcome.next.inj h
  refine answers_forUnit receives ?_
  dsimp only
  split <;> exact answers_accepting rfl (by decide)

theorem execReport_answers {bay : Byte} {peek : Bool} (h : execReport bay peek s = .next t) : s.Answers 0x02 bay t := by
  obtain rfl := Host.Outcome.next.inj h
  refine answers_forUnit receives ?_
  dsimp only
  split <;> exact answers_accepting rfl (by decide)

theorem execFaults_answers {bay : Byte} (h : execFaults bay s = .next t) : s.Answers 0x03 bay t := by
  obtain rfl := Host.Outcome.next.inj h
  exact answers_forUnit receives (answers_accepting rfl (by decide))

theorem execSet_answers {bay item itemBay : Byte} {value : BitVec 32} (h : execSet bay item itemBay value s = .next t) :
    s.Answers 0x04 bay t := by
  obtain rfl := Host.Outcome.next.inj h
  refine answers_forUnit receives ?_
  split
  · exact answers_accepting rfl (by decide)
  · exact answers_respond ..

theorem execGet_answers {bay item itemBay : Byte} (h : execGet bay item itemBay s = .next t) : s.Answers 0x05 bay t := by
  obtain rfl := Host.Outcome.next.inj h
  refine answers_forUnit receives ?_
  split <;> exact answers_respond ..

theorem execCounters_answers {bay : Byte} {clear : Bool} (h : execCounters bay clear s = .next t) : s.Answers 0x06 bay t := by
  obtain rfl := Host.Outcome.next.inj h
  refine answers_forUnit receives ?_
  dsimp only
  split <;> exact answers_accepting rfl (by decide)

theorem execReset_answers {bay : Byte} {force : Bool} (h : execReset bay force s = .next t) : s.Answers 0x07 bay t := by
  obtain rfl := Host.Outcome.next.inj h
  refine answers_forUnit receives ?_
  dsimp only
  split
  · exact answers_respond ..
  · exact answers_accepting rfl (by decide)

theorem execUnknownMessage_answers {code bay : Byte} {body : List Byte} (h : execUnknownMessage code bay body s = .next t) :
    s.Answers code bay t := by
  obtain rfl := Host.Outcome.next.inj h
  rw [takeMessage_receives receives]
  exact answers_respond ..

end

/-- Settles O10: every message's answer is an accepting reply, or a reply alone. -/
theorem refusalsChangeNothing : Obligations.RefusalsChangeNothing := by
  unfold Obligations.RefusalsChangeNothing
  intro i code bay body s t r receives message h reply refuses
  refine State.Answers.unchanged (s := s) ?_ r reply refuses
  cases i with
  | identify => cases message; exact execIdentify_answers receives h
  | report => cases message; exact execReport_answers receives h
  | faults => cases message; exact execFaults_answers receives h
  | set => cases message; exact execSet_answers receives h
  | get => cases message; exact execGet_answers receives h
  | counters => cases message; exact execCounters_answers receives h
  | reset => cases message; exact execReset_answers receives h
  | start => cases message; exact execStart_answers receives h
  | stop => cases message; exact execStop_answers receives h
  | lock => cases message; exact execLock_answers receives h
  | unlock => cases message; exact execUnlock_answers receives h
  | order => cases message; exact execOrder_answers receives h
  | write => cases message; exact execWrite_answers receives h
  | result => cases message; exact execResult_answers receives h
  | abort => cases message; exact execAbort_answers receives h
  | mapProbe => cases message; exact execMapProbe_answers receives h
  | mapRead => cases message; exact execMapRead_answers receives h
  | mapWrite => cases message; exact execMapWrite_answers receives h
  | mapWriteAny => cases message; exact execMapWriteAny_answers receives h
  | mapClear => cases message; exact execMapClear_answers receives h
  | eject => cases message; exact execEject_answers receives h
  | read => cases message; exact execRead_answers receives h
  | readPhys => cases message; exact execReadPhys_answers receives h
  | writePhys => cases message; exact execWritePhys_answers receives h
  | flush => cases message; exact execFlush_answers receives h
  | seek => cases message; exact execSeek_answers receives h
  | mapSave => cases message; exact execMapSave_answers receives h
  | unknownMessage => cases message; exact execUnknownMessage_answers (body := body) receives h
  | powerOn | softReset | frameDiscard | characterGapTimeout | supplyGoodRises | holdEnd | supplyLoss | presentSenseRise | insertion
  | presentSenseFall | ejectButtonPress | solenoidPulseEnd | removalTimeout | measurementWindowStart | measurementComplete
  | attemptTimeout | recoveryTimeout | budgetRequest | claimRelease | withdrawal | spinUpGrant | recoverGrant | seekGrant | loadGrant
  | recalibrateGrant | solenoidGrant | seekComplete | seekTimeout | servoLoss | trackLoss | loadGuardFound | loadTimeout
  | recalibrationComplete | recalibrationFailed | unloadComplete | unloadFailed | evaluation | mediaChoice | readPassEnd
  | sectorIdTimeout | writeAttemptDone | writeFault | entryPerformed | entryFailed | entryAbandoned | addressCharacter =>
    exact absurd message nofun

end Sys2Proof.Machine
end

section
/-!
PROOFS. The Supply Budget: its notices, arrivals, the examination, releases and withdrawals, and the capacity (O29 to O32).
-/

namespace Sys2Proof.Machine

/-! ### The notice taken -/

/-- The first notice a test accepts, at its place in the list (log entry 3). -/
theorem State.firstSignal_at {s : State} {p : Signal → Bool} {early late : List Signal} {x : Signal}
    (place : s.signals = early ++ x :: late) (before : ∀ z ∈ early, p z = false) (accepts : p x = true) :
    s.firstSignal p = some x := by
  rw [State.firstSignal, place, List.find?_append, List.find?_eq_none.2 (fun z hz => by simp [before z hz]),
    List.find?_cons_of_pos accepts]
  rfl

theorem State.dropSignal_at {s : State} {p : Signal → Bool} {early late : List Signal} {x : Signal}
    (place : s.signals = early ++ x :: late) (before : ∀ z ∈ early, p z = false) (accepts : p x = true) :
    s.dropSignal p = { s with signals := early ++ late } := by
  rw [State.dropSignal, place, List.eraseP_append_right _ (fun z hz => by simp [before z hz]), List.eraseP_cons_of_pos accepts]

theorem State.firstSignal_none {s : State} {p : Signal → Bool} (refused : ∀ z ∈ s.signals, p z = false) :
    s.firstSignal p = none :=
  List.find?_eq_none.2 fun z hz => by simp [refused z hz]

/-! ### Fitting (R20, R29) -/

theorem seekDraw_getD {l : Nat} (low : l ≤ 3) : [12, 9, 6, 3].getD l 0 = seekDraw l := by
  match l, low with
  | 0, _ | 1, _ | 2, _ | 3, _ => rfl

/-- The lowest-numbered level from E to 3 that fits is the one granted (R29). -/
theorem fitLevel_lowest {e l : Nat} {h : Int} (asked : e ≤ l) (low : l ≤ 3) (fits : (seekDraw l : Int) ≤ h)
    (lowest : ∀ m, e ≤ m → m < l → h < seekDraw m) : fitLevel e h = some l := by
  have found : (fitLevel e h).isSome = true := by
    rw [fitLevel, List.find?_isSome]
    exact ⟨l, by simp; omega, by simp [asked, fits]⟩
  obtain ⟨m, granted⟩ := Option.isSome_iff_exists.1 found
  obtain ⟨above, -, covered, least⟩ := fitLevel_some granted
  rcases Nat.lt_trichotomy m l with less | rfl | more
  · exact absurd (lowest m above less) (by omega)
  · exact granted
  · exact absurd (least l asked more) (by omega)

theorem fitLevel_none {e : Nat} {h : Int} (short : ∀ l, e ≤ l → l ≤ 3 → h < seekDraw l) : fitLevel e h = none := by
  rw [Option.eq_none_iff_forall_ne_some]
  intro l granted
  obtain ⟨above, low, covered, -⟩ := fitLevel_some granted
  exact absurd (short l above low) (by omega)

theorem Request.fit_seek {r : Request} (seek : r.kind = .seek) (h : Int) :
    r.fit h = (fitLevel r.level h).map fun l => (l, seekDraw l) := by
  unfold Request.fit
  rw [seek]

theorem Request.fit_other {r : Request} (other : r.kind ≠ .seek) (h : Int) :
    r.fit h = if (r.kind.draw : Int) ≤ h then some (0, r.kind.draw) else none := by
  unfold Request.fit
  split
  · exact absurd ‹_› other
  · rfl

theorem Request.fit_covered {r : Request} (other : r.kind ≠ .seek) {d : Nat} (draw : r.kind.draw = d) {h : Int} (covered : (d : Int) ≤ h) :
    r.fit h = some (0, d) := by
  rw [Request.fit_other other, draw, if_pos covered]

theorem Request.fit_short {r : Request} (other : r.kind ≠ .seek) {d : Nat} (draw : r.kind.draw = d) {h : Int} (short : h < d) :
    r.fit h = none := by
  rw [Request.fit_other other, draw, if_neg (by omega)]

/-- The draws of R20 at each level, as the statements write them. -/
theorem Request.fit_level {r : Request} (seek : r.kind = .seek) {l : Nat} {h : Int} (asked : r.level ≤ l) (low : l ≤ 3)
    (fits : (([12, 9, 6, 3].getD l 0 : Nat) : Int) ≤ h)
    (lowest : ∀ m, r.level ≤ m → m < l → h < (([12, 9, 6, 3].getD m 0 : Nat) : Int)) :
    r.fit h = some (l, [12, 9, 6, 3].getD l 0) := by
  rw [seekDraw_getD low] at fits ⊢
  rw [Request.fit_seek seek, fitLevel_lowest asked low fits]
  · rfl
  · intro m above less
    have := lowest m above less
    rwa [seekDraw_getD (by omega)] at this

theorem Request.fit_no_level {r : Request} (seek : r.kind = .seek) {h : Int}
    (short : ∀ l, r.level ≤ l → l ≤ 3 → h < (([12, 9, 6, 3].getD l 0 : Nat) : Int)) : r.fit h = none := by
  rw [Request.fit_seek seek, fitLevel_none]
  · rfl
  · intro l above low
    have := short l above low
    rwa [seekDraw_getD low] at this

/-! ### Arrivals (R25, R28, R35) -/

namespace Budget

variable {u : Budget} {r : Request}

theorem take_granted {h : Int} {l d : Nat} (arrival : u.arrivalHeadroom r = some h) (fits : r.fit h = some (l, d)) :
    u.take r = (u.addClaim (r.claim d), [.grant r.bay r.kind l]) := by
  simp only [take, arrival, Option.bind_some, fits]

theorem take_unjudged (arrival : u.arrivalHeadroom r = none) : u.take r = (u.join r, []) := by
  simp only [take, arrival, Option.bind_none]

theorem take_unfitted {h : Int} (arrival : u.arrivalHeadroom r = some h) (short : r.fit h = none) : u.take r = (u.join r, []) := by
  simp only [take, arrival, Option.bind_some, short]

theorem arrivalHeadroom_empty (good : u.supply = .good) (empty : u.waitList = []) : u.arrivalHeadroom r = some u.headroom := by
  rw [arrivalHeadroom, if_neg (by simp [good]), empty]

theorem arrivalHeadroom_reserved (good : u.supply = .good) {q : Request} {rest : List Request} (list : u.waitList = q :: rest)
    (seek : r.kind = .seek) (reserves : q.kind = .spinUp ∨ q.kind = .recover) (other : q.bay ≠ r.bay) :
    u.arrivalHeadroom r = some (u.headroom - 28) := by
  have : q.kind.reserves = true := by rcases reserves with h | h <;> rw [h] <;> rfl
  rw [arrivalHeadroom, if_neg (by simp [good]), list]
  simp only [seek, this, other, ne_eq, not_false_eq_true, and_self, if_true]
  rfl

theorem arrivalHeadroom_behind {q : Request} {rest : List Request} (list : u.waitList = q :: rest)
    (unreserved : ¬ (r.kind = .seek ∧ (q.kind = .spinUp ∨ q.kind = .recover))) : u.arrivalHeadroom r = none := by
  unfold arrivalHeadroom
  split
  · rfl
  · rw [list]
    refine if_neg fun ⟨seek, reserves, _⟩ => unreserved ⟨seek, ?_⟩
    cases kind : q.kind <;> simp_all [RequestKind.reserves]

end Budget

/-- BUDGET_REQUEST takes the notice of its kind, and the budget's answer becomes the state's (R25). -/
theorem exec_budgetRequest_taken {s : State} {b : BayId} {k : RequestKind} {level : Nat} {early late : List Signal}
    (next : s.nextNotice b early (.request b k level) late) : exec (.budgetRequest b k) s = .next
      (({ s with signals := early ++ late } : State).putBudget (s.budget.take { bay := b, kind := k, level })) := by
  obtain ⟨place, before, accepts⟩ := next
  rw [exec_budgetRequest, execBudgetRequest, State.firstSignal_at place before accepts, State.dropSignal_at place before accepts]
  exact if_pos rfl

/-- Settles O29: the headroom an arriving request is judged by, and what it is then given. -/
theorem budgetTakesRequests : Obligations.BudgetTakesRequests := by
  unfold Obligations.BudgetTakesRequests
  intro s b k level early late next alone unclaimed
  dsimp only
  rw [exec_budgetRequest_taken next]
  let r : Request := { bay := b, kind := k, level }
  have joins (h : s.budget.take r = (s.budget.join r, [])) :
      (.next (({ s with signals := early ++ late } : State).putBudget (s.budget.take r)) : Host.Outcome State Fault Refusal) = .next
        { s with signals := early ++ late, budget := { s.budget with waitList := s.budget.waitList ++ [r] } } := by
    rw [h, Budget.join_of_absent alone]
    simp [State.putBudget]
  have granted {l d : Nat} (h : s.budget.take r = (s.budget.addClaim (r.claim d), [.grant b k l])) :
      (.next (({ s with signals := early ++ late } : State).putBudget (s.budget.take r)) : Host.Outcome State Fault Refusal) = .next
        { s with signals := early ++ late ++ [.grant b k l],
                 budget := { s.budget with claims := s.budget.claims ++ [⟨b, k.consumer, d⟩] } } := by
    rw [h, Budget.addClaim_of_absent unclaimed]
    rfl
  refine ⟨fun supply => joins (Budget.take_unjudged (if_pos supply)), fun good empty other => ?_, fun good empty seek => ?_,
    fun q rest good list => ⟨fun seek reserves => ?_, fun unreserved => ?_⟩⟩
  · have arrival : s.budget.arrivalHeadroom r = some s.budget.headroom := Budget.arrivalHeadroom_empty good empty
    refine ⟨fun fits => granted (Budget.take_granted arrival (Request.fit_covered other ?_ fits)),
      fun short => joins (Budget.take_unfitted arrival (Request.fit_short other ?_ short))⟩
    all_goals
      change k.draw = _
      cases k <;> first | rfl | exact absurd rfl other
  · have arrival : s.budget.arrivalHeadroom r = some s.budget.headroom := Budget.arrivalHeadroom_empty good empty
    exact ⟨fun l asked low fits lowest => granted (Budget.take_granted arrival (Request.fit_level seek asked low fits lowest)),
      fun short => joins (Budget.take_unfitted arrival (Request.fit_no_level seek short))⟩
  · have arrival : s.budget.arrivalHeadroom r = some (s.budget.headroom - 28) :=
      Budget.arrivalHeadroom_reserved good list seek reserves (alone q (by simp [list]))
    exact ⟨fun l asked low fits lowest => granted (Budget.take_granted arrival (Request.fit_level seek asked low fits lowest)),
      fun short => joins (Budget.take_unfitted arrival (Request.fit_no_level seek short))⟩
  · exact joins (Budget.take_unjudged (Budget.arrivalHeadroom_behind list unreserved))

end Sys2Proof.Machine
end

section
/-!
PROOFS. The examination of the wait list, releases, withdrawals and the capacity (O30, O31, O32).
-/

namespace Sys2Proof.Machine

/-! ### The examination (R27) -/

namespace Budget

variable {u : Budget} {r : Request}

/-- The list examined is the one given, whatever the list held. -/
theorem examineFrom_withList (u : Budget) (l list : List Request) : ({ u with waitList := l } : Budget).examineFrom list = u.examineFrom list := by
  cases list with
  | nil => rfl
  | cons r rest =>
    simp only [examineFrom]
    cases fit : r.fit u.headroom with
    | none =>
      have : r.fit ({ u with waitList := l } : Budget).headroom = none := fit
      simp only [this]
    | some p =>
      have : r.fit ({ u with waitList := l } : Budget).headroom = some p := fit
      simp only [this]
      have := examineFrom_withList (u.addClaim (r.claim p.2)) l rest
      have same : ({ u with waitList := l } : Budget).addClaim (r.claim p.2) = { u.addClaim (r.claim p.2) with waitList := l } := rfl
      rw [same, this]

/-- A head that fits is granted and leaves, and the rest is examined under its claim (R27). -/
theorem examine_head (good : u.supply = .good) {rest : List Request} (list : u.waitList = r :: rest)
    (unclaimed : ∀ c ∈ u.claims, ¬ (c.bay = r.bay ∧ c.consumer = r.kind.consumer)) {l d : Nat} (fit : r.fit u.headroom = some (l, d)) :
    let w : Budget := { u with claims := u.claims ++ [⟨r.bay, r.kind.consumer, d⟩], waitList := rest }
    u.examine = (w.examine.1, .grant r.bay r.kind l :: w.examine.2) := by
  intro w
  have added : w = { u.addClaim (r.claim d) with waitList := rest } := by
    rw [addClaim_of_absent unclaimed]
    rfl
  rw [examine_good (u := w) good, added, examineFrom_withList, examine_good good, list, examineFrom, fit]

theorem examine_short {rest : List Request} (list : u.waitList = r :: rest) (short : r.fit u.headroom = none) :
    u.examine = (u, []) := by
  unfold examine
  split
  · rw [list, examineFrom, short]
    simp only [← list]
  · rfl

/-- With one request of each bay and no owner waiting that holds its claim, each grant's claim joins the others (R22). -/
theorem examineFrom_claims {claimOf : Signal → Option Claim}
    (carries : ∀ (r : Request) (h : Int) l d, r.fit h = some (l, d) → claimOf (.grant r.bay r.kind l) = some (r.claim d))
    (u : Budget) (list : List Request) (distinct : (list.map Request.bay).Nodup)
    (unclaimed : ∀ r ∈ list, ∀ c ∈ u.claims, ¬ (c.bay = r.bay ∧ c.consumer = r.kind.consumer)) :
    (u.examineFrom list).1.claims = u.claims ++ (u.examineFrom list).2.filterMap claimOf := by
  induction list generalizing u with
  | nil => simp [examineFrom]
  | cons r rest ih =>
    obtain ⟨alone, distinct⟩ := List.nodup_cons.1 distinct
    rw [examineFrom]
    split
    · rename_i l d fit
      have added : u.addClaim (r.claim d) = { u with claims := u.claims ++ [r.claim d] } :=
        addClaim_of_absent (unclaimed r List.mem_cons_self)
      have step := ih (u.addClaim (r.claim d)) distinct (fun q hq c hc => by
        rw [added] at hc
        rcases List.mem_append.1 hc with old | new
        · exact unclaimed q (List.mem_cons_of_mem _ hq) c old
        · obtain rfl := List.mem_singleton.1 new
          exact fun ⟨same, _⟩ => alone (List.mem_map.2 ⟨q, hq, same.symm⟩))
      rw [List.filterMap_cons_some (carries r _ l d fit)]
      exact step.trans (by rw [added]; simp)
    · simp

/-- The grants are of the first requests of the list, in order. -/
theorem examineFrom_granted (u : Budget) (list : List Request) :
    (u.examineFrom list).2.map (fun g => match g with
      | .grant b k _ => some (b, k)
      | _ => none) = (list.take (u.examineFrom list).2.length).map fun r => some (r.bay, r.kind) := by
  induction list generalizing u with
  | nil => simp [examineFrom]
  | cons r rest ih =>
    rw [examineFrom]
    split
    · rename_i l d _
      simpa using ih (u.addClaim (r.claim d))
    · simp

theorem examineFrom_head (u : Budget) (list : List Request) :
    ∀ r ∈ (u.examineFrom list).1.waitList.head?, r.fit (u.examineFrom list).1.headroom = none := by
  induction list generalizing u with
  | nil => simp [examineFrom]
  | cons r rest ih =>
    rw [examineFrom]
    split
    · rename_i l d _
      exact ih (u.addClaim (r.claim d))
    · rename_i short
      intro q head
      obtain rfl : r = q := by simpa using head
      exact short

/-- A claim that fits the headroom leaves the sum of the draws within the capacity (R22). -/
theorem drawSum_addClaim {c : Claim} (fits : (c.draw : Int) ≤ u.headroom) : drawSum (u.addClaim c).claims ≤ u.judging := by
  have : drawSum (u.addClaim c).claims = drawSum (u.claims.filter fun d => !(d.bay = c.bay ∧ d.consumer = c.consumer)) + c.draw := by
    simp [addClaim, drawSum]
  have less := drawSum_sublist (List.filter_sublist (p := fun d => !(d.bay = c.bay ∧ d.consumer = c.consumer)) (l := u.claims))
  unfold headroom at fits
  omega

theorem examineFrom_drawSum (u : Budget) (list : List Request) (covered : drawSum u.claims ≤ u.judging) :
    drawSum (u.examineFrom list).1.claims ≤ u.judging := by
  induction list generalizing u with
  | nil => simpa [examineFrom] using covered
  | cons r rest ih =>
    rw [examineFrom]
    split
    · rename_i l d fit
      exact ih (u.addClaim (r.claim d)) (drawSum_addClaim (c := r.claim d) (Request.fit_le fit))
    · exact covered

/-- An owner that holds a claim keeps one. -/
theorem addClaim_owner {c : Claim} {b : BayId} {k : Consumer} (held : ∃ d ∈ u.claims, d.bay = b ∧ d.consumer = k) :
    ∃ d ∈ (u.addClaim c).claims, d.bay = b ∧ d.consumer = k := by
  obtain ⟨d, mem, own⟩ := held
  by_cases same : d.bay = c.bay ∧ d.consumer = c.consumer
  · exact ⟨c, by simp [addClaim], same.1 ▸ own.1, same.2 ▸ own.2⟩
  · refine ⟨d, List.mem_append_left _ (List.mem_filter.2 ⟨mem, ?_⟩), own⟩
    simpa [Decidable.imp_iff_not_or] using same

theorem examineFrom_owner (u : Budget) (list : List Request) {b : BayId} {k : Consumer}
    (held : ∃ d ∈ u.claims, d.bay = b ∧ d.consumer = k) : ∃ d ∈ (u.examineFrom list).1.claims, d.bay = b ∧ d.consumer = k := by
  induction list generalizing u with
  | nil => simpa [examineFrom] using held
  | cons r rest ih =>
    rw [examineFrom]
    split
    · rename_i l d _
      exact ih (u.addClaim (r.claim d)) (addClaim_owner held)
    · exact held

/-- Every request granted has a claim afterwards. -/
theorem examineFrom_holds (u : Budget) (list : List Request) : ∀ r ∈ list.take (u.examineFrom list).2.length,
    ∃ d ∈ (u.examineFrom list).1.claims, d.bay = r.bay ∧ d.consumer = r.kind.consumer := by
  induction list generalizing u with
  | nil => simp
  | cons r rest ih =>
    rw [examineFrom]
    split
    · rename_i l d _
      intro q granted
      rcases List.mem_cons.1 (by simpa using granted) with rfl | later
      · exact examineFrom_owner _ rest ⟨q.claim d, by simp [addClaim], rfl, rfl⟩
      · exact ih (u.addClaim (r.claim d)) q later
    · simp

end Budget

/-- Settles O30: the grant of a head, the grants in order, and the claims after them, each by induction on the list. -/
theorem examinationGrantsFromTheHead : Obligations.ExaminationGrantsFromTheHead := by
  unfold Obligations.ExaminationGrantsFromTheHead
  intro u
  dsimp only
  refine ⟨Budget.examine_else, Budget.examine_empty, fun r rest good list unclaimed => ?_, fun distinct unclaimed => ?_, fun good => ?_⟩
  · refine ⟨fun other covered => ?_, fun other short => ?_, fun seek l asked low fits lowest => ?_, fun seek short => ?_⟩
    · refine Budget.examine_head good list unclaimed (Request.fit_covered other ?_ covered)
      cases kind : r.kind <;> first | rfl | exact absurd kind other
    · refine Budget.examine_short list (Request.fit_short other ?_ short)
      cases kind : r.kind <;> first | rfl | exact absurd kind other
    · have granted := Budget.examine_head good list unclaimed (Request.fit_level seek asked low fits lowest)
      rw [seek] at granted ⊢
      exact granted
    · exact Budget.examine_short list (Request.fit_no_level seek short)
  · by_cases good : u.supply = .good
    · rw [Budget.examine_good good]
      refine Budget.examineFrom_claims (fun r h l d fit => ?_) u u.waitList distinct unclaimed
      by_cases seek : r.kind = .seek
      · rw [Request.fit_seek seek] at fit
        obtain ⟨m, granted, same⟩ := Option.map_eq_some_iff.1 fit
        obtain ⟨rfl, rfl⟩ := Prod.mk.inj same
        obtain ⟨-, low, -⟩ := fitLevel_some granted
        simp only [Request.claim, seek, seekDraw_getD low]
      · rw [Request.fit_other seek] at fit
        split at fit
        · obtain ⟨rfl, rfl⟩ := Prod.mk.inj (Option.some.inj fit)
          cases kind : r.kind <;> first | exact absurd kind seek | (simp only [Request.claim, kind]; rfl)
        · cases fit
    · simp [Budget.examine_else good]
  · obtain ⟨effective, pending, supply, -⟩ := u.examine_frame
    refine ⟨?_, ?_, ?_, effective, pending, supply, ?_, ?_⟩
    all_goals rw [Budget.examine_good good]
    · exact u.examineFrom_waitList _
    · exact u.examineFrom_granted _
    · exact u.examineFrom_head _
    · exact u.examineFrom_drawSum _
    · exact u.examineFrom_holds _

/-! ### Releases, withdrawals and the capacity (R23, R24, R30, R31) -/

/-- CLAIM_RELEASE takes the notice of its consumer (R30). -/
theorem exec_claimRelease_taken {s : State} {b : BayId} {c : Consumer} {early late : List Signal}
    (next : s.nextNotice b early (.release b c) late) :
    exec (.claimRelease b c) s = .next (({ s with signals := early ++ late } : State).putBudget (s.budget.free b c)) := by
  obtain ⟨place, before, accepts⟩ := next
  rw [exec_claimRelease, execClaimRelease, State.firstSignal_at place before accepts, State.dropSignal_at place before accepts]
  exact if_pos rfl

/-- WITHDRAWAL takes the notice of its kind: the request leaves the list, or the claim granted meanwhile is released (R31). -/
theorem exec_withdrawal_taken {s : State} {b : BayId} {k : RequestKind} {early late : List Signal}
    (next : s.nextNotice b early (.withdraw b k) late) : exec (.withdrawal b k) s =
      let t : State := { s with signals := early ++ late }
      if s.budget.waits b k then .next (t.putBudget (s.budget.drop b k))
      else if (t.firstSignal (Signal.isGrant b k)).isSome then
        .next ((t.dropSignal (Signal.isGrant b k)).putBudget (s.budget.free b k.consumer))
      else .next t := by
  obtain ⟨place, before, accepts⟩ := next
  rw [exec_withdrawal, execWithdrawal, State.firstSignal_at place before accepts, State.dropSignal_at place before accepts]
  exact if_pos rfl

namespace Budget

variable {u : Budget}

theorem free_eq (b : BayId) (c : Consumer) :
    let claims := u.claims.filter fun d => decide (¬ (d.bay = b ∧ d.consumer = c))
    u.free b c = (match u.pending with
      | some p => if (claims.map Claim.draw).sum ≤ p then { u with claims, effective := p, pending := none } else { u with claims }
      | none => { u with claims } : Budget).examine := by
  intro claims
  have same : (u.claims.filter fun d => !(d.bay = b ∧ d.consumer = c)) = claims :=
    List.filter_congr fun d _ => (decide_not ..).symm
  rw [free, same]
  rfl

theorem waits_head {q : Request} {rest : List Request} (list : u.waitList = q :: rest) : u.waits q.bay q.kind = true := by
  simp [waits, list]

theorem not_waits {b : BayId} {k : RequestKind} (absent : ∀ q ∈ u.waitList, ¬ (q.bay = b ∧ q.kind = k)) : ¬ u.waits b k = true := by
  simpa [waits] using absent

end Budget

/-- Settles O31: the claim a release frees, and the three ends of a withdrawal. -/
theorem budgetTakesReleasesAndWithdrawals : Obligations.BudgetTakesReleasesAndWithdrawals := by
  unfold Obligations.BudgetTakesReleasesAndWithdrawals
  intro s b early late
  dsimp only
  refine ⟨fun c next => ?_, fun k next => ?_⟩
  · rw [exec_claimRelease_taken next, Budget.free_eq]
    rfl
  · rw [exec_withdrawal_taken next]
    refine ⟨fun q rest list bay kind => ?_, fun q r list head bay kind => ?_, fun absent => ⟨fun quiet => ?_, fun first level last split before => ?_⟩⟩
    · subst bay kind
      dsimp only
      rw [if_pos (Budget.waits_head list), Budget.drop, list]
      simp only [and_self, if_true]
      rfl
    · have waits : s.budget.waits b k = true := by simp [Budget.waits, list, bay, kind]
      dsimp only
      rw [if_pos waits, Budget.drop, list]
      simp only [if_neg head]
      simp [State.putBudget, bay, kind]
    · dsimp only
      rw [if_neg (Budget.not_waits absent), State.firstSignal_none quiet]
      rfl
    · have accepts : Signal.isGrant b k (.grant b k level) = true := by simp [Signal.isGrant]
      dsimp only
      rw [if_neg (Budget.not_waits absent), State.firstSignal_at split before accepts, State.dropSignal_at split before accepts,
        Budget.free_eq]
      rfl

/-- Settles O32: the clamp of the capacity, and the two cases of its storing. -/
theorem capacityIsSet : Obligations.CapacityIsSet := by
  unfold Obligations.CapacityIsSet
  intro s value receives
  dsimp only
  have stored : exec (.set 255#8 7#8 255#8 value) s = .next
      ((s.putBudget (s.budget.setCapacity (max 33 (min 40 value.toNat)))).replied 0x04 255#8 .ok
        (7#8 :: bytes4 (max 33 (min 40 value.toNat)))) := by
    rw [exec_set, execSet, State.forUnit_field receives]
    rfl
  generalize capacity : max 33 (min 40 value.toNat) = n at stored ⊢
  have bytes : bytes4 n = [BitVec.ofNat 8 n, 0#8, 0#8, 0#8] := by
    rw [bytes4, Nat.div_eq_of_lt (by omega), Nat.div_eq_of_lt (show n < 65536 by omega), Nat.div_eq_of_lt (show n < 16777216 by omega)]
  rw [stored, bytes]
  refine ⟨fun covered => ?_, fun exceeds => ?_⟩
  · rw [Budget.setCapacity, if_pos (show drawSum s.budget.claims ≤ n from covered)]
    rfl
  · rw [Budget.setCapacity, if_neg (show ¬ drawSum s.budget.claims ≤ n from Nat.not_le.2 exceeds)]
    simp [State.putBudget]

end Sys2Proof.Machine
end

section
/-!
PROOFS. Seek plans: their figures and their demand profiles (O38, O39).
-/

namespace Sys2Proof.Machine

/-! ### The constants of a level (R62) -/

section
variable {l : Nat} (low : l ≤ 3)
include low

theorem accel_getD : [2, 2, 1, 1].getD l 0 = accel l := by
  match l, low with | 0, _ | 1, _ | 2, _ | 3, _ => rfl
theorem topVelocity_getD : [24, 16, 10, 6].getD l 0 = topVelocity l := by
  match l, low with | 0, _ | 1, _ | 2, _ | 3, _ => rfl
theorem rampLength_getD : [12, 8, 10, 6].getD l 0 = rampLength l := by
  match l, low with | 0, _ | 1, _ | 2, _ | 3, _ => rfl
theorem rampDistance_getD : [156, 72, 55, 21].getD l 0 = rampDistance l := by
  match l, low with | 0, _ | 1, _ | 2, _ | 3, _ => rfl
theorem heatWeight_getD : [8, 6, 3, 2].getD l 0 = heatWeight l := by
  match l, low with | 0, _ | 1, _ | 2, _ | 3, _ => rfl

theorem accel_mul_rampLength : accel l * rampLength l = topVelocity l := by
  match l, low with | 0, _ | 1, _ | 2, _ | 3, _ => rfl
theorem two_mul_rampDistance : 2 * rampDistance l = accel l * rampLength l * (rampLength l + 1) := by
  match l, low with | 0, _ | 1, _ | 2, _ | 3, _ => rfl

end

theorem accel_pos (l : Nat) : 0 < accel l := by
  unfold accel
  split <;> omega
theorem topVelocity_pos (l : Nat) : 0 < topVelocity l := by
  unfold topVelocity
  split <;> omega

/-! ### The form of a plan (R66 to R68) -/

/-- The steps of a triangle: the largest number up to the bound whose two ramps the distance covers (R68). -/
theorem triangleSteps_spec (a d : Nat) (bound : Nat) :
    let j := triangleSteps a d bound
    j ≤ bound ∧ a * j * (j + 1) ≤ d ∧ (j < bound → d < a * (j + 1) * (j + 2)) := by
  induction bound with
  | zero => simp [triangleSteps]
  | succ n ih =>
    simp only [triangleSteps]
    split
    · rename_i fits
      exact ⟨Nat.le_refl _, fits, fun less => absurd less (Nat.lt_irrefl _)⟩
    · rename_i exceeds
      obtain ⟨bounded, fits, least⟩ := ih
      refine ⟨by omega, fits, fun _ => ?_⟩
      rcases Nat.lt_or_eq_of_le bounded with less | same
      · exact least less
      · rw [same]
        omega

theorem ceilDiv_covers (n : Nat) {m : Nat} (pos : 0 < m) : n ≤ ceilDiv n m * m ∧ ceilDiv n m * m < n + m := by
  unfold ceilDiv
  have division := Nat.div_add_mod' (n + m - 1) m
  have rest := Nat.mod_lt (n + m - 1) pos
  omega

section
variable {d l : Nat} (low : l ≤ 3)

theorem shapeOf_zero : shapeOf 0 l = { half := 0, run := .absent } := if_pos rfl

include low

/-- A distance of two ramps or more: a trapezoid, its coast covering what the ramps leave (R67). -/
theorem shapeOf_trapezoid (far : 2 * rampDistance l ≤ d) :
    ∃ n, shapeOf d l = { half := rampLength l, run := .coast n } ∧ d - 2 * rampDistance l ≤ n * topVelocity l ∧
      n * topVelocity l < d - 2 * rampDistance l + topVelocity l := by
  have moves : d ≠ 0 := by
    rintro rfl
    match l, low with | 0, _ | 1, _ | 2, _ | 3, _ => exact absurd far (by decide)
  exact ⟨_, by rw [shapeOf, if_neg moves, if_pos far], ceilDiv_covers _ (topVelocity_pos l)⟩

/-- A shorter distance: a triangle below the ramp length of the level, its extra samples covering what the ramps leave (R68). -/
theorem shapeOf_triangle (moves : 0 < d) (near : d < 2 * rampDistance l) :
    ∃ j n, shapeOf d l = { half := j, run := .extra n } ∧ j < rampLength l ∧ accel l * j * (j + 1) ≤ d ∧
      d < accel l * (j + 1) * (j + 2) ∧ d - accel l * j * (j + 1) ≤ n * (accel l * (j + 1)) ∧
      n * (accel l * (j + 1)) < d - accel l * j * (j + 1) + accel l * (j + 1) := by
  obtain ⟨bounded, fits, least⟩ := triangleSteps_spec (accel l) d (rampLength l)
  have below : triangleSteps (accel l) d (rampLength l) < rampLength l := by
    refine Nat.lt_of_le_of_ne bounded fun full => ?_
    rw [full, ← two_mul_rampDistance low] at fits
    omega
  refine ⟨_, _, by rw [shapeOf, if_neg (by omega), if_neg (by omega)], below, fits, least below, ?_⟩
  exact ceilDiv_covers _ (Nat.mul_pos (accel_pos l) (Nat.succ_pos _))

end

/-- Settles O38: the form of the plan, by the distance, and its other figures as they are defined. -/
theorem planFigures : Obligations.PlanFigures := by
  unfold Obligations.PlanFigures
  intro cylinder head d e l dir low _
  dsimp only
  rw [accel_getD low, topVelocity_getD low, rampLength_getD low, rampDistance_getD low, heatWeight_getD low, seekDraw_getD low]
  refine ⟨rfl, rfl, rfl, rfl, rfl, rfl, rfl, rfl, rfl, fun zero => ?_, fun moves => ?_, fun far => ?_, fun moves near => ?_⟩
  · subst zero
    simp [makePlan, shapeOf_zero, CoastOrExtra.samples]
  · exact ⟨if_neg (by omega), if_neg (by omega)⟩
  · obtain ⟨n, shape, covers⟩ := shapeOf_trapezoid low far
    simp only [makePlan, shape]
    exact ⟨n, trivial, rfl, rfl, covers⟩
  · obtain ⟨j, n, shape, below, fits, least, covers⟩ := shapeOf_triangle low moves near
    simp only [makePlan, shape]
    exact ⟨j, n, rfl, below, fits, least, rfl, rfl, covers⟩

/-! ### The demand profile (R71) -/

theorem sum_up_ramp (a h : Nat) : 2 * ((List.range h).map fun i => a * (i + 1)).sum = a * h * (h + 1) := by
  induction h with
  | zero => simp
  | succ n ih =>
    rw [List.range_succ, List.map_append, List.sum_append, Nat.mul_add, ih]
    simp only [List.map_cons, List.map_nil, List.sum_cons, List.sum_nil]
    grind

theorem sum_down_ramp (a h : Nat) : 2 * ((List.range h).map fun i => a * (h - i)).sum = a * h * (h + 1) := by
  induction h with
  | zero => simp
  | succ n ih =>
    rw [List.range_succ_eq_map, List.map_cons, List.sum_cons, List.map_map, Nat.mul_add]
    have : ((fun i => a * (n + 1 - i)) ∘ Nat.succ) = fun i => a * (n - i) := by
      funext i
      simp
    rw [this, ih]
    grind

/-- The distance of some samples at one velocity, the last demanding what is left. -/
theorem sum_run {v left : Nat} (n : Nat) (less : n * v ≤ left) :
    ((List.range (n + 1)).map fun i => if i < n then v else left - v * n).sum = left := by
  rw [List.range_succ, List.map_append, List.sum_append]
  have steady : (List.range n).map (fun i => if i < n then v else left - v * n) = List.replicate n v := by
    rw [List.eq_replicate_iff]
    exact ⟨by simp, fun x hx => by
      obtain ⟨i, below, rfl⟩ := List.mem_map.1 hx
      exact if_pos (List.mem_range.1 below)⟩
  rw [steady, List.sum_replicate_nat]
  simp only [List.map_cons, List.map_nil, List.sum_cons, List.sum_nil, Nat.lt_irrefl, if_false]
  rw [Nat.mul_comm v n]
  omega

/-- The profile of a plan of a level over a distance: two ramps, and between them some samples that cover the rest at one
velocity, the last of them what is left (R66 to R68, R71). -/
structure Plan.Profile (p : Plan) (l d half run : Nat) : Prop where
  level : p.level = l
  ramp : p.ramp = 2 * half
  samples : p.coastOrExtra.samples = run
  moving : p.moving = 2 * half + run
  bounded : half ≤ rampLength l
  velocity : p.runVelocity = if 2 * rampDistance l ≤ d then topVelocity l else accel l * (half + 1)
  ramps : accel l * half * (half + 1) ≤ d
  left : p.runDistance = d - accel l * half * (half + 1)
  covers : p.runDistance ≤ run * p.runVelocity
  least : run * p.runVelocity < p.runDistance + p.runVelocity

theorem makePlan_profile {l : Nat} (low : l ≤ 3) (cylinder head d e : Nat) (dir : Direction) :
    ∃ half run, (makePlan cylinder head d dir e l).Profile l d half run := by
  rcases Nat.eq_zero_or_pos d with rfl | moves
  · have far : ¬ 2 * rampDistance l ≤ 0 := by
      match l, low with | 0, _ | 1, _ | 2, _ | 3, _ => decide
    refine ⟨0, 0, ⟨rfl, rfl, rfl, rfl, Nat.zero_le _, ?_, by simp, ?_, ?_, ?_⟩⟩
    · simp [makePlan, Plan.runVelocity, shapeOf_zero, far]
    · simp [makePlan, Plan.runDistance, shapeOf_zero]
    · simp [makePlan, Plan.runDistance, shapeOf_zero]
    · simp only [makePlan, Plan.runVelocity, shapeOf_zero]
      rw [Nat.zero_mul]
      exact Nat.lt_of_lt_of_le (Nat.mul_pos (accel_pos l) (Nat.succ_pos _)) (Nat.le_add_left _ _)
  · rcases Nat.lt_or_ge d (2 * rampDistance l) with near | far
    · obtain ⟨j, n, shape, below, fits, -, covers, least⟩ := shapeOf_triangle low moves near
      refine ⟨j, n, ⟨rfl, ?_, ?_, ?_, Nat.le_of_lt below, ?_, fits, ?_, ?_, ?_⟩⟩ <;>
        simp only [makePlan, shape, Plan.runVelocity, Plan.runDistance, CoastOrExtra.samples, if_neg (Nat.not_le.2 near),
          Nat.mul_div_cancel_left j Nat.two_pos, covers, least]
    · obtain ⟨n, shape, covers, least⟩ := shapeOf_trapezoid low far
      rw [two_mul_rampDistance low] at covers least
      refine ⟨rampLength l, n, ⟨rfl, ?_, ?_, ?_, Nat.le_refl _, ?_, two_mul_rampDistance low ▸ far, ?_, ?_, ?_⟩⟩ <;>
        simp only [makePlan, shape, Plan.runVelocity, Plan.runDistance, CoastOrExtra.samples, if_pos far,
          Nat.mul_div_cancel_left _ Nat.two_pos, covers, least]

namespace Plan.Profile

variable {p : Plan} {l d half run : Nat} (profile : p.Profile l d half run)
include profile

theorem half_ramp : p.ramp / 2 = half := by rw [profile.ramp, Nat.mul_div_cancel_left half Nat.two_pos]

omit profile in
theorem demand_rest {i : Nat} (rest : i = 0 ∨ p.moving < i) : p.demand i = 0 := if_pos rest

theorem demand_up {i : Nat} (first : 1 ≤ i) (last : i ≤ half) : p.demand i = accel l * i := by
  simp only [demand, profile.half_ramp, profile.moving, profile.level]
  rw [if_neg (by omega), if_pos last]

theorem demand_run {i : Nat} (first : half < i) (last : i < half + run) : p.demand i = p.runVelocity := by
  simp only [demand, profile.half_ramp, profile.moving, profile.samples]
  rw [if_neg (by omega), if_neg (by omega), if_pos last]

theorem demand_left (first : 0 < run) : p.demand (half + run) = p.runDistance - p.runVelocity * (run - 1) := by
  simp only [demand, profile.half_ramp, profile.moving, profile.samples]
  rw [if_neg (by omega), if_neg (by omega), if_neg (by omega), if_pos trivial]

theorem demand_down {i : Nat} (first : half + run < i) (last : i ≤ 2 * half + run) :
    p.demand i = accel l * (2 * half + run + 1 - i) := by
  simp only [demand, profile.half_ramp, profile.moving, profile.samples, profile.level]
  rw [if_neg (by omega), if_neg (by omega), if_neg (by omega), if_neg (by omega)]

/-- The velocities demanded add up to the distance: the two ramps, and what they leave (R71). -/
theorem sum_demand : ((List.range p.moving).map fun i => p.demand (i + 1)).sum = d := by
  have moving : p.moving = half + (run + half) := by
    rw [profile.moving]
    omega
  rw [moving, List.range_add, List.range_add, List.map_append, List.map_map, List.map_append, List.map_map, List.sum_append,
    List.sum_append]
  have up : (List.range half).map (fun i => p.demand (i + 1)) = (List.range half).map fun i => accel l * (i + 1) :=
    List.map_congr_left fun i below => profile.demand_up (by omega) (List.mem_range.1 below)
  have down : (List.range half).map (((fun i => p.demand (i + 1)) ∘ (half + ·)) ∘ (run + ·)) =
      (List.range half).map fun i => accel l * (half - i) := by
    refine List.map_congr_left fun i below => ?_
    have below := List.mem_range.1 below
    refine (profile.demand_down (i := half + (run + i) + 1) (by omega) (by omega)).trans ?_
    congr 1
    omega
  have between : ((List.range run).map ((fun i => p.demand (i + 1)) ∘ (half + ·))).sum = p.runDistance := by
    have covers := profile.covers
    have least := profile.least
    cases samples : run with
    | zero =>
      rw [samples, Nat.zero_mul] at covers
      simp only [List.range_zero, List.map_nil, List.sum_nil]
      omega
    | succ n =>
      have steady : (List.range (n + 1)).map ((fun i => p.demand (i + 1)) ∘ (half + ·)) =
          (List.range (n + 1)).map fun i => if i < n then p.runVelocity else p.runDistance - p.runVelocity * n := by
        refine List.map_congr_left fun i below => ?_
        have below := List.mem_range.1 below
        rcases Nat.lt_or_ge i n with inner | last
        · rw [if_pos inner]
          exact profile.demand_run (i := half + i + 1) (by omega) (by omega)
        · obtain rfl : i = n := by omega
          rw [if_neg (Nat.lt_irrefl _)]
          have := profile.demand_left (by omega)
          rw [samples] at this
          exact this
      rw [steady]
      refine sum_run n ?_
      rw [samples, Nat.succ_mul] at least
      omega
  have left := profile.left
  have ramps := profile.ramps
  have rise := sum_up_ramp (accel l) half
  have fall := sum_down_ramp (accel l) half
  rw [up, between]
  refine (congrArg (fun (x : List Nat) => _ + (_ + x.sum)) down).trans ?_
  omega

/-- The last sample between the ramps demands no more than the others. -/
theorem left_le : p.runDistance - p.runVelocity * (run - 1) ≤ p.runVelocity := by
  have covers := profile.covers
  rcases Nat.eq_zero_or_pos run with none | some
  · rw [none, Nat.zero_mul] at covers
    omega
  · obtain ⟨n, rfl⟩ := Nat.exists_eq_succ_of_ne_zero (Nat.pos_iff_ne_zero.1 some)
    rw [Nat.succ_mul] at covers
    rw [Nat.succ_sub_one, Nat.mul_comm]
    omega

variable (low : l ≤ 3)
include low

theorem ramp_le {i : Nat} (below : i ≤ half) : accel l * i ≤ topVelocity l :=
  accel_mul_rampLength low ▸ Nat.mul_le_mul_left _ (Nat.le_trans below profile.bounded)

theorem runVelocity_le : p.runVelocity ≤ topVelocity l := by
  rw [profile.velocity]
  split
  · exact Nat.le_refl _
  · rename_i near
    rw [← accel_mul_rampLength low]
    refine Nat.mul_le_mul_left _ (Nat.lt_of_le_of_ne profile.bounded fun full => near ?_)
    rw [two_mul_rampDistance low, ← full]
    exact profile.ramps

theorem demand_le (i : Nat) : p.demand i ≤ topVelocity l := by
  by_cases rest : i = 0 ∨ p.moving < i
  · rw [demand_rest rest]
    exact Nat.zero_le _
  · have moving := profile.moving
    rcases Nat.lt_or_ge half i with past | up
    · rcases Nat.lt_trichotomy i (half + run) with inner | rfl | down
      · exact profile.demand_run past inner ▸ profile.runVelocity_le low
      · exact profile.demand_left (by omega) ▸ Nat.le_trans profile.left_le (profile.runVelocity_le low)
      · exact profile.demand_down down (by omega) ▸ profile.ramp_le low (by omega)
    · exact profile.demand_up (by omega) up ▸ profile.ramp_le low up

end Plan.Profile

/-! ### The other moves (R74, R76, R78) -/

namespace Actuator

variable {x : Actuator}

theorem loadVelocity_range (x : Actuator) (i : Nat) : 0 ≤ x.loadVelocity i ∧ x.loadVelocity i ≤ 6 := by
  have top : ((topVelocity 3 : Nat) : Int) = 6 := rfl
  rw [loadVelocity, top]
  omega

theorem recalVelocity_range (x : Actuator) (n : Nat) :
    if n ≤ x.recalGuard then -6 ≤ x.recalVelocity n ∧ x.recalVelocity n ≤ 0 else 0 ≤ x.recalVelocity n ∧ x.recalVelocity n ≤ 6 := by
  have top : ((topVelocity 3 : Nat) : Int) = 6 := rfl
  simp only [recalVelocity, top]
  split <;> omega

end Actuator

/-- Settles O39: the profile of the plan, and the drive of each state of the actuator. -/
theorem demandCoversTheDistance : Obligations.DemandCoversTheDistance := by
  unfold Obligations.DemandCoversTheDistance
  intro cylinder head d e l dir low
  dsimp only
  rw [accel_getD low, topVelocity_getD low, rampDistance_getD low]
  obtain ⟨half, run, profile⟩ := makePlan_profile low cylinder head d e dir
  have force : (makePlan cylinder head d dir e l).outcome = .inForce := rfl
  have direction : (makePlan cylinder head d dir e l).direction = dir := rfl
  generalize makePlan cylinder head d dir e l = p at profile force direction ⊢
  rw [profile.half_ramp]
  have moving := profile.moving
  refine ⟨profile.sum_demand, fun i => ⟨profile.demand_le low i, fun rest => Plan.Profile.demand_rest rest.symm, fun first last => ?_,
    fun past inner => ?_, fun past last => ?_, ?_, fun o ended => if_neg ended, fun x => ⟨fun state plan => ?_, fun state => ?_,
      fun state runs => ?_, fun state waits => ?_, fun state => ?_, fun state => ?_, fun state => ?_⟩⟩⟩
  · refine ⟨profile.demand_up first last, ?_⟩
    rw [profile.demand_down (by omega) (by omega)]
    congr 1
    omega
  · rw [profile.demand_run past (by omega), profile.velocity]
  · obtain rfl : i = half + run := by omega
    rw [profile.demand_left (by omega), profile.left, profile.velocity]
    congr 2
    omega
  · rw [Plan.velocity, if_pos force, direction]
    cases dir <;> simp [Direction.sign]
  · simp only [Actuator.drive, state, plan, Option.elim_some]
  · exact ⟨_, by simp only [Actuator.drive, state], x.loadVelocity_range i⟩
  · refine ⟨x.recalGuard, ?_, fun forLoad => if_pos forLoad, fun n => ⟨_, by simp only [Actuator.drive, state, runs, if_true], x.recalVelocity_range n⟩⟩
    unfold Actuator.recalGuard
    split <;> omega
  · simp only [Actuator.drive, state, if_neg waits]
  all_goals simp only [Actuator.drive, state]

end Sys2Proof.Machine
end

section
/-!
PROOFS. Resolution gives every block a sector of its own, and the label: built, read back and judged (O54, O55).
-/

namespace Sys2Proof.Machine

/-! ### Resolution (R2, R3, R108) -/

/-- A lookup finds a valid entry of the block, or none. -/
theorem RemapTable.find_cases (t : RemapTable) (n : Nat) :
    t.find n = none ∨ ∃ (i : Fin 64) (m : MapEntry), t.find n = some (i.val, m) ∧ t.entries[i] = some m ∧ m.block = n := by
  cases found : t.find n with
  | none => exact .inl rfl
  | some p =>
    obtain ⟨q, mem, here⟩ := List.exists_of_findSome?_eq_some found
    rw [RemapTable.indexed_eq] at mem
    obtain ⟨i, -, rfl⟩ := List.mem_map.1 mem
    obtain ⟨m, valid, rfl⟩ := Option.map_eq_some_iff.1 here
    obtain ⟨entry, block⟩ := Option.filter_eq_some_iff.1 valid
    exact .inr ⟨i, m, rfl, entry, by simpa using block⟩

/-- A block resolves to the spare of a valid entry of its own, or to its direct address. -/
theorem RemapTable.resolve_cases (t : RemapTable) (typeCode n : Nat) :
    t.resolve typeCode n = directAddr n ∨
      ∃ (i : Fin 64) (m : MapEntry), t.entries[i] = some m ∧ m.block = n ∧ t.resolve typeCode n = spareAddr typeCode m.spare := by
  rcases t.find_cases n with absent | ⟨i, m, found, entry, block⟩
  · exact .inl (by rw [RemapTable.resolve, absent])
  · exact .inr ⟨i, m, entry, block, by rw [RemapTable.resolve, found]⟩

theorem directAddr_injective {m n : Nat} (same : directAddr m = directAddr n) : m = n := by
  obtain ⟨cylinder, head, sector⟩ := PhysAddr.mk.inj same
  omega

theorem spareAddr_injective {typeCode m n : Nat} (same : spareAddr typeCode m = spareAddr typeCode n) : m = n := by
  obtain ⟨cylinder, head, sector⟩ := PhysAddr.mk.inj same
  omega

section
variable {typeCode : Nat} (data : typeCode = 1 ∨ typeCode = 2)
include data

theorem cylinders_data {n : Nat} (block : blockOk typeCode n = true) : 1 + n / 48 < cylinders typeCode - 4 ∧ 8 ≤ cylinders typeCode := by
  simp only [blockOk, decide_eq_true_eq] at block
  rcases data with rfl | rfl <;> simp only [blockCount, cylinders] at block ⊢ <;> omega

theorem directAddr_below {n : Nat} (block : blockOk typeCode n = true) :
    1 ≤ (directAddr n).cylinder ∧ (directAddr n).cylinder < cylinders typeCode - 4 ∧ physOk typeCode (directAddr n) = true := by
  obtain ⟨below, many⟩ := cylinders_data data block
  have cylinder : cylinderOk typeCode (1 + n / 48) = true := decide_eq_true (by omega)
  exact ⟨Nat.le_add_right 1 _, below, decide_eq_true ⟨cylinder, show n % 48 / 24 ≤ 1 by omega, show n % 24 ≤ 23 by omega⟩⟩

theorem spareAddr_above {n : Nat} (spare : spareOk n = true) : 1 ≤ (spareAddr typeCode n).cylinder ∧
    cylinders typeCode - 4 ≤ (spareAddr typeCode n).cylinder ∧ physOk typeCode (spareAddr typeCode n) = true := by
  simp only [spareOk, decide_eq_true_eq] at spare
  rcases data with rfl | rfl <;> simp only [spareAddr, physOk, cylinderOk, cylinders, decide_eq_true_eq] <;> omega

end

/-- Settles O54: direct addresses lie below the spare cylinders, and two blocks of the table have spares of their own. -/
theorem blocksHaveSectorsOfTheirOwn : Obligations.BlocksHaveSectorsOfTheirOwn := by
  unfold Obligations.BlocksHaveSectorsOfTheirOwn
  intro t typeCode m n data ok mBlock nBlock
  obtain ⟨distinct, ranges⟩ := RemapTable.ok_iff.1 ok
  have mDirect := directAddr_below data mBlock
  have nDirect := directAddr_below data nBlock
  rcases t.resolve_cases typeCode m with mResolves | ⟨i, j, entry, rfl, mResolves⟩ <;>
    rcases t.resolve_cases typeCode n with nResolves | ⟨k, l, other, rfl, nResolves⟩ <;> rw [mResolves, nResolves]
  · exact ⟨directAddr_injective, mDirect.2.2, mDirect.1⟩
  · obtain ⟨-, above, -⟩ := spareAddr_above data (ranges k l other).1
    refine ⟨fun same => absurd (congrArg PhysAddr.cylinder same) ?_, mDirect.2.2, mDirect.1⟩
    omega
  · obtain ⟨first, above, inRange⟩ := spareAddr_above data (ranges i j entry).1
    refine ⟨fun same => absurd (congrArg PhysAddr.cylinder same) ?_, inRange, first⟩
    omega
  · obtain ⟨first, -, inRange⟩ := spareAddr_above data (ranges i j entry).1
    refine ⟨fun same => ?_, inRange, first⟩
    by_cases index : i = k
    · subst index
      rw [entry] at other
      rw [Option.some.inj other]
    · exact absurd (spareAddr_injective same) (distinct i k j l index entry other).2

/-! ### Words and bytes of a label (section 11.6) -/

theorem wordsOf_eq (n : Nat) : ∀ bytes : List Byte, bytes.length = 2 * n →
    wordsOf bytes = (List.range n).map fun i => (bytes[2 * i]?.getD 0#8).toNat + 256 * (bytes[2 * i + 1]?.getD 0#8).toNat := by
  induction n with
  | zero =>
    intro bytes length
    obtain rfl := List.eq_nil_of_length_eq_zero length
    rfl
  | succ n ih =>
    intro bytes length
    match bytes, length with
    | lo :: hi :: rest, length =>
      rw [wordsOf, ih rest (by simp at length; omega), List.range_succ_eq_map, List.map_cons, List.map_map]
      rfl

theorem word_of_bytes2 {w : Nat} (low : w < 65536) : (BitVec.ofNat 8 w).toNat + 256 * (BitVec.ofNat 8 (w / 256)).toNat = w := by
  simp only [BitVec.toNat_ofNat]
  omega

theorem wordsOf_bytesOf (words : List Nat) (low : ∀ w ∈ words, w < 65536) : wordsOf (bytesOf words) = words := by
  induction words with
  | nil => rfl
  | cons w rest ih =>
    have step : wordsOf (bytesOf (w :: rest)) =
        ((BitVec.ofNat 8 w).toNat + 256 * (BitVec.ofNat 8 (w / 256)).toNat) :: wordsOf (bytesOf rest) := rfl
    rw [step, word_of_bytes2 (low w List.mem_cons_self), ih fun v hv => low v (List.mem_cons_of_mem _ hv)]

theorem bytesOf_length (words : List Nat) : (bytesOf words).length = 2 * words.length := by
  induction words with
  | nil => rfl
  | cons w rest ih =>
    rw [bytesOf, List.length_append, ih, List.length_cons]
    simp [bytes2]
    omega

theorem toList_sectorOf_full {bytes : List Byte} (full : bytes.length = 512) : (sectorOf bytes).toList = bytes := by
  rw [toList_sectorOf]
  apply List.ext_getElem <;> simp +contextual [full]

theorem labelEntries_entryWords (l : List MapEntry) (spares : ∀ m ∈ l, m.spare < 256) (rest : List Nat) :
    labelEntries l.length (entryWords l ++ rest) = l := by
  induction l with
  | nil => cases rest <;> rfl
  | cons m l ih =>
    simp only [List.length_cons, entryWords, List.cons_append, labelEntries]
    rw [ih fun k hk => spares k (List.mem_cons_of_mem _ hk), Nat.mod_eq_of_lt (spares m List.mem_cons_self)]

theorem entryWords_length (l : List MapEntry) : (entryWords l).length = 2 * l.length := by
  induction l with
  | nil => rfl
  | cons m l ih => simp only [entryWords, List.length_cons, ih]; omega

theorem entryWords_low (l : List MapEntry) (low : ∀ m ∈ l, m.block < 65536 ∧ m.spare < 65536) : ∀ w ∈ entryWords l, w < 65536 := by
  induction l with
  | nil => simp [entryWords]
  | cons m l ih =>
    obtain ⟨⟨block, spare⟩, others⟩ := List.forall_mem_cons.1 low
    simp only [entryWords, List.forall_mem_cons]
    exact ⟨block, spare, ih others⟩

/-- The check word brings the sum of all words to a multiple of 65,536 (R116). -/
theorem sum_checkWord (words : List Nat) : (words ++ [checkWord words]).sum % 65536 = 0 := by
  simp only [List.sum_append, List.sum_cons, List.sum_nil, checkWord]
  omega

/-! ### The label built (R116, R120) -/

namespace RemapTable

variable {t : RemapTable} {typeCode : Nat} (data : typeCode = 1 ∨ typeCode = 2) (ok : t.Ok typeCode)

/-- The words of a label before the check word: the header, the entries, and zeros. -/
def labelBody (t : RemapTable) (typeCode : Nat) : List Nat :=
  let head := [labelMagic0, labelMagic1, typeCode, labelVersion, t.valid.length, t.nextGeneration] ++ entryWords t.valid
  head ++ List.replicate (255 - head.length) 0

theorem labelWords_eq (t : RemapTable) (typeCode : Nat) :
    t.labelWords typeCode = t.labelBody typeCode ++ [checkWord (t.labelBody typeCode)] := rfl

theorem valid_length_le (t : RemapTable) : t.valid.length ≤ 64 := by
  have := List.length_filterMap_le (f := id) (l := t.entries.toList)
  simpa [valid] using this

theorem labelBody_length (t : RemapTable) (typeCode : Nat) : (t.labelBody typeCode).length = 255 := by
  have := t.valid_length_le
  simp only [labelBody, List.length_append, List.length_replicate, List.length_cons, List.length_nil, entryWords_length]
  omega

include data ok

theorem entry_ranges {m : MapEntry} (valid : m ∈ t.valid) : m.block < 38160 ∧ m.spare ≤ 191 := by
  have block := ok.blocks (by omega) m valid
  have spare := ok.spares m valid
  simp only [blockOk, spareOk, decide_eq_true_eq] at block spare
  rcases data with rfl | rfl <;> simp only [blockCount] at block <;> omega

theorem labelWords_low : ∀ w ∈ t.labelWords typeCode, w < 65536 := by
  have entries : ∀ w ∈ entryWords t.valid, w < 65536 := entryWords_low _ fun m valid => by
    have := entry_ranges data ok valid
    omega
  have few := t.valid_length_le
  intro w mem
  rw [labelWords_eq, List.mem_append, List.mem_singleton] at mem
  rcases mem with body | rfl
  · simp only [labelBody, List.mem_append, List.mem_cons, List.not_mem_nil, or_false, List.mem_replicate] at body
    rcases body with ((rfl | rfl | rfl | rfl | rfl | rfl) | entry) | ⟨-, rfl⟩
    · decide
    · decide
    · omega
    · decide
    · omega
    · exact Nat.mod_lt _ (by decide)
    · exact entries w entry
    · decide
  · exact Nat.mod_lt _ (by decide)

/-- The words of a label built are the words read back from its sector. -/
theorem wordsOf_labelSector : wordsOf (t.labelSector typeCode).toList = t.labelWords typeCode := by
  have length : (bytesOf (t.labelWords typeCode)).length = 512 := by
    rw [bytesOf_length, labelWords_eq, List.length_append, labelBody_length]
    rfl
  rw [labelSector, toList_sectorOf_full length, wordsOf_bytesOf _ (labelWords_low data ok)]

/-- A label built passes each check when it is read back (R117). -/
theorem judgeLabel_labelSector :
    judgeLabel typeCode (some (t.labelSector typeCode)) = .ok (t.valid, (t.generation + 1) % 65536) := by
  have entries (rest : List Nat) : labelEntries t.valid.length (entryWords t.valid ++ rest) = t.valid :=
    labelEntries_entryWords _ (fun m valid => by have := entry_ranges data ok valid; omega) rest
  have words : t.labelWords typeCode = labelMagic0 :: labelMagic1 :: typeCode :: labelVersion :: t.valid.length :: t.nextGeneration ::
      (entryWords t.valid ++ (List.replicate (249 - (entryWords t.valid).length) 0 ++ [checkWord (t.labelBody typeCode)])) := by
    rw [labelWords_eq]
    simp [labelBody]
  have sum : (t.labelWords typeCode).sum % 65536 = 0 := labelWords_eq t typeCode ▸ sum_checkWord _
  have ranges : (t.valid.all fun m => blockOk typeCode m.block && spareOk m.spare) = true := by
    rw [List.all_eq_true]
    intro m valid
    rw [ok.blocks (by omega) m valid, ok.spares m valid]
    rfl
  have few := t.valid_length_le
  rw [judgeLabel, wordsOf_labelSector data ok, judgeWords, if_neg, if_neg (Classical.not_not.2 sum)]
  · rw [words]
    simp only [List.getD_cons_zero, List.getD_cons_succ, List.drop_succ_cons, List.drop_zero, ne_eq, not_true_eq_false, if_false,
      entries, ranges, ok.distinct]
    rw [if_neg (by simp; omega)]
    rfl
  · rw [words]
    simp

end RemapTable

/-! ### The judgement of a label read (R117) -/

theorem labelEntries_eq (n : Nat) : ∀ words : List Nat, 2 * n ≤ words.length → labelEntries n words =
    (List.range n).map fun i => { block := words.getD (2 * i) 0, spare := words.getD (2 * i + 1) 0 % 256 } := by
  induction n with
  | zero => intros; simp [labelEntries]
  | succ n ih =>
    intro words length
    match words, length with
    | [], length | [_], length => simp only [List.length_cons, List.length_nil] at length; omega
    | block :: spare :: rest, length =>
      rw [labelEntries, ih rest (by simp at length; omega), List.range_succ_eq_map, List.map_cons, List.map_map]
      rfl

theorem noDuplicates_range (n : Nat) (block spare : Nat → Nat) :
    noDuplicates ((List.range n).map fun i => { block := block i, spare := spare i }) = true ↔
      ∀ i < n, ∀ j < i, block i ≠ block j ∧ spare i ≠ spare j := by
  rw [RemapTable.noDuplicates_iff, List.pairwise_map, List.pairwise_iff_getElem]
  simp only [List.length_range, List.getElem_range]
  exact ⟨fun distinct i below j less => (distinct j i (by omega) below less).imp Ne.symm Ne.symm,
    fun distinct j i _ below less => (distinct i below j less).imp Ne.symm Ne.symm⟩

theorem getD_map_range {f : Nat → Nat} {n i : Nat} (below : i < n) : ((List.range n).map f).getD i 0 = f i := by
  simp [List.getD, below]

/-- A word of a sector, from its two bytes (section 11.6). -/
abbrev sectorWord (d : Sector) (i : Nat) : Nat := (d[2 * i]?.getD 0#8).toNat + 256 * (d[2 * i + 1]?.getD 0#8).toNat

/-- Settles O55: a built label passes each check, and the checks are those of the statement, in its order. -/
theorem builtLabelIsValid : Obligations.BuiltLabelIsValid := by
  unfold Obligations.BuiltLabelIsValid
  refine ⟨fun t typeCode data ok => RemapTable.judgeLabel_labelSector data ok, fun _ => rfl, fun typeCode d => ?_⟩
  have bytes (i : Nat) : d.toList[i]?.getD 0#8 = d[i]?.getD 0#8 := by simp
  have read : wordsOf d.toList = (List.range 256).map (sectorWord d) := by
    rw [wordsOf_eq 256 _ (by simp)]
    simp only [bytes]
  dsimp only
  rw [judgeLabel, read]
  have at_ {i : Nat} (below : i < 256) : ((List.range 256).map (sectorWord d)).getD i 0 = sectorWord d i := getD_map_range below
  simp only [judgeWords, at_ (show 0 < 256 by decide), at_ (show 1 < 256 by decide), at_ (show 2 < 256 by decide),
    at_ (show 3 < 256 by decide), at_ (show 4 < 256 by decide), at_ (show 5 < 256 by decide)]
  have entries (few : sectorWord d 4 ≤ 64) : labelEntries (sectorWord d 4) (((List.range 256).map (sectorWord d)).drop 6) = (List.range (sectorWord d 4)).map fun i =>
      { block := sectorWord d (6 + 2 * i), spare := (d[2 * (7 + 2 * i)]?.getD 0#8).toNat } := by
    rw [labelEntries_eq _ _ (by simp; omega)]
    refine List.map_congr_left fun i below => ?_
    have below := List.mem_range.1 below
    have block : (((List.range 256).map (sectorWord d)).drop 6).getD (2 * i) 0 = sectorWord d (6 + 2 * i) := by
      rw [List.getD_eq_getElem?_getD, List.getElem?_drop, ← List.getD_eq_getElem?_getD, at_ (by omega)]
    have spare : (((List.range 256).map (sectorWord d)).drop 6).getD (2 * i + 1) 0 = sectorWord d (7 + 2 * i) := by
      rw [List.getD_eq_getElem?_getD, List.getElem?_drop, ← List.getD_eq_getElem?_getD, at_ (by omega)]
      congr 1
      omega
    have lowByte : sectorWord d (7 + 2 * i) % 256 = (d[2 * (7 + 2 * i)]?.getD 0#8).toNat := by
      have := (d[2 * (7 + 2 * i)]?.getD 0#8).isLt
      simp only [sectorWord]
      omega
    rw [block, spare, lowByte]
  refine ⟨fun spoilt => if_pos ?_, fun magic sum => ?_, fun magic sum type => ?_, fun magic sum type bad => ?_,
    fun magic sum type ranges distinct => ?_⟩
  · refine Classical.byContradiction fun good => ?_
    simp only [not_or, Classical.not_not] at good
    exact spoilt good
  all_goals rw [if_neg (fun bad => bad.elim (· magic.1) fun bad => bad.elim (· magic.2.1) (· magic.2.2))]
  · rw [if_pos sum]
  · rw [if_neg (Classical.not_not.2 sum), if_pos type]
  · rw [if_neg (Classical.not_not.2 sum), if_neg (Classical.not_not.2 type)]
    split
    · rfl
    · rename_i passes
      simp only [not_or, Nat.not_lt, Bool.not_eq_true', Bool.not_eq_false] at passes
      obtain ⟨few, ranges⟩ := passes
      rw [entries few] at ranges ⊢
      rw [if_pos]
      rw [Bool.not_eq_true', Bool.eq_false_iff]
      intro distinct
      rw [List.all_map, List.all_eq_true] at ranges
      refine bad.elim (fun out => out ⟨few, fun i below => ?_⟩) fun twice => twice ((noDuplicates_range _ _ _).1 distinct)
      obtain ⟨block, spare⟩ := Bool.and_eq_true_iff.1 (ranges i (List.mem_range.2 below))
      exact ⟨blockOk_iff.1 block, spareOk_iff.1 spare⟩
  · obtain ⟨few, ranges⟩ := ranges
    rw [if_neg (Classical.not_not.2 sum), if_neg (Classical.not_not.2 type), entries few, if_neg, if_neg]
    · rw [(noDuplicates_range _ _ _).2 distinct]
      decide
    · rintro (many | out)
      · exact absurd few (Nat.not_le.2 many)
      · rw [Bool.not_eq_true', List.all_map, List.all_eq_false] at out
        obtain ⟨i, below, out⟩ := out
        obtain ⟨block, spare⟩ := ranges i (List.mem_range.1 below)
        exact out (Bool.and_eq_true_iff.2 ⟨blockOk_iff.2 block, spareOk_iff.2 spare⟩)

end Sys2Proof.Machine
end

section
/-! PROOFS. The long requests READ, READ PHYS, WRITE PHYS, SEEK and MAP SAVE (O53). -/

namespace Sys2Proof.Machine

theorem BayState.refusesData_eq {x : BayState} (unready : x ≠ .ready) :
    x.refusesData = some (if x = .raw then .rawMedia else if x = .ejecting then .ejecting else .notReady) := by
  cases x with
  | ready => contradiction
  | raw | ejecting => rfl
  | _ => rfl

theorem physOk_iff {typeCode : Nat} {p : PhysAddr} :
    physOk typeCode p = true ↔ p.cylinder < cylinders typeCode ∧ p.head ≤ 1 ∧ p.sector ≤ 23 :=
  ⟨fun ok => (of_decide_eq_true ok).imp_left of_decide_eq_true, fun ⟨cylinder, rest⟩ => decide_eq_true ⟨decide_eq_true cylinder, rest⟩⟩

theorem cylinderOk_iff {typeCode c : Nat} : cylinderOk typeCode c = true ↔ c < cylinders typeCode :=
  ⟨of_decide_eq_true, decide_eq_true⟩

theorem WriteQueue.entriesOfBay_eq_zero {q : WriteQueue} {b : BayId} :
    q.entriesOfBay b = 0 ↔ ∀ e ∈ entriesOf q.items, e.bay ≠ b := by
  rw [WriteQueue.entriesOfBay, entriesOf_itemsOf, List.length_eq_zero_iff, List.filter_eq_nil_iff]
  simp

theorem State.physRefusal_idle (s : State) (b : BayId) : (s.setAssembly .idle).physRefusal b = s.physRefusal b := by
  simp only [State.physRefusal, State.setAssembly_bay]

section
variable {s : State} {b : BayId}

theorem State.physRefusal_state {r : ReplyStatus} (refusal : (s.bay b).record.state.refusesMedia = some r) : s.physRefusal b = some r := by
  rw [State.physRefusal, refusal]

theorem State.physRefusal_taken (works : (s.bay b).record.state.refusesMedia = none) (taken : (s.bay b).slot.state ≠ .free) :
    s.physRefusal b = some .busy := by
  rw [State.physRefusal, works]
  exact if_pos (Slot.taken_iff.2 taken)

theorem State.physRefusal_none (works : (s.bay b).record.state.refusesMedia = none) (free : (s.bay b).slot.state = .free) :
    s.physRefusal b = none := by
  rw [State.physRefusal, works]
  exact if_neg (Slot.not_taken free)

end

section
variable {s : State} {b : BayId} (receives : s.receives = true)
include receives

/-! ### READ (R145) -/

theorem exec_read_uncounted {block : BitVec 16} {count : Byte} (bad : countOk count = false) :
    exec (.read b.field block count) s = .next (s.replied 0x31 b.field .badMessage) := by
  rw [exec_read, execRead, State.forBayCounted, State.takeMessage_receives receives, bad]
  rfl

theorem exec_read_refused {block : BitVec 16} {count : Byte} (counted : countOk count = true) {r : ReplyStatus}
    (refusal : (s.bay b).record.state.refusesData = some r) : exec (.read b.field block count) s = .next (s.replied 0x31 b.field r) := by
  rw [exec_read, execRead, State.forBayCounted_field receives _ _ _ counted, State.setAssembly_bay, refusal]
  rfl

theorem exec_read_ready {block : BitVec 16} {count : Byte} (counted : countOk count = true)
    (ready : (s.bay b).record.state.refusesData = none) : exec (.read b.field block count) s =
    .next (if (s.bay b).slot.taken then s.replied 0x31 b.field .busy
      else if runOk (s.bay b).record.typeCode block.toNat count.toNat then
        (s.occupySlot b (.read block.toNat count.toNat)).replied 0x31 b.field .accepted
      else s.replied 0x31 b.field .badAddress) := by
  rw [exec_read, execRead, State.forBayCounted_field receives _ _ _ counted, State.setAssembly_bay, ready]
  simp only [State.accept_idle]
  rfl

/-! ### The physical requests and MAP SAVE (R119, R146 to R148) -/

theorem exec_readPhys_uncounted {cylinder : BitVec 16} {head sector count : Byte} (bad : countOk count = false) :
    exec (.readPhys b.field cylinder head sector count) s = .next (s.replied 0x32 b.field .badMessage) := by
  rw [exec_readPhys, execReadPhys, State.forBayCounted, State.takeMessage_receives receives, bad]
  rfl

section
variable {r : ReplyStatus} (refusal : s.physRefusal b = some r)
include refusal

theorem exec_readPhys_refused {cylinder : BitVec 16} {head sector count : Byte} (counted : countOk count = true) :
    exec (.readPhys b.field cylinder head sector count) s = .next (s.replied 0x32 b.field r) := by
  rw [exec_readPhys, execReadPhys, State.forBayCounted_field receives _ _ _ counted, State.physRefusal_idle, refusal]
  rfl

theorem exec_writePhys_refused (cylinder : BitVec 16) (head sector : Byte) (data : Sector) :
    exec (.writePhys b.field cylinder head sector data) s = .next (s.replied 0x33 b.field r) := by
  rw [exec_writePhys, execWritePhys, State.forBay_field receives, State.physRefusal_idle, refusal]
  rfl

theorem exec_seek_refused (cylinder : BitVec 16) : exec (.seek b.field cylinder) s = .next (s.replied 0x35 b.field r) := by
  rw [exec_seek, execSeek, State.forBay_field receives, State.physRefusal_idle, refusal]
  rfl

theorem exec_mapSave_refused : exec (.mapSave b.field) s = .next (s.replied 0x36 b.field r) := by
  rw [exec_mapSave, execMapSave, State.forBay_field receives, State.physRefusal_idle, refusal]
  rfl

end

section
variable (passes : s.physRefusal b = none)
include passes

theorem exec_readPhys_judged {cylinder : BitVec 16} {head sector count : Byte} (counted : countOk count = true) :
    let p : PhysAddr := { cylinder := cylinder.toNat, head := head.toNat, sector := sector.toNat }
    exec (.readPhys b.field cylinder head sector count) s =
      .next (if physOk (s.bay b).record.typeCode p ∧ sector.toNat + count.toNat - 1 ≤ 23 then
        (s.occupySlot b (.readPhys p count.toNat)).replied 0x32 b.field .accepted
      else s.replied 0x32 b.field .badAddress) := by
  rw [exec_readPhys, execReadPhys, State.forBayCounted_field receives _ _ _ counted, State.physRefusal_idle, passes]
  simp only [State.accept_idle, State.setAssembly_bay]
  rfl

theorem exec_writePhys_judged (cylinder : BitVec 16) (head sector : Byte) (data : Sector) :
    let p : PhysAddr := { cylinder := cylinder.toNat, head := head.toNat, sector := sector.toNat }
    exec (.writePhys b.field cylinder head sector data) s =
      .next (if physOk (s.bay b).record.typeCode p then
          if s.queue.entriesOfBay b = 0 then
            ((s.occupySlot b (.writePhys p)).replied 0x33 b.field .accepted).modMedia b fun m => { m with staging := m.staging.set 0 data }
          else s.replied 0x33 b.field .busy
        else s.replied 0x33 b.field .badAddress) := by
  rw [exec_writePhys, execWritePhys, State.forBay_field receives, State.physRefusal_idle, passes]
  simp only [State.accept_idle, State.setAssembly_bay, State.setAssembly_queue]
  rfl

theorem exec_seek_judged (cylinder : BitVec 16) : exec (.seek b.field cylinder) s =
    .next (if cylinderOk (s.bay b).record.typeCode cylinder.toNat then
      (s.occupySlot b (.seek cylinder.toNat)).replied 0x35 b.field .accepted else s.replied 0x35 b.field .badAddress) := by
  rw [exec_seek, execSeek, State.forBay_field receives, State.physRefusal_idle, passes]
  simp only [State.accept_idle, State.setAssembly_bay]
  rfl

theorem exec_mapSave_accepted : exec (.mapSave b.field) s =
    .next ((s.occupySlot b .mapSave).replied 0x36 b.field .accepted) := by
  rw [exec_mapSave, execMapSave, State.forBay_field receives, State.physRefusal_idle, passes]
  simp only [State.accept_idle]

end

end

/-- Settles O53: the refusals in their order, and the request accepted. -/
theorem longRequestsAreJudged : Obligations.LongRequestsAreJudged := by
  unfold Obligations.LongRequestsAreJudged
  intro s b block cylinder head sector count data receives
  dsimp only
  have countedIff : countOk count = true ↔ 1 ≤ count.toNat ∧ count.toNat ≤ 4 := decide_eq_true_iff
  rw [← countedIff]
  refine ⟨fun uncounted => ?_, fun counted => ⟨fun unready => ?_, fun ready taken => ?_, fun ready free out => ?_, fun ready free inside => ?_⟩,
    fun ready raw => ?_, fun works taken => ?_, fun works free => ?_⟩
  · have bad : countOk count = false := Bool.eq_false_iff.2 uncounted
    exact ⟨exec_read_uncounted receives bad, exec_readPhys_uncounted receives bad⟩
  · exact exec_read_refused receives counted (BayState.refusesData_eq unready)
  · rw [exec_read_ready receives counted (by rw [ready]; rfl), if_pos (Slot.taken_iff.2 taken)]
  · rw [exec_read_ready receives counted (by rw [ready]; rfl), if_neg (Slot.not_taken free), if_neg]
    rw [runOk, blockOk_iff]
    exact Nat.not_lt.2 out
  · rw [exec_read_ready receives counted (by rw [ready]; rfl), if_neg (Slot.not_taken free), if_pos]
    · rfl
    · rw [runOk, blockOk_iff]
      exact inside
  · have refusal := State.physRefusal_state (s := s) (b := b) (BayState.refusesMedia_else fun works => works.elim ready raw)
    exact ⟨exec_readPhys_refused receives refusal, exec_writePhys_refused receives refusal .., exec_seek_refused receives refusal _,
      exec_mapSave_refused receives refusal⟩
  · have refusal := State.physRefusal_taken (s := s) (b := b) (BayState.refusesMedia_works works) taken
    exact ⟨exec_readPhys_refused receives refusal, exec_writePhys_refused receives refusal .., exec_seek_refused receives refusal _,
      exec_mapSave_refused receives refusal⟩
  · have passes := State.physRefusal_none (s := s) (b := b) (BayState.refusesMedia_works works) free
    refine ⟨exec_mapSave_accepted receives passes, ?_, fun counted => ?_, ?_⟩
    · rw [exec_seek_judged receives passes]
      simp only [cylinderOk_iff]
      exact apply_ite Host.Outcome.next ..
    · rw [exec_readPhys_judged receives passes counted]
      simp only [physOk_iff]
      exact apply_ite Host.Outcome.next ..
    · rw [exec_writePhys_judged receives passes]
      simp only [physOk_iff, WriteQueue.entriesOfBay_eq_zero]
      refine (apply_ite Host.Outcome.next ..).trans ?_
      rw [apply_ite Host.Outcome.next]
      cases b <;> rfl

end Sys2Proof.Machine
end

section
/-! PROOFS. A cartridge's arrival and departure: the insertion, and the rise and fall of the present sense (O22, O23). -/

namespace Sys2Proof.Machine

/-! ### The insertion (R1, R5, R7) -/

/-- The state in which a bay goes on by the type code of the cartridge taken: its code sampled, its record at its insertion values. -/
def State.sampled (s : State) (b : BayId) (sense0 sense1 : Bool) : State :=
  (((s.clockTo ((s.bay b).record.debounceAt + Config.debounceTime)).modPins b fun p =>
    { p with typeSense0 := sense0, typeSense1 := sense1 }).modRecord b fun _ => { typeCode := typeCodeOf sense0 sense1 }).modBay b
      Bay.insertNeighbours

section
variable {s : State} {b : BayId} {sense0 sense1 : Bool}

theorem exec_insertion_stray
    (stray : (s.bay b).record.state ≠ .empty ∨ (s.bay b).record.debouncing = false ∨ (s.bay b).pins.present = false) :
    exec (.insertion b sense0 sense1) s = .next s := by
  rw [exec_insertion, execInsertion, if_neg]
  rintro ⟨empty, debounces, present⟩
  rw [debounces, present] at stray
  exact stray.elim (absurd empty) fun h => h.elim nofun nofun

theorem exec_insertion_taken (empty : (s.bay b).record.state = .empty) (debounces : (s.bay b).record.debouncing = true)
    (present : (s.bay b).pins.present = true) :
    let t := s.sampled b sense0 sense1
    exec (.insertion b sense0 sense1) s =
      if typeCodeOf sense0 sense1 = 0 then
        .next (((t.latch b .unknownCartridge).modRecord b fun r =>
          { r with eject := some { origin := .device, pulse := 1, saveMarker := false } }).enterRelease b)
      else if typeCodeOf sense0 sense1 = 3 then .next ((t.latch b .inserted).startSpinning b .cleaning)
      else if (t.latch b .inserted).settings.spinAuto then .next ((t.latch b .inserted).startSpinning b .spinning)
      else .next ((t.latch b .inserted).modRecord b fun r => { r with state := .inserted }) := by
  rw [exec_insertion, execInsertion, if_pos ⟨empty, debounces, present⟩]
  rfl

theorem State.startSpinning_off (supplied : s.budget.supply ≠ .low) (off : (s.bay b).spindle.state = .off) (next : BayState) :
    s.startSpinning b next = ((s.modRecord b fun r => { r with state := next, trips := 0, sweepOut := false }).modSpindle b fun x =>
      { x with state := .waiting, nominal := nominalSpeed (s.bay b).record.typeCode }).request b .spinUp := by
  rw [State.startSpinning, if_neg supplied, State.spinUp]
  simp only [State.modRecord_bay, off]

@[simp] theorem State.sampled_settings (s : State) (b : BayId) (x y : Bool) : (s.sampled b x y).settings = s.settings := by
  cases b <;> rfl
@[simp] theorem State.sampled_budget (s : State) (b : BayId) (x y : Bool) : (s.sampled b x y).budget = s.budget := by
  cases b <;> rfl
@[simp] theorem State.sampled_spindle (s : State) (b : BayId) (x y : Bool) : ((s.sampled b x y).bay b).spindle = (s.bay b).spindle := by
  cases b <;> rfl
@[simp] theorem State.sampled_typeCode (s : State) (b : BayId) (x y : Bool) :
    ((s.sampled b x y).bay b).record.typeCode = typeCodeOf x y := by
  cases b <;> rfl

end

/-- A cartridge that spins up at once: a cleaning cartridge, and a data cartridge with SPIN AUTO on (R7). -/
theorem exec_insertion_spins {s : State} {b : BayId} {sense0 sense1 : Bool} (empty : (s.bay b).record.state = .empty)
    (debounces : (s.bay b).record.debouncing = true) (present : (s.bay b).pins.present = true)
    (spins : ((typeCodeOf sense0 sense1 = 1 ∨ typeCodeOf sense0 sense1 = 2) ∧ s.settings.spinAuto = true) ∨
      typeCodeOf sense0 sense1 = 3) :
    exec (.insertion b sense0 sense1) s = .next (((s.sampled b sense0 sense1).latch b .inserted).startSpinning b
      (if typeCodeOf sense0 sense1 = 3 then .cleaning else .spinning)) := by
  rw [exec_insertion_taken empty debounces present, if_neg (by omega)]
  split
  · rfl
  · rename_i other
    obtain ⟨-, auto⟩ := spins.resolve_right other
    exact if_pos (by simpa using auto)

/-- Settles O23: the bay goes on by the type code, the setting SPIN AUTO and the supply. -/
theorem insertionIsTaken : Obligations.InsertionIsTaken := by
  unfold Obligations.InsertionIsTaken
  intro s b sense0 sense1
  dsimp only
  refine ⟨exec_insertion_stray, fun empty debounces present => ?_⟩
  have code : sense0.toNat + 2 * sense1.toNat = typeCodeOf sense0 sense1 := rfl
  simp only [code]
  refine ⟨fun zero => ?_, fun data manual => ?_, fun spins => ⟨fun low => ?_, fun supplied off => ?_⟩⟩
  · rw [exec_insertion_taken empty debounces present, if_pos zero]
    cases b <;> rfl
  · rw [exec_insertion_taken empty debounces present, if_neg (by omega), if_neg (by omega), if_neg (by simp [manual])]
    cases b <;> rfl
  · rw [exec_insertion_spins empty debounces present spins, State.startSpinning_low (by simpa using low)]
    cases b <;> rfl
  · have speed : nominalSpeed (typeCodeOf sense0 sense1) = if typeCodeOf sense0 sense1 = 3 then 1200 else 3600 := by
      cases sense0 <;> cases sense1 <;> rfl
    rw [exec_insertion_spins empty debounces present spins, State.startSpinning_off (by simpa using supplied) (by simpa using off),
      ← speed]
    cases b <;> rfl

end Sys2Proof.Machine
end

section
/-!
SUPPORT. What a Bay Controller does to bring heads and spindle to rest: its record, the two records it steers, a PARKED latched, and
notices sent. One lemma for each operation says that it does no more, and one says where it leads in each state.
-/

namespace Sys2Proof.Machine

/-- A state that a Bay Controller has made of another by steering: the record, the spindle and the actuator of its bay are other,
PARKED may be latched, and notices have been sent; nothing else has changed, nor the last reading of the spindle. -/
def State.Steers (b : BayId) (s t : State) : Prop :=
  ∃ (more : List Signal) (r : BayRecord) (x : Spindle) (a : Actuator) (l : Latches),
    t = ({ s with signals := s.signals ++ more } : State).modBay b (fun y => { y with record := r, spindle := x, act := a, latches := l }) ∧
    (∀ e : BayEvent, e ≠ .parked → l.events.getLsbD e.bit = (s.bay b).latches.events.getLsbD e.bit) ∧
    x.reading = (s.bay b).spindle.reading ∧ x.speedClass = (s.bay b).spindle.speedClass

namespace State.Steers

variable {b : BayId} {s t u : State}

theorem refl (b : BayId) (s : State) : Steers b s s :=
  ⟨[], (s.bay b).record, (s.bay b).spindle, (s.bay b).act, (s.bay b).latches, by cases b <;> simp [State.modBay, State.bay],
    fun _ _ => rfl, rfl, rfl⟩

theorem trans (h : Steers b s t) (k : Steers b t u) : Steers b s u := by
  obtain ⟨more, r, x, a, l, rfl, kept, reading, speed⟩ := h
  obtain ⟨later, r', x', a', l', rfl, kept', reading', speed'⟩ := k
  rw [State.modBay_bay] at kept' reading' speed'
  exact ⟨more ++ later, r', x', a', l', by cases b <;> simp [State.modBay], fun e he => (kept' e he).trans (kept e he),
    reading'.trans reading, speed'.trans speed⟩

/-! ### What it keeps -/

theorem bay (h : Steers b s t) : ∃ r x a l, t.bay b = { s.bay b with record := r, spindle := x, act := a, latches := l } := by
  obtain ⟨more, r, x, a, l, rfl, -⟩ := h
  exact ⟨r, x, a, l, by cases b <;> rfl⟩

theorem latched (h : Steers b s t) {e : BayEvent} (other : e ≠ .parked) : t.latched b e = s.latched b e := by
  obtain ⟨more, r, x, a, l, rfl, kept, -⟩ := h
  rw [State.latched, State.modBay_bay]
  exact kept e other

theorem reading (h : Steers b s t) : (t.bay b).spindle.reading = (s.bay b).spindle.reading := by
  obtain ⟨more, r, x, a, l, rfl, -, reading, -⟩ := h
  rw [State.modBay_bay]
  exact reading

theorem speedClass (h : Steers b s t) : (t.bay b).spindle.speedClass = (s.bay b).spindle.speedClass := by
  obtain ⟨more, r, x, a, l, rfl, -, -, speed⟩ := h
  rw [State.modBay_bay]
  exact speed

theorem signals (h : Steers b s t) : ∃ more, t.signals = s.signals ++ more := by
  obtain ⟨more, r, x, a, l, rfl, -⟩ := h
  exact ⟨more, by simp⟩

theorem sent (h : Steers b s t) {x : Signal} (mem : x ∈ s.signals) : x ∈ t.signals := by
  obtain ⟨more, same⟩ := h.signals
  exact same ▸ List.mem_append_left _ mem

theorem other (h : Steers b s t) : t.bay b.other = s.bay b.other := by
  obtain ⟨more, r, x, a, l, rfl, -⟩ := h
  cases b <;> rfl

section
variable (h : Steers b s t)
include h

theorem pins : (t.bay b).pins = (s.bay b).pins := by obtain ⟨_, _, _, _, same⟩ := h.bay; rw [same]
theorem heat : (t.bay b).heat = (s.bay b).heat := by obtain ⟨_, _, _, _, same⟩ := h.bay; rw [same]
theorem media : (t.bay b).media = (s.bay b).media := by obtain ⟨_, _, _, _, same⟩ := h.bay; rw [same]
theorem map : (t.bay b).map = (s.bay b).map := by obtain ⟨_, _, _, _, same⟩ := h.bay; rw [same]
theorem slot : (t.bay b).slot = (s.bay b).slot := by obtain ⟨_, _, _, _, same⟩ := h.bay; rw [same]
theorem counters : (t.bay b).counters = (s.bay b).counters := by obtain ⟨_, _, _, _, same⟩ := h.bay; rw [same]
theorem budget : t.budget = s.budget := by obtain ⟨_, _, _, _, _, rfl, -⟩ := h; exact State.modBay_budget ..
theorem queue : t.queue = s.queue := by obtain ⟨_, _, _, _, _, rfl, -⟩ := h; exact State.modBay_queue ..
theorem faults : t.faults = s.faults := by obtain ⟨_, _, _, _, _, rfl, -⟩ := h; exact State.modBay_faults ..
theorem settings : t.settings = s.settings := by obtain ⟨_, _, _, _, _, rfl, -⟩ := h; exact State.modBay_settings ..
theorem events : t.events = s.events := by obtain ⟨_, _, _, _, _, rfl, -⟩ := h; exact State.modBay_events ..
theorem link : t.link = s.link := by obtain ⟨_, _, _, _, _, rfl, -⟩ := h; exact State.modBay_link ..
theorem clock : t.clock = s.clock := by obtain ⟨_, _, _, _, _, rfl, -⟩ := h; exact State.modBay_clock ..

end

/-! ### Its steps -/

theorem modRecord (h : Steers b s t) (f : BayRecord → BayRecord) : Steers b s (t.modRecord b f) :=
  h.trans ⟨[], f (t.bay b).record, (t.bay b).spindle, (t.bay b).act, (t.bay b).latches,
    by cases b <;> simp [State.modRecord, State.modBay, State.bay], fun _ _ => rfl, rfl, rfl⟩
theorem modSpindle (h : Steers b s t) {f : Spindle → Spindle} (reading : ∀ x, (f x).reading = x.reading)
    (speed : ∀ x, (f x).speedClass = x.speedClass) : Steers b s (t.modSpindle b f) :=
  h.trans ⟨[], (t.bay b).record, f (t.bay b).spindle, (t.bay b).act, (t.bay b).latches,
    by cases b <;> simp [State.modSpindle, State.modBay, State.bay], fun _ _ => rfl, reading _, speed _⟩
theorem modAct (h : Steers b s t) (f : Actuator → Actuator) : Steers b s (t.modAct b f) :=
  h.trans ⟨[], (t.bay b).record, (t.bay b).spindle, f (t.bay b).act, (t.bay b).latches,
    by cases b <;> simp [State.modAct, State.modBay, State.bay], fun _ _ => rfl, rfl, rfl⟩
theorem send (h : Steers b s t) (x : Signal) : Steers b s (t.send x) :=
  h.trans ⟨[x], (t.bay b).record, (t.bay b).spindle, (t.bay b).act, (t.bay b).latches,
    by cases b <;> rfl, fun _ _ => rfl, rfl, rfl⟩
theorem request (h : Steers b s t) (k : RequestKind) (l : Nat) : Steers b s (t.request b k l) := h.send _
theorem release (h : Steers b s t) (c : Consumer) : Steers b s (t.release b c) := h.send _
theorem withdraw (h : Steers b s t) (k : RequestKind) : Steers b s (t.withdraw b k) := h.send _

theorem latchParked (h : Steers b s t) : Steers b s (t.latch b .parked) := by
  refine h.trans ⟨[], (t.bay b).record, (t.bay b).spindle, (t.bay b).act,
    { (t.bay b).latches with events := (t.bay b).latches.events ||| BitVec.twoPow 26 22 }, ?_, fun e other => ?_, rfl, rfl⟩
  · cases b <;> simp [State.latch, State.modLatches, State.modBay, State.bay, BayEvent.bit]
  · have := State.latched_latch t b b .parked e
    simp only [State.latched, State.latch, State.modLatches_bay, true_and, decide_eq_false other.symm, Bool.false_or] at this
    exact this

end State.Steers

namespace State.Steers

variable {b : BayId} {s t : State} (h : Steers b s t)
include h

/-! ### The actuator (R88 to R90) -/

theorem releaseSeek : Steers b s (t.releaseSeek b) := by
  unfold State.releaseSeek
  split
  · exact h.release _
  · exact h

theorem withdrawSeek : Steers b s (t.withdrawSeek b) := by
  unfold State.withdrawSeek
  split
  · exact h.withdraw _
  · exact h

theorem startUnload : Steers b s (t.startUnload b) := by
  simp only [State.startUnload]
  split
  · exact (h.modAct _).send _
  · exact h.modAct _

theorem askUnload : Steers b s (t.askUnload b).1 := by
  have noLoad : Steers b s (t.modAct b fun x => { x with loadAttempt := none }) := h.modAct _
  cases state : (t.bay b).act.state with
  | unloaded =>
    simp only [State.askUnload, state]
    split
    · exact noLoad.withdraw _
    · exact noLoad
  | loading => simp only [State.askUnload, state]; exact (noLoad.release _).startUnload
  | recalibrating =>
    cases recal : (t.bay b).act.recal <;> simp only [State.askUnload, state, recal]
    · exact noLoad.startUnload
    · exact (noLoad.withdraw _).startUnload
    · exact (noLoad.release _).startUnload
    · exact noLoad.startUnload
  | tracking => simp only [State.askUnload, state]; exact noLoad.withdrawSeek.startUnload
  | seeking => simp only [State.askUnload, state]; exact (noLoad.releaseSeek.modAct _).startUnload
  | unloading =>
    simp only [State.askUnload, state]
    split
    · exact noLoad
    · exact noLoad.startUnload

/-! ### The spindle (R46, R47, R53, R56) -/

theorem askStop : Steers b s (t.askStop b).1 := by
  have braked := h.modSpindle (f := Spindle.brake) (fun _ => rfl) fun _ => rfl
  cases state : (t.bay b).spindle.state <;> simp only [State.askStop, state]
  · exact h
  · exact (h.modSpindle (by intro; rfl) (by intro; rfl)).withdraw _
  · exact braked.release _
  · exact braked.release _
  · split
    · exact braked.withdraw _
    · exact braked
  · exact braked.release _
  · exact h.modSpindle (fun _ => rfl) fun _ => rfl

theorem answerSpindle : Steers b s (t.answerSpindle b) := by
  simp only [State.answerSpindle]
  split
  · exact (h.modSpindle (by intro; rfl) (by intro; rfl)).request _ _
  · exact h

theorem spinUp : Steers b s (t.spinUp b) := by
  simp only [State.spinUp]
  split
  · exact (h.modSpindle (by intro; rfl) (by intro; rfl)).request _ _
  · exact h.modSpindle (fun _ => rfl) fun _ => rfl
  · exact h

/-! ### The Bay Controller (R11, R14, R56, R160 to R162) -/

theorem becomeEmpty : Steers b s (t.becomeEmpty b) := by
  simp only [State.becomeEmpty]
  split
  · exact (h.modRecord _).modRecord _
  · exact h.modRecord _

theorem enterRelease : Steers b s (t.enterRelease b) := (h.modRecord _).request _ _

theorem stopConfirmed : Steers b s (t.stopConfirmed b false) := by
  simp only [State.stopConfirmed]
  repeat' split
  · contradiction
  · exact h
  · contradiction
  · exact h
  · exact h.becomeEmpty
  · exact ((h.modRecord _).latchParked).enterRelease
  · exact (h.modRecord _).latchParked
  · exact h
  · exact h.enterRelease
  · exact h
  · exact h.becomeEmpty
  · exact h
  · exact h.becomeEmpty
  · exact h
  · exact h

theorem stopSpindle : Steers b s (t.stopSpindle b) := by
  have asked := h.askStop
  simp only [State.stopSpindle]
  split <;> rename_i u same <;> rw [same] at asked
  · exact asked.stopConfirmed
  · exact asked

theorem enterSpindown : Steers b s (t.enterSpindown b) := (h.modRecord _).stopSpindle

theorem unloadedReport : Steers b s (t.unloadedReport b) := by
  simp only [State.unloadedReport]
  repeat' split
  · exact h.enterSpindown
  · exact h
  · exact (h.modRecord _).stopSpindle
  · exact h
  · exact (h.modRecord _).stopSpindle
  · exact (h.modRecord _).stopSpindle
  · exact h.stopSpindle
  · exact h
  · exact h

theorem unloadHeads : Steers b s (t.unloadHeads b) := by
  have asked := h.askUnload
  simp only [State.unloadHeads]
  split <;> rename_i u same <;> rw [same] at asked
  · exact asked.unloadedReport
  · exact asked

theorem enterUnload : Steers b s (t.enterUnload b) := (h.modRecord _).unloadHeads

theorem ejectSpinning : Steers b s (t.ejectSpinning b) := by
  unfold State.ejectSpinning
  split
  · exact h.stopSpindle.enterRelease
  · exact h.enterSpindown

theorem answerLoss : Steers b s (t.answerLoss b) := by
  simp only [State.answerLoss]
  repeat' split
  all_goals first | exact h | exact h.stopSpindle

end State.Steers

/-! ### Where the requests lead -/

namespace State

variable {s : State} {b : BayId}

/-- An unload request with the heads off the stop starts an unload, or finds one under way, and changes the actuator alone (R88). -/
theorem unloadHeads_moving (off : (s.bay b).act.state ≠ .unloaded) : s.unloadHeads b = (s.askUnload b).1 := by
  have unanswered : (s.askUnload b).2 = false := by
    cases state : (s.bay b).act.state <;> first | exact absurd state off | simp only [askUnload, state]
  cases asked : s.askUnload b with
  | mk t done =>
    rw [asked] at unanswered
    subst unanswered
    simp [unloadHeads, asked]

theorem askUnload_bay : ∃ a, (s.askUnload b).1.bay b = { s.bay b with act := a } := (s.askUnload_frame b).2

theorem askUnload_moving (off : (s.bay b).act.state ≠ .unloaded) : ((s.askUnload b).1.bay b).act.state = .unloading := by
  cases state : (s.bay b).act.state with
  | unloaded => exact absurd state off
  | loading | tracking | seeking => simp only [askUnload, state]; simp
  | recalibrating => cases recal : (s.bay b).act.recal <;> simp only [askUnload, state, recal] <;> simp
  | unloading =>
    simp only [askUnload, state]
    split
    · simpa using state
    · simp

/-- What an unload of heads off the stop leaves of the bay: all but the actuator, which is UNLOADING. -/
theorem unloadHeads_moving_bay (off : (s.bay b).act.state ≠ .unloaded) :
    ∃ a : Actuator, a.state = .unloading ∧ (s.unloadHeads b).bay b = { s.bay b with act := a } := by
  obtain ⟨a, same⟩ := askUnload_bay (s := s) (b := b)
  rw [unloadHeads_moving off]
  exact ⟨a, by rw [← askUnload_moving off, same], same⟩

/-- With the heads on the stop an unload request is answered at once (R88). -/
theorem unloadHeads_onStop (on : (s.bay b).act.state = .unloaded) : ∃ more, s.unloadHeads b =
    (({ s with signals := s.signals ++ more } : State).modAct b fun x => { x with loadAttempt := none }).unloadedReport b := by
  simp only [unloadHeads, askUnload, on]
  split
  · exact ⟨[.withdraw b .load], by cases b <;> rfl⟩
  · exact ⟨[], by cases b <;> simp⟩

/-- A stop request to a spindle neither OFF nor WAITING leaves it STOPPING, and changes its bay's spindle alone (R47). -/
theorem stopSpindle_turning_bay (off : (s.bay b).spindle.state ≠ .off) (waiting : (s.bay b).spindle.state ≠ .waiting) :
    ∃ x : Spindle, x.state = .stopping ∧ x.pendingSpinUp = (if (s.bay b).spindle.state = .stopping then false else (s.bay b).spindle.pendingSpinUp) ∧
      (s.stopSpindle b).bay b = { s.bay b with spindle := x } := by
  obtain ⟨unconfirmed, -, -⟩ := s.askStop_turning off waiting
  rw [stopSpindle_unconfirmed unconfirmed]
  cases state : (s.bay b).spindle.state with
  | off => exact absurd state off
  | waiting => exact absurd state waiting
  | accel | run | recover => exact ⟨(s.bay b).spindle.brake, rfl, by simp [Spindle.brake, Spindle.enter], by simp [askStop, state]⟩
  | stopping => exact ⟨{ (s.bay b).spindle with pendingSpinUp := false }, state, by simp, by simp [askStop, state]⟩
  | recoverWait =>
    refine ⟨(s.bay b).spindle.brake, rfl, by simp [Spindle.brake, Spindle.enter], ?_⟩
    simp only [askStop, state]
    split <;> simp

/-- A stop request to a spindle that is OFF is confirmed at once (R56). -/
theorem stopSpindle_off (off : (s.bay b).spindle.state = .off) : s.stopSpindle b = s.stopConfirmed b false := by
  simp only [stopSpindle, askStop, off]

/-- A stop request to a spindle that WAITS withdraws its request, and is confirmed at once (R47, R56). -/
theorem stopSpindle_waiting (waits : (s.bay b).spindle.state = .waiting) :
    s.stopSpindle b = ((s.modSpindle b fun x => { x with state := .off }).withdraw b .spinUp).stopConfirmed b false := by
  simp only [stopSpindle, askStop, waits]

end State

end Sys2Proof.Machine
end

section
/-!
SUPPORT. What a discard, the end of a request and an entry to FAULT change, in one place each (R14, R137, R151).
-/

namespace Sys2Proof.Machine

namespace State

/-! ### A rise of a counter (R152) -/

theorem raise_frame (s : State) (b : BayId) (n : CounterName) (k : Nat) :
    ∃ c l, s.raise b n k = s.modBay b fun y => { y with counters := c, latches := l } := by
  rcases s.raise_cases b n k with same | same <;> rw [same] <;> cases b
  · exact ⟨_, s.bayA.latches, rfl⟩
  · exact ⟨_, s.bayB.latches, rfl⟩
  · exact ⟨_, _, rfl⟩
  · exact ⟨_, _, rfl⟩

theorem raise_bay (s : State) (b : BayId) (n : CounterName) (k : Nat) :
    ∃ c l, (s.raise b n k).bay b = { s.bay b with counters := c, latches := l } := by
  obtain ⟨c, l, same⟩ := s.raise_frame b n k
  exact ⟨c, l, by rw [same, State.modBay_bay]⟩

theorem raise_signals (s : State) (b : BayId) (n : CounterName) (k : Nat) : (s.raise b n k).signals = s.signals := by
  obtain ⟨c, l, same⟩ := s.raise_frame b n k
  rw [same, State.modBay_signals]

theorem raise_faults (s : State) (b : BayId) (n : CounterName) (k : Nat) : (s.raise b n k).faults = s.faults := by
  obtain ⟨c, l, same⟩ := s.raise_frame b n k
  rw [same, State.modBay_faults]

theorem raise_counters (s : State) (b : BayId) (n : CounterName) (k : Nat) : ((s.raise b n k).bay b).counters =
    { (s.bay b).counters with counts := (s.bay b).counters.counts.set n.index (min 65535 ((s.bay b).counters.counts[n.index] + k)) } := by
  rcases s.raise_cases b n k with same | same <;> rw [same] <;> cases b <;> rfl

theorem raise_latched (s : State) (b : BayId) (n : CounterName) (k : Nat) {e : BayEvent} (other : e ≠ .counterThreshold) :
    (s.raise b n k).latched b e = s.latched b e := by
  have counted (f : Counters → Counters) : (s.modCounters b f).latched b e = s.latched b e := by cases b <;> rfl
  rcases s.raise_cases b n k with same | same <;> rw [same]
  · exact counted _
  · generalize unlatched : s.modCounters b _ = t
    have names : (t.latchCounter b n).latched b e = (t.latch b .counterThreshold).latched b e := by cases b <;> rfl
    rw [names, State.latched_latch, decide_eq_false (by simpa using other.symm), Bool.false_or, ← unlatched]
    exact counted _

/-! ### A fault record (R138) -/

theorem appendFault_bay (s : State) (r : FaultRecord) (c : BayId) : (s.appendFault r).bay c = s.bay c := by
  obtain ⟨f, e, same⟩ := s.appendFault_cases r
  rw [same]
  cases c <;> rfl

theorem appendFault_signals (s : State) (r : FaultRecord) : (s.appendFault r).signals = s.signals := by
  obtain ⟨f, e, same⟩ := s.appendFault_cases r
  rw [same]

theorem appendFault_faults (s : State) (r : FaultRecord) : (s.appendFault r).faults =
    if s.faults.records.length < 8 then { s.faults with records := s.faults.records ++ [r] }
    else { s.faults with overflow := min 255 (s.faults.overflow + 1) } := by
  unfold State.appendFault
  by_cases room : s.faults.records.length < Config.maxFaults
  · rw [if_pos room, if_pos (show s.faults.records.length < 8 from room)]
    split <;> rfl
  · rw [if_neg room, if_neg (show ¬ s.faults.records.length < 8 from room)]

theorem appendFault_listed {s : State} (empty : s.faults.records = []) (r : FaultRecord) :
    (s.appendFault r).unitLatched .faultList = true := by
  rw [State.appendFault, if_pos (by rw [empty]; decide), if_pos empty, State.unitLatched_latchUnit]
  rfl

/-! ### A discard (R137) -/

/-- What a discard of a bay's items is, by the number of write entries that leave (R137). -/
theorem discard_none {s : State} {b : BayId} (none : s.queue.entriesOfBay b = 0) :
    s.discard b = { s with queue := { s.queue with items := s.queue.items.filter fun i => i.bay ≠ b } } := if_pos none

end State

/-- A state after the discard of a bay's items: the Write Queue without them, and where write entries leave the count of the writes lost,
the fault record and the event. -/
structure State.Discarded (b : BayId) (s t : State) : Prop where
  bay : ∃ l c, t.bay b = { s.bay b with latches := l, counters := c }
  other : t.bay b.other = s.bay b.other
  queue : t.queue = { s.queue with items := s.queue.items.filter fun i => i.bay ≠ b }
  signals : t.signals = s.signals
  kept : ∀ e, e ≠ .counterThreshold → e ≠ .writesDiscarded → t.latched b e = s.latched b e
  none : s.queue.entriesOfBay b = 0 → (t.bay b).counters = (s.bay b).counters ∧ t.faults = s.faults ∧
    t.latched b .writesDiscarded = s.latched b .writesDiscarded
  some : 0 < s.queue.entriesOfBay b →
    (t.bay b).counters = { (s.bay b).counters with
      counts := (s.bay b).counters.counts.set CounterName.lostWrites.index
        (min 65535 ((s.bay b).counters.counts[CounterName.lostWrites.index] + s.queue.entriesOfBay b)) } ∧
    t.latched b .writesDiscarded = true ∧ (s.faults.records = [] → t.unitLatched .faultList = true) ∧
    t.faults = (if s.faults.records.length < 8 then
        { s.faults with records := s.faults.records ++ [.writesDiscarded b (s.queue.entriesOfBay b)] }
      else { s.faults with overflow := min 255 (s.faults.overflow + 1) })

theorem State.discard_discarded (s : State) (b : BayId) : State.Discarded b s (s.discard b) := by
  rcases Nat.eq_zero_or_pos (s.queue.entriesOfBay b) with none | some
  · rw [State.discard_none none]
    exact ⟨⟨(s.bay b).latches, (s.bay b).counters, by cases b <;> rfl⟩, by cases b <;> rfl, rfl, rfl, fun e _ _ => by cases b <;> rfl,
      fun _ => ⟨by cases b <;> rfl, rfl, by cases b <;> rfl⟩, fun h => absurd h (by omega)⟩
  · have discard : s.discard b = ((({ s with queue := { s.queue with items := s.queue.items.filter fun i => i.bay ≠ b } } : State).raise b
        .lostWrites (s.queue.entriesOfBay b)).appendFault (.writesDiscarded b (s.queue.entriesOfBay b))).latch b .writesDiscarded :=
      if_neg (by omega)
    rw [discard]
    generalize before : ({ s with queue := { s.queue with items := s.queue.items.filter fun i => i.bay ≠ b } } : State) = t
    have bay : t.bay b = s.bay b := by rw [← before]; cases b <;> rfl
    have latched (e : BayEvent) (other : e ≠ .counterThreshold) (unlike : e ≠ .writesDiscarded) :
        (((t.raise b .lostWrites (s.queue.entriesOfBay b)).appendFault (.writesDiscarded b (s.queue.entriesOfBay b))).latch b
          .writesDiscarded).latched b e = s.latched b e := by
      rw [State.latched_latch, decide_eq_false (by simpa using Ne.symm unlike), Bool.false_or, State.latched, State.appendFault_bay]
      exact (State.raise_latched _ _ _ _ other).trans (by rw [State.latched, bay]; rfl)
    refine ⟨?_, ?_, ?_, ?_, latched, fun none => absurd none (by omega), fun _ => ⟨?_, ?_, fun empty => ?_, ?_⟩⟩
    · obtain ⟨c, l, raised⟩ := t.raise_bay b .lostWrites (s.queue.entriesOfBay b)
      exact ⟨_, c, by rw [State.latch_bay, State.appendFault_bay, raised, bay]⟩
    · have within : State.Within b s (s.discard b) := by simp
      rw [← before, ← discard]
      exact within.other
    · rw [State.latch_queue, State.appendFault_queue]
      obtain ⟨c, l, raised⟩ := t.raise_frame b .lostWrites (s.queue.entriesOfBay b)
      rw [raised, State.modBay_queue, ← before]
    · rw [State.latch, State.modLatches_signals, State.appendFault_signals, State.raise_signals, ← before]
    · rw [State.latch_bay, State.appendFault_bay]
      exact (State.raise_counters ..).trans (by rw [bay])
    · rw [State.latched_latch]
      simp
    · have listed := State.appendFault_listed (s := t.raise b .lostWrites (s.queue.entriesOfBay b))
        (by rw [State.raise_faults, ← before]; exact empty) (.writesDiscarded b (s.queue.entriesOfBay b))
      simpa [State.unitLatched] using listed
    · rw [State.latch_faults, State.appendFault_faults, State.raise_faults, ← before]

/-! ### The end of a request (R14, R15, R151) -/

namespace State

theorem endSlot_bay (s : State) (b : BayId) (r : ResultStatus) : ∃ l, (s.endSlot b r).bay b = { s.bay b with
    slot := if (s.bay b).slot.state = .inProgress then { (s.bay b).slot with state := .done, result := r, staged := 0, next := 1 }
      else (s.bay b).slot
    latches := l } := by
  unfold State.endSlot
  split
  · exact ⟨_, by rw [State.latch_bay, State.modSlot_bay]⟩
  · exact ⟨(s.bay b).latches, rfl⟩

theorem endSlot_frame (s : State) (b : BayId) (r : ResultStatus) : ∃ x l, s.endSlot b r =
    s.modBay b fun y => { y with slot := x, latches := l } := by
  unfold State.endSlot
  split
  · cases b <;> exact ⟨_, _, rfl⟩
  · exact ⟨(s.bay b).slot, (s.bay b).latches, by cases b <;> rfl⟩

theorem endSlot_latched (s : State) (b : BayId) (r : ResultStatus) {e : BayEvent} (other : e ≠ .resultReady) :
    (s.endSlot b r).latched b e = s.latched b e := by
  unfold State.endSlot
  split
  · rw [State.latched_latch, decide_eq_false (by simpa using other.symm), Bool.false_or]
    cases b <;> rfl
  · rfl

end State

/-! ### The entry to FAULT (R14) -/

/-- A state whose bay has entered FAULT with a cause: its record, its media work and its slot, its items gone from the Write Queue, and the
cause's event latched; heads, spindle, heat, table and pins as they were, the notices sent ending its solenoid request or pulse. -/
structure State.Faulted (b : BayId) (c : FaultCause) (s t : State) : Prop where
  bay : ∃ l n, t.bay b = { s.bay b with
    record := { (s.bay b).record with state := .fault, phase := .none, cause := c, eject := none, parkStep := .drain,
                                      resetPark := false, pulsing := false, debouncing := false }
    media := { (s.bay b).media with state := .idle, op := none, custody := none, saveFailures := 0 }
    slot := if (s.bay b).slot.state = .inProgress then
      { (s.bay b).slot with state := .done, result := c.result, staged := 0, next := 1 } else (s.bay b).slot
    latches := l, counters := n }
  within : State.Within b s t
  event : ∀ e, c.event = some e → t.latched b e = true
  latched : ∀ e, e ≠ .counterThreshold → e ≠ .writesDiscarded → e ≠ .resultReady → c.event ≠ some e → t.latched b e = s.latched b e
  signals : ∃ more, t.signals = s.signals ++ more
  pulse : (s.bay b).record.pulsing = true → Signal.release b .solenoid ∈ t.signals
  release : (s.bay b).record.state = .ejecting → (s.bay b).record.phase = .release → (s.bay b).record.pulsing = false →
    Signal.withdraw b .solenoid ∈ t.signals
  discarded : ∃ u v, State.Discarded b u v ∧ u.queue = s.queue ∧ u.faults = s.faults ∧ (u.bay b).counters = (s.bay b).counters ∧
    (c.event ≠ some .writesDiscarded → u.latched b .writesDiscarded = s.latched b .writesDiscarded) ∧
    t.queue = v.queue ∧ t.faults = v.faults ∧ t.events = v.events ∧ (t.bay b).counters = (v.bay b).counters ∧
    t.latched b .writesDiscarded = v.latched b .writesDiscarded

namespace State

theorem stopSolenoid_eq (s : State) (b : BayId) : ∃ more, s.stopSolenoid b = { s with signals := s.signals ++ more } ∧
    ((s.bay b).record.pulsing = true → Signal.release b .solenoid ∈ more) ∧
    ((s.bay b).record.state = .ejecting → (s.bay b).record.phase = .release → (s.bay b).record.pulsing = false →
      Signal.withdraw b .solenoid ∈ more) := by
  simp only [stopSolenoid]
  by_cases pulsing : (s.bay b).record.pulsing = true
  · rw [if_pos pulsing]
    exact ⟨[.release b .solenoid], rfl, fun _ => List.mem_singleton_self _, fun _ _ h => absurd (pulsing.symm.trans h) nofun⟩
  · rw [if_neg pulsing]
    split
    · exact ⟨[.withdraw b .solenoid], rfl, fun h => absurd h pulsing, fun _ _ _ => List.mem_singleton_self _⟩
    · rename_i elsewhere
      exact ⟨[], by simp, fun h => absurd h pulsing, fun state phase _ => absurd (And.intro state phase) elsewhere⟩

/-- The state of a bay's entry to FAULT before its items leave the queue. -/
def faultEntered (s : State) (b : BayId) (c : FaultCause) : State :=
  let s := (s.stopSolenoid b).modRecord b fun r =>
    { r with state := .fault, phase := .none, cause := c, eject := none, parkStep := .drain, resetPark := false,
             pulsing := false, debouncing := false }
  (match c.event with
    | some e => s.latch b e
    | none => s).dropMedia b

theorem faultBasic_eq (s : State) (b : BayId) (c : FaultCause) :
    s.faultBasic b c = ((s.faultEntered b c).discard b).endSlot b c.result := rfl

theorem faultBasic_faulted (s : State) (b : BayId) (c : FaultCause) : State.Faulted b c s (s.faultBasic b c) := by
  obtain ⟨more, stops, pulse, release⟩ := s.stopSolenoid_eq b
  have entered : ∃ l, s.faultEntered b c = ({ s with signals := s.signals ++ more } : State).modBay b (fun y => { y with
        record := { y.record with state := .fault, phase := .none, cause := c, eject := none, parkStep := .drain,
                                  resetPark := false, pulsing := false, debouncing := false }
        media := { y.media with state := .idle, op := none, custody := none, saveFailures := 0 }
        latches := l }) ∧
      (∀ e, c.event = some e → l.events.getLsbD e.bit = true) ∧
      ∀ e, c.event ≠ some e → l.events.getLsbD e.bit = s.latched b e := by
    rw [faultEntered, stops]
    cases event : c.event with
    | none =>
      refine ⟨(s.bay b).latches, ?_, fun _ h => (nofun : _ → _) h, fun _ _ => rfl⟩
      cases b <;> rfl
    | some e =>
      have set := s.latched_latch b b e
      refine ⟨{ (s.bay b).latches with events := (s.bay b).latches.events ||| BitVec.twoPow 26 e.bit }, ?_, fun f h => ?_, fun f h => ?_⟩
      · cases b <;> rfl
      · obtain rfl := Option.some.inj h
        have set := set e
        rw [State.latched, State.latch_bay] at set
        simpa using set
      · have set := set f
        rw [State.latched, State.latch_bay] at set
        simpa [show e ≠ f from fun same => h (by rw [same])] using set
  obtain ⟨l, entered, event, kept⟩ := entered
  have discarded := (s.faultEntered b c).discard_discarded b
  rw [faultBasic_eq]
  obtain ⟨slot, lEnd, ended⟩ := ((s.faultEntered b c).discard b).endSlot_frame b c.result
  obtain ⟨l', n, bay⟩ := discarded.bay
  obtain ⟨lEnd', endedBay⟩ := ((s.faultEntered b c).discard b).endSlot_bay b c.result
  have enteredLatched (e : BayEvent) : (s.faultEntered b c).latched b e = l.events.getLsbD e.bit := by
    rw [State.latched, entered, State.modBay_bay]
  have signals : (((s.faultEntered b c).discard b).endSlot b c.result).signals = s.signals ++ more := by
    rw [ended, State.modBay_signals, discarded.signals, entered, State.modBay_signals]
  refine ⟨⟨lEnd', n, ?_⟩, ?_, fun e h => ?_, fun e h1 h2 h3 h4 => ?_, ⟨more, signals⟩, fun h => ?_, fun h1 h2 h3 => ?_,
    s.faultEntered b c, _, discarded, ?_, ?_, ?_, fun h => ?_, ?_, ?_, ?_, ?_, ?_⟩
  · rw [endedBay, bay, entered, State.modBay_bay]
    cases b <;> rfl
  · rw [← faultBasic_eq]
    simp
  · have unlike : e ≠ .counterThreshold ∧ e ≠ .writesDiscarded ∧ e ≠ .resultReady := by
      cases c <;> cases h <;> exact ⟨nofun, nofun, nofun⟩
    rw [endSlot_latched _ _ _ unlike.2.2, discarded.kept e unlike.1 unlike.2.1, enteredLatched]
    exact event e h
  · rw [endSlot_latched _ _ _ h3, discarded.kept e h1 h2, enteredLatched]
    exact kept e h4
  · rw [signals]
    exact List.mem_append_right _ (pulse h)
  · rw [signals]
    exact List.mem_append_right _ (release h1 h2 h3)
  · rw [entered, State.modBay_queue]
  · rw [entered, State.modBay_faults]
  · rw [entered, State.modBay_bay]
    cases b <;> rfl
  · rw [enteredLatched]
    exact kept _ h
  · rw [ended, State.modBay_queue]
  · rw [ended, State.modBay_faults]
  · rw [ended, State.modBay_events]
  · rw [endedBay]
  · exact endSlot_latched _ _ _ nofun

end State

end Sys2Proof.Machine
end

section
/-! PROOFS. The rise and fall of the present sense (O22). -/

namespace Sys2Proof.Machine

namespace State

variable {s : State} {b : BayId}

theorem becomeEmpty_absent (absent : (s.bay b).pins.present = false) : s.becomeEmpty b = s.modRecord b fun _ => {} := by
  simp only [becomeEmpty]
  exact if_neg (by simp [absent])

/-- The cartridge gone in AWAIT REMOVAL: an EJECT in the slot completes, EJECTED is latched and the bay is EMPTY (R163). -/
theorem removed_absent (absent : (s.bay b).pins.present = false) : s.removed b =
    ((if (s.bay b).slot.state = .inProgress ∧ (s.bay b).slot.request = some .eject then
        (s.modSlot b fun x => { x with state := .done, result := .done, next := 1 }).latch b .resultReady
      else s).latch b .ejected).modRecord b fun _ => {} := by
  have ejecting : (s.bay b).slot.ejecting = true ↔ (s.bay b).slot.state = .inProgress ∧ (s.bay b).slot.request = some .eject := by
    simp only [Slot.ejecting, Slot.active]
    split <;> simp_all
  rw [removed]
  simp only [latch_bay, ejecting]
  split
  · rename_i eject
    rw [completeSlot_inProgress (by simpa using eject.1), becomeEmpty_absent (by simpa using absent)]
    have order : (((s.latch b .ejected).modSlot b fun x => { x with state := .done, result := .done, next := 1 }).latch b .resultReady) =
        (((s.modSlot b fun x => { x with state := .done, result := .done, next := 1 }).latch b .resultReady).latch b .ejected) := by
      have commutes (e : BitVec 26) : e ||| BitVec.twoPow 26 BayEvent.ejected.bit ||| BitVec.twoPow 26 BayEvent.resultReady.bit =
          e ||| BitVec.twoPow 26 BayEvent.resultReady.bit ||| BitVec.twoPow 26 BayEvent.ejected.bit := by
        rw [BitVec.or_assoc, BitVec.or_comm (BitVec.twoPow 26 BayEvent.ejected.bit), ← BitVec.or_assoc]
      cases b <;> simp [latch, modLatches, modSlot, modBay, commutes]
    rw [order]
  · rw [becomeEmpty_absent (by simpa using absent)]

/-- In FAULT of a lost cartridge the end of an unload leads no further (R14, R164). -/
theorem unloadedReport_lost (fault : (s.bay b).record.state = .fault) (lost : (s.bay b).record.cause = .cartridgeLost) :
    s.unloadedReport b = s := by
  simp only [unloadedReport, fault, lost]

theorem stopConfirmed_lost (fault : (s.bay b).record.state = .fault) (lost : (s.bay b).record.cause = .cartridgeLost) (ended : Bool) :
    s.stopConfirmed b ended = s.becomeEmpty b := by
  simp only [stopConfirmed, fault]
  exact if_pos lost

/-- The heads of a bay whose cartridge is lost are on the stop or on their way, and nothing else of it has changed (R164). -/
theorem unloadHeads_lost (fault : (s.bay b).record.state = .fault) (lost : (s.bay b).record.cause = .cartridgeLost) :
    ∃ a : Actuator, a.state = (if (s.bay b).act.state = .unloaded then .unloaded else .unloading) ∧
      (s.unloadHeads b).bay b = { s.bay b with act := a } := by
  by_cases on : (s.bay b).act.state = .unloaded
  · obtain ⟨more, same⟩ := unloadHeads_onStop on
    have bay : (({ s with signals := s.signals ++ more } : State).modAct b fun x => { x with loadAttempt := none }).bay b =
        { s.bay b with act := { (s.bay b).act with loadAttempt := none } } := by cases b <;> rfl
    rw [same, unloadedReport_lost (by rw [bay]; exact fault) (by rw [bay]; exact lost), bay, if_pos on]
    exact ⟨{ (s.bay b).act with loadAttempt := none }, on, rfl⟩
  · rw [if_neg on]
    exact unloadHeads_moving_bay on

/-- The stop of a spindle in a bay whose cartridge is lost: EMPTY at once where it was at rest, and STOPPING else (R164). -/
theorem stopSpindle_lost (fault : (s.bay b).record.state = .fault) (lost : (s.bay b).record.cause = .cartridgeLost)
    (absent : (s.bay b).pins.present = false) :
    if (s.bay b).spindle.state = .off ∨ (s.bay b).spindle.state = .waiting then
      ∃ x : Spindle, x.state = .off ∧ (s.stopSpindle b).bay b = { s.bay b with record := {}, spindle := x }
    else ∃ x : Spindle, x.state = .stopping ∧ (s.stopSpindle b).bay b = { s.bay b with spindle := x } := by
  split
  · rename_i rest
    rcases rest with off | waits
    · rw [stopSpindle_off off, stopConfirmed_lost fault lost, becomeEmpty_absent absent]
      exact ⟨_, off, by simp⟩
    · rw [stopSpindle_waiting waits, stopConfirmed_lost (by simpa using fault) (by simpa using lost), becomeEmpty_absent (by simpa using absent)]
      exact ⟨{ (s.bay b).spindle with state := .off }, rfl, by simp⟩
  · rename_i turns
    obtain ⟨x, stopping, -, bay⟩ := stopSpindle_turning_bay (fun off => turns (.inl off)) (fun waits => turns (.inr waits))
    exact ⟨x, stopping, bay⟩

end State

theorem entriesOfBay_eq (q : WriteQueue) (b : BayId) : ((entriesOf q.items).filter fun e => e.bay = b).length = q.entriesOfBay b := by
  rw [WriteQueue.entriesOfBay, entriesOf_itemsOf]

/-- Settles O22: a rise, the two expected falls, and the loss: FAULT, the heads sent to rest, and the spindle. -/
theorem presenceRisesAndFalls : Obligations.PresenceRisesAndFalls := by
  unfold Obligations.PresenceRisesAndFalls
  intro s b
  dsimp only
  rw [entriesOfBay_eq, exec_presentSenseRise, exec_presentSenseFall]
  have record : ((s.modPins b fun p => { p with present := false }).bay b).record = (s.bay b).record := by simp
  refine ⟨?_, fun empty => ?_, fun ejecting awaits => ?_, fun here elsewhere => ?_⟩
  · rw [execPresentSenseRise]
    simp only [State.modPins_bay]
    split <;> cases b <;> rfl
  · rw [execPresentSenseFall]
    exact if_pos (by rw [record]; exact empty)
  · rw [execPresentSenseFall, record, if_neg (by simp [ejecting]), if_pos ⟨ejecting, awaits⟩, State.removed_absent (by simp)]
    simp only [State.modPins_bay]
  · have fall : execPresentSenseFall b s =
        .next ((((s.modPins b fun p => { p with present := false }).faultBasic b .cartridgeLost).unloadHeads b).stopSpindle b) := by
      rw [execPresentSenseFall, record, if_neg here, if_neg elsewhere, State.faultReport, if_neg (by simp)]
      rfl
    rw [fall]
    have faulted := (s.modPins b fun p => { p with present := false }).faultBasic_faulted b .cartridgeLost
    generalize entered : (s.modPins b fun p => { p with present := false }).faultBasic b .cartridgeLost = f at faulted ⊢
    obtain ⟨l, n, bay⟩ := faulted.bay
    obtain ⟨u, v, discarded, uQueue, uFaults, uCounters, uLatched, vQueue, vFaults, vEvents, vCounters, vLatched⟩ := faulted.discarded
    rw [State.modPins_bay] at bay uCounters
    have recordF : (f.bay b).record.state = .fault ∧ (f.bay b).record.cause = .cartridgeLost := by rw [bay]; exact ⟨rfl, rfl⟩
    obtain ⟨a, heads, unloaded⟩ := State.unloadHeads_lost recordF.1 recordF.2
    have steers : State.Steers b f ((f.unloadHeads b).stopSpindle b) := (State.Steers.refl b f).unloadHeads.stopSpindle
    have stopped := State.stopSpindle_lost (s := f.unloadHeads b) (b := b) (by rw [unloaded]; exact recordF.1)
      (by rw [unloaded]; exact recordF.2) (by rw [unloaded, bay])
    rw [unloaded] at stopped
    have others : f.bay b.other = s.bay b.other := faulted.within.other.trans (by simp)
    have signal {x : Signal} (sent : x ∈ f.signals) := steers.sent sent
    have lostLatched (e : BayEvent) : (s.modPins b fun p => { p with present := false }).latched b e = s.latched b e := by
      cases b <;> rfl
    have act : ((f.unloadHeads b).stopSpindle b |>.bay b).act = a := by
      split at stopped <;> obtain ⟨x, -, same⟩ := stopped <;> rw [same]
    have spindle : (f.bay b).spindle = (s.bay b).spindle := by rw [bay]
    refine ⟨_, rfl, (steers.latched (e := .cartridgeLost) nofun).trans (faulted.event .cartridgeLost rfl), ?_, steers.other.trans others, ?_, ?_, ?_, fun none => ?_,
      fun some => ?_, ?_, ?_, ?_, ?_, fun pulsing => ?_, fun state phase still => ?_, ?_⟩
    · rw [steers.pins, bay]
    · rw [steers.map, bay]
    · rw [steers.budget, faulted.within.budget, State.modPins_budget]
    · rw [steers.queue, vQueue, discarded.queue, uQueue, State.modPins_queue]
    · have count : u.queue.entriesOfBay b = 0 := by rw [uQueue, State.modPins_queue]; exact none
      obtain ⟨counters, faults, latched⟩ := discarded.none count
      refine ⟨?_, ?_, ?_⟩
      · rw [steers.counters, vCounters, counters, uCounters]
      · rw [steers.faults, vFaults, faults, uFaults, State.modPins_faults]
      · rw [steers.latched (e := .writesDiscarded) nofun, vLatched, latched, uLatched (by decide), lostLatched]
    · have count : u.queue.entriesOfBay b = s.queue.entriesOfBay b := by rw [uQueue, State.modPins_queue]
      obtain ⟨counters, latched, listed, faults⟩ := discarded.some (by rw [count]; exact some)
      rw [count, uCounters] at counters
      rw [count, uFaults, State.modPins_faults] at faults
      refine ⟨?_, ?_, fun empty => ?_, ?_⟩
      · rw [steers.counters, vCounters, counters]
      · rw [steers.latched (e := .writesDiscarded) nofun, vLatched, latched]
      · rw [State.unitLatched, steers.events, vEvents]
        exact listed (by rw [uFaults, State.modPins_faults]; exact empty)
      · rw [steers.faults, vFaults, faults]
    · rw [steers.media, bay]
    · rw [steers.media, bay]
    · rw [steers.slot, bay]
      rfl
    · rw [act, heads, bay]
    · exact signal (faulted.pulse (by simpa using pulsing))
    · exact signal (faulted.release (by simpa using state) (by simpa using phase) (by simpa using still))
    · simp only [spindle] at stopped
      split at stopped <;> rename_i rest <;> obtain ⟨x, state, same⟩ := stopped
      · rw [if_pos rest, same]
        exact ⟨rfl, state⟩
      · rw [if_neg rest, same]
        exact ⟨recordF.1, recordF.2, by rw [bay], by rw [bay], state⟩

end Sys2Proof.Machine
end

section
/-! PROOFS. The grants at their owners (O33). -/

namespace Sys2Proof.Machine

namespace State

variable {s : State} {b : BayId} {k : RequestKind} {level : Nat} {early late : List Signal}

/-- A grant under way reaches its owner: the load starts where it is wanted, and the claim is released where it is not (R31). -/
theorem takeGrant_underWay (under : s.grantUnderWay b k level early late) (wanted : Bool) (act : State → Nat → State) :
    s.takeGrant b k wanted act =
      if wanted then act { s with signals := early ++ late } level
      else { s with signals := early ++ late ++ [.release b k.consumer] } := by
  obtain ⟨place, before, absent⟩ := under
  have accepts : Signal.isGrant b k (.grant b k level) = true := by simp [Signal.isGrant]
  have kept : s.withdrawing b k = false := by simpa [withdrawing] using absent
  have left : ({ s with signals := early ++ late } : State).withdrawing b k = false := by
    rw [place] at absent
    simpa [withdrawing] using absent
  rw [takeGrant, firstSignal_at place before accepts]
  dsimp only
  rw [dropSignal_at place before accepts, kept]
  cases wanted with
  | true => rfl
  | false => simp [releaseUnwanted, left, release, send]

theorem takeGrant_wanted (under : s.grantUnderWay b k level early late) {wanted : Bool} (yes : wanted = true) (act : State → Nat → State) :
    s.takeGrant b k wanted act = act { s with signals := early ++ late } level := by
  rw [takeGrant_underWay under, if_pos yes]

theorem takeGrant_unwanted (under : s.grantUnderWay b k level early late) {wanted : Bool} (no : wanted = false) (act : State → Nat → State) :
    s.takeGrant b k wanted act = { s with signals := early ++ late ++ [.release b k.consumer] } := by
  rw [takeGrant_underWay under, if_neg (by simp [no])]

end State

/-- Settles O33: each owner wants its grant in one state of its own, and starts its load there. -/
theorem grantsStartTheirLoads : Obligations.GrantsStartTheirLoads := by
  unfold Obligations.GrantsStartTheirLoads
  intro s b k level early late under
  refine ⟨?_, ?_, ?_, ?_, ?_, ?_⟩
  · rintro rfl
    dsimp only [RequestKind.grantCommand]
    rw [exec_spinUpGrant, execSpinUpGrant, State.takeGrant_underWay under]
    exact ⟨fun waits => by rw [if_pos (decide_eq_true waits)]; cases b <;> rfl, fun elsewhere => by rw [if_neg (by simpa using elsewhere)]⟩
  · rintro rfl
    dsimp only [RequestKind.grantCommand]
    rw [exec_recoverGrant, execRecoverGrant, State.takeGrant_underWay under]
    exact ⟨fun waits asked => by rw [if_pos (decide_eq_true ⟨waits, asked⟩)]; cases b <;> rfl,
      fun elsewhere => by rw [if_neg (by simp [elsewhere])]⟩
  · rintro rfl
    dsimp only [RequestKind.grantCommand]
    rw [exec_loadGrant, execLoadGrant, State.takeGrant_underWay under]
    refine ⟨fun heads attempt => ?_, fun elsewhere => ?_⟩
    · rw [if_pos (decide_eq_true ⟨heads, Option.isSome_iff_ne_none.2 attempt⟩)]
      cases b <;> rfl
    · rw [if_neg (by simpa [Option.isSome_iff_ne_none, Decidable.imp_iff_not_or] using elsewhere)]
  · rintro rfl
    dsimp only [RequestKind.grantCommand]
    rw [exec_recalibrateGrant, execRecalibrateGrant, State.takeGrant_underWay under]
    refine ⟨fun recalibrates waits => ?_, fun elsewhere => ?_⟩
    · rw [if_pos (decide_eq_true ⟨recalibrates, waits⟩)]
      cases b <;> rfl
    · rw [if_neg (by simp [elsewhere])]
  · rintro rfl
    dsimp only [RequestKind.grantCommand]
    rw [exec_seekGrant, execSeekGrant, State.takeGrant_underWay under]
    refine ⟨fun q tracks seek requested => ?_, fun elsewhere => ?_⟩
    · have stands : (s.bay b).act.requestedSeek = some q := by simp [Actuator.requestedSeek, tracks, seek, requested]
      rw [stands, if_pos (show (some q).isSome = true from rfl)]
      rfl
    · have none : (s.bay b).act.requestedSeek = none := by
        rw [Actuator.requestedSeek]
        split
        · rename_i tracks
          rw [elsewhere.resolve_left fun h => h tracks]
          rfl
        · rfl
      rw [none, if_neg (show ¬ (Option.none : Option SeekInHand).isSome = true from nofun)]
  · rintro rfl elsewhere
    dsimp only [RequestKind.grantCommand]
    rw [exec_solenoidGrant, execSolenoidGrant, State.takeGrant_underWay under, if_neg]
    simp only [decide_eq_true_eq]
    exact fun h => elsewhere.elim (fun state => state h.1) fun phase => phase h.2.1

end Sys2Proof.Machine
end

section
/-! PROOFS. The timers of the spindle (O37). -/

namespace Sys2Proof.Machine

/-- The items that leave the Write Queue at an entry to FAULT (R14, R137). -/
theorem State.Faulted.queue {b : BayId} {c : FaultCause} {s t : State} (h : State.Faulted b c s t) :
    t.queue = { s.queue with items := s.queue.items.filter fun i => i.bay ≠ b } := by
  obtain ⟨u, v, discarded, uQueue, -, -, -, vQueue, -⟩ := h.discarded
  rw [vQueue, discarded.queue, uQueue]

theorem State.Faulted.sent {b : BayId} {c : FaultCause} {s t : State} (h : State.Faulted b c s t) {x : Signal} (mem : x ∈ s.signals) :
    x ∈ t.signals := by
  obtain ⟨more, same⟩ := h.signals
  exact same ▸ List.mem_append_left _ mem

/-- A report that replaces no cause leaves a bay in FAULT as it is (R14). -/
theorem State.faultReport_again {s : State} {b : BayId} {c : FaultCause} (fault : (s.bay b).record.state = .fault)
    (lost : c ≠ .cartridgeLost) (unload : c ≠ .unloadFault) : s.faultReport b c = s := by
  rw [State.faultReport, if_pos ⟨fault, lost, unload⟩]

theorem State.faultReport_enters {s : State} {b : BayId} {c : FaultCause} (other : (s.bay b).record.state ≠ .fault) :
    s.faultReport b c = s.enterFault b c := by
  rw [State.faultReport, if_neg fun h => other h.1]

/-- Settles O37: each timer acts in the state it runs in; a recovery that fails on the stop is an entry to FAULT. -/
theorem spindleTimersRunOut : Obligations.SpindleTimersRunOut := by
  unfold Obligations.SpindleTimersRunOut
  intro s b
  dsimp only
  rw [exec_attemptTimeout, exec_recoveryTimeout, execAttemptTimeout, execRecoveryTimeout]
  refine ⟨fun elsewhere => if_neg elsewhere, fun elsewhere => if_neg elsewhere, fun start timer => ?_⟩
  rw [timer]
  refine ⟨fun accel => ?_, fun recovers fault off => ?_, fun recovers states on => ?_⟩
  · rw [if_pos accel]
    cases b <;> rfl
  · rw [if_pos recovers]
    dsimp only
    rw [if_neg (show ¬ ((State.release _ b .spindle).bay b).act.state = .unloaded by simpa using off),
      State.faultReport_again (c := .speedLost) (by simpa using fault) (by decide) (by decide)]
    rfl
  · have other : (s.bay b).record.state ≠ .fault := by
      intro fault
      simp [fault] at states
    rw [if_pos recovers]
    dsimp only
    rw [if_pos (show ((State.release _ b .spindle).bay b).act.state = .unloaded by simpa using on)]
    generalize braked : ((s.clockTo ((some start).getD s.clock + Config.attemptTime)).release b .spindle).modSpindle b Spindle.brake = t
    have bay : t.bay b = { s.bay b with spindle := (s.bay b).spindle.brake } := by rw [← braked]; cases b <;> rfl
    have others : t.bay b.other = s.bay b.other := by rw [← braked]; cases b <;> rfl
    have sent : Signal.release b .spindle ∈ t.signals := by rw [← braked]; simp [State.release, State.send]
    have faulted := t.faultBasic_faulted b .speedLost
    obtain ⟨l, n, after⟩ := faulted.bay
    rw [State.faultReport_enters (by rw [bay]; exact other)]
    refine ⟨t.faultBasic b .speedLost, rfl, ?_, ?_, ?_, faulted.sent sent, ?_, fun active => ?_, faulted.within.other.trans others⟩
    · rw [after, bay]
      rfl
    · rw [after]
    · rw [after]
    · rw [faulted.queue, ← braked]
      cases b <;> rfl
    · rw [after, bay]
      simp [active, FaultCause.result]

end Sys2Proof.Machine
end

section
/-!
SUPPORT. What the reports of the spindle keep: the clock and the last reading, and what goes on by steering, checking the drain and
giving up the operation in flight.
-/

namespace Sys2Proof.Machine

/-- A state that keeps the clock, the other bay and the last reading of a bay's spindle. -/
structure State.KeepsReading (b : BayId) (s t : State) : Prop where
  clock      : t.clock = s.clock
  other      : t.bay b.other = s.bay b.other
  reading    : (t.bay b).spindle.reading = (s.bay b).spindle.reading
  speedClass : (t.bay b).spindle.speedClass = (s.bay b).spindle.speedClass

namespace State.KeepsReading

variable {b : BayId} {s t u : State}

theorem refl (b : BayId) (s : State) : KeepsReading b s s := ⟨rfl, rfl, rfl, rfl⟩

theorem trans (h : KeepsReading b s t) (k : KeepsReading b t u) : KeepsReading b s u :=
  ⟨k.clock.trans h.clock, k.other.trans h.other, k.reading.trans h.reading, k.speedClass.trans h.speedClass⟩

theorem steers (h : KeepsReading b s t) (k : Steers b t u) : KeepsReading b s u :=
  h.trans ⟨k.clock, k.other, k.reading, k.speedClass⟩

theorem latch (h : KeepsReading b s t) (e : BayEvent) : KeepsReading b s (t.latch b e) :=
  h.trans ⟨by simp, by cases b <;> rfl, by simp, by simp⟩

theorem raise (h : KeepsReading b s t) (n : CounterName) (k : Nat) : KeepsReading b s (t.raise b n k) := by
  obtain ⟨c, l, same⟩ := t.raise_frame b n k
  rw [same]
  exact h.trans ⟨by simp, by cases b <;> rfl, by simp, by simp⟩

theorem modMedia (h : KeepsReading b s t) (f : Media → Media) : KeepsReading b s (t.modMedia b f) :=
  h.trans ⟨by simp, by cases b <;> rfl, by simp, by simp⟩

theorem faultBasic (h : KeepsReading b s t) (c : FaultCause) : KeepsReading b s (t.faultBasic b c) := by
  have faulted := t.faultBasic_faulted b c
  obtain ⟨l, n, bay⟩ := faulted.bay
  exact h.trans ⟨faulted.within.clock, faulted.within.other, by rw [bay], by rw [bay]⟩

end State.KeepsReading

/-- A state reached by steering, and by giving the Media Engine of the bay other work: no event but PARKED has come, the notices sent
before are under way still, and the spindle has its last reading. -/
structure State.Follows (b : BayId) (s t : State) : Prop extends State.KeepsReading b s t where
  latched : ∀ e, e ≠ .parked → t.latched b e = s.latched b e
  signals : ∃ more, t.signals = s.signals ++ more

namespace State.Follows

variable {b : BayId} {s t u : State}

theorem refl (b : BayId) (s : State) : Follows b s s := ⟨.refl b s, fun _ _ => rfl, [], by simp⟩

theorem trans (h : Follows b s t) (k : Follows b t u) : Follows b s u := by
  obtain ⟨more, sent⟩ := h.signals
  obtain ⟨later, sent'⟩ := k.signals
  exact ⟨h.toKeepsReading.trans k.toKeepsReading, fun e he => (k.latched e he).trans (h.latched e he), more ++ later,
    by rw [sent', sent, List.append_assoc]⟩

theorem sent (h : Follows b s t) {x : Signal} (mem : x ∈ s.signals) : x ∈ t.signals := by
  obtain ⟨more, same⟩ := h.signals
  exact same ▸ List.mem_append_left _ mem

theorem steers (h : Follows b s t) (k : Steers b t u) : Follows b s u :=
  h.trans ⟨(KeepsReading.refl b t).steers k, fun _ he => k.latched he, k.signals⟩

theorem modMedia (h : Follows b s t) (f : Media → Media) : Follows b s (t.modMedia b f) :=
  h.trans ⟨(KeepsReading.refl b t).modMedia f, fun e _ => by cases b <;> rfl, [], by simp⟩

theorem send (h : Follows b s t) (x : Signal) : Follows b s (t.send x) := h.steers ((Steers.refl b t).send x)

theorem mediaSpeedLoss (h : Follows b s t) : Follows b s (t.mediaSpeedLoss b) := by
  have stalled := h.modMedia fun m => { m with state := .stalled, op := none }
  simp only [State.mediaSpeedLoss]
  repeat' split
  all_goals first | exact stalled | exact stalled.send _ | exact stalled.modMedia _

theorem checkDrain (h : Follows b s t) : Follows b s (t.checkDrain b) := by
  simp only [State.checkDrain]
  repeat' split
  · exact h.steers (((Steers.refl b t).modRecord _).unloadHeads)
  · exact h
  · exact (h.steers ((Steers.refl b t).modRecord _)).modMedia _
  · exact h.steers (Steers.refl b t).enterUnload
  · exact h
  · exact h
  · exact h

end State.Follows

namespace State

variable {s t : State} {b : BayId}

/-! ### Reports of the spindle as steering -/

theorem Steers.askLoad (h : Steers b s t) : Steers b s (t.askLoad b) := by
  simp only [State.askLoad]
  split
  · exact (h.modAct _).request _ _
  · exact h

theorem Steers.runReport (h : Steers b s t) : Steers b s (t.runReport b) := by
  simp only [State.runReport]
  repeat' split
  · exact (h.modRecord _).askLoad
  all_goals first | exact h.askLoad | exact h

theorem Steers.endAttempt (h : Steers b s t) : Steers b s (t.endAttempt b) :=
  (h.modSpindle (by intro; rfl) (by intro; rfl)).release _

theorem KeepsReading.stopConfirmed (h : KeepsReading b s t) (ended : Bool) : KeepsReading b s (t.stopConfirmed b ended) := by
  have counted : KeepsReading b s (t.attemptCounted b) := by
    have raised := (h.steers ((Steers.refl b t).modRecord fun r => { r with attempts := min 8 (r.attempts + 1) })).raise .spinAttempts 1
    simp only [State.attemptCounted]
    split
    · exact (raised.latch _).steers (Steers.refl b _).spinUp
    · exact raised.faultBasic _
  by_cases attempt : (t.bay b).record.state = .spinning ∨ (t.bay b).record.state = .cleaning
  · rcases attempt with state | state <;> simp only [State.stopConfirmed, state] <;> split
    all_goals first | exact counted | exact h
  · have unended : t.stopConfirmed b ended = t.stopConfirmed b false := by
      cases state : (t.bay b).record.state <;> simp [state] at attempt <;> simp only [State.stopConfirmed, state]
    rw [unended]
    exact h.steers (Steers.refl b t).stopConfirmed

theorem keepsReading_spindleStopped (s : State) (b : BayId) : KeepsReading b s (s.spindleStopped b) := by
  have off : KeepsReading b s (s.modSpindle b fun x => { x with state := .off, count := 2, attemptEnd := false, pendingSpinUp := false }) :=
    (KeepsReading.refl b s).steers ((Steers.refl b s).modSpindle (by intro; rfl) (by intro; rfl))
  simp only [State.spindleStopped]
  split
  · exact (off.steers (((Steers.refl b _).modSpindle (by intro; rfl) (by intro; rfl)).request _ _)).stopConfirmed _
  · exact off.stopConfirmed _

/-- A spindle that reaches RUN has its claim reduced, and the bay goes on by steering (R48, R55). -/
theorem enterRun_steers (s : State) (b : BayId) : Steers b
    ({ s with freeIndex := s.freeIndex + 1, budget := (s.budget.reduce b).1, signals := s.signals ++ (s.budget.reduce b).2 } : State)
    (s.enterRun b) := by
  have reached : s.enterRun b =
      ((({ s with freeIndex := s.freeIndex + 1, budget := (s.budget.reduce b).1, signals := s.signals ++ (s.budget.reduce b).2 } :
        State).modSpindle b fun x => x.regulate s.freeIndex).runReport b) := by
    cases b <;> rfl
  rw [reached]
  exact ((Steers.refl b _).modSpindle (by intro; rfl) (by intro; rfl)).runReport

theorem keepsReading_enterRun (s : State) (b : BayId) : KeepsReading b s (s.enterRun b) := by
  refine KeepsReading.trans ?_ ((KeepsReading.refl b _).steers (s.enterRun_steers b))
  exact ⟨rfl, by cases b <;> rfl, by cases b <;> rfl, by cases b <;> rfl⟩

/-- The speed lost in RUN: the spindle coasts, and all that comes after follows (R52). -/
def speedLossSeen (s : State) (b : BayId) : State :=
  ((s.modSpindle b fun x => { x with state := .recoverWait, recoverAsked := false }).release b .spindle).latch b .speedLoss

/-- The heads told of a speed loss; on the stop the spindle is answered at once (R53, R90). -/
def headsTold (s : State) (b : BayId) : State :=
  match s.askUnload b with
  | (t, true) => t.answerSpindle b
  | (t, false) => t

theorem speedLost_eq (s : State) (b : BayId) :
    s.speedLost b = ((((s.speedLossSeen b).headsTold b).mediaSpeedLoss b).answerLoss b).checkDrain b := rfl

theorem Steers.headsTold (h : Steers b s t) : Steers b s (t.headsTold b) := by
  have asked := h.askUnload
  rw [State.headsTold]
  split <;> rename_i u same <;> rw [same] at asked
  · exact asked.answerSpindle
  · exact asked

theorem follows_speedLost (s : State) (b : BayId) : Follows b (s.speedLossSeen b) (s.speedLost b) :=
  ((((Follows.refl b _).steers (Steers.refl b _).headsTold).mediaSpeedLoss).steers (Steers.refl b _).answerLoss).checkDrain

theorem keepsReading_speedLost (s : State) (b : BayId) : KeepsReading b s (s.speedLost b) :=
  (((KeepsReading.refl b s).steers (((Steers.refl b s).modSpindle (by intro; rfl) (by intro; rfl)).release _)).latch _).trans
    (s.follows_speedLost b).toKeepsReading

/-! ### A reading counted -/

theorem KeepsReading.counting (h : KeepsReading b s t) (n : Nat) (stall : Bool) :
    KeepsReading b s (t.modSpindle b fun x => x.counting n stall) :=
  h.steers ((Steers.refl b t).modSpindle (by intro; rfl) (by intro; rfl))

theorem keepsReading_readInAccel (s : State) (b : BayId) (c : SpeedClass) (late : Bool) : KeepsReading b s (s.readInAccel b c late) := by
  simp only [readInAccel]
  repeat' split
  · exact keepsReading_enterRun s b
  · exact (KeepsReading.refl b s).counting ..
  · exact (KeepsReading.refl b s).steers (Steers.refl b s).endAttempt
  all_goals exact (KeepsReading.refl b s).counting ..

theorem keepsReading_readInRun (s : State) (b : BayId) (c drive : SpeedClass) : KeepsReading b s (s.readInRun b c drive) := by
  have driven : KeepsReading b s (({ s with freeIndex := s.freeIndex + 1 } : State).modSpindle b fun x =>
      { x with demand := regulated x.demand drive s.freeIndex }) :=
    ⟨by simp, by cases b <;> rfl, by cases b <;> rfl, by cases b <;> rfl⟩
  simp only [readInRun]
  repeat' split
  · exact driven.counting ..
  · exact (driven.counting ..).trans (keepsReading_speedLost _ b)
  · exact driven.counting ..

theorem keepsReading_readInRecover (s : State) (b : BayId) (c : SpeedClass) : KeepsReading b s (s.readInRecover b c) := by
  simp only [readInRecover]
  repeat' split
  · exact ((KeepsReading.refl b s).latch _).trans (keepsReading_enterRun _ b)
  all_goals exact (KeepsReading.refl b s).counting ..

theorem keepsReading_readInStopping (s : State) (b : BayId) (c : SpeedClass) : KeepsReading b s (s.readInStopping b c) := by
  simp only [readInStopping]
  repeat' split
  · exact keepsReading_spindleStopped s b
  all_goals exact (KeepsReading.refl b s).counting ..

end State

end Sys2Proof.Machine
end

section
/-! PROOFS. Measurement windows and their readings (O34). -/

namespace Sys2Proof.Machine

theorem rawOutcome_wellFormed {raw : RawOutcome} (ok : raw.wellFormed = true) : rawOutcome raw = raw := by
  cases raw with
  | counted n =>
    have range : 1 ≤ n.toNat ∧ n.toNat ≤ 65533 := of_decide_eq_true ok
    exact if_pos (show n.toNat < 65534 by omega)
  | fewEdges => rfl
  | noEdge => rfl

theorem nominalSpeed_eq (code : Nat) : nominalSpeed code = if code = 3 then 1200 else 3600 := by
  unfold nominalSpeed
  split
  · rfl
  · rename_i other
    rw [if_neg other]

/-- The class of a reading against the target and half-width of its window, without a difference that could run below 0 (R43). -/
theorem classify_eq (raw : RawOutcome) (target w : Nat) : classify raw target w = (match raw with
    | .counted n => if n.toNat + w < target then .over else if target + w < n.toNat then .under else .on
    | .fewEdges => .slow
    | .noEdge => .stall) := by
  cases raw with
  | counted n => simp only [classify, Nat.lt_sub_iff_add_lt]
  | fewEdges => rfl
  | noEdge => rfl

namespace State

variable {s : State} {b : BayId} {raw : RawOutcome} {w : Window}

theorem measurementComplete_unwindowed (none : (s.bay b).spindle.window = none) : exec (.measurementComplete b raw) s = .next s := by
  rw [exec_measurementComplete, execMeasurementComplete]
  simp only [none]

/-- A measurement of a window passed over, or in a state that counts no readings, is recorded alone (R45). -/
theorem measurementComplete_uncounted (ok : raw.wellFormed = true) (window : (s.bay b).spindle.window = some w)
    (uncounted : w.stale = true ∨ (s.bay b).spindle.state ∈ [SpindleState.off, .waiting, .recoverWait]) :
    exec (.measurementComplete b raw) s =
      .next (s.recordReading b w raw (s.classAt w raw (nominalSpeed (s.bay b).record.typeCode))) := by
  rw [exec_measurementComplete, execMeasurementComplete]
  simp only [window, rawOutcome_wellFormed ok]
  rcases uncounted with stale | rest
  · rw [if_pos stale]
  · split
    · rfl
    · simp only [List.mem_cons, List.not_mem_nil, or_false] at rest
      rcases rest with state | state | state <;> simp only [state]

/-- What a spindle state makes of a reading counted (R45). -/
def countReading (t : State) (b : BayId) (x : Spindle) (w : Window) (c drive : SpeedClass) : State :=
  match x.state with
  | .accel => t.readInAccel b c (x.timer.any fun z => z + Config.jamTime ≤ w.startAt)
  | .run => t.readInRun b c drive
  | .recover => t.readInRecover b c
  | .stopping => t.readInStopping b c
  | .off | .waiting | .recoverWait => t

theorem measurementComplete_counted (ok : raw.wellFormed = true) (window : (s.bay b).spindle.window = some w) (fresh : w.stale = false) :
    exec (.measurementComplete b raw) s =
      .next ((s.recordReading b w raw (s.classAt w raw (nominalSpeed (s.bay b).record.typeCode))).countReading b (s.bay b).spindle w
        (s.classAt w raw (nominalSpeed (s.bay b).record.typeCode)) (s.classAt w raw (s.bay b).spindle.nominal)) := by
  rw [exec_measurementComplete, execMeasurementComplete]
  simp only [window, rawOutcome_wellFormed ok]
  rw [if_neg (by simp [fresh])]
  cases state : (s.bay b).spindle.state <;> simp only [countReading, state]

theorem keepsReading_countReading (t : State) (b : BayId) (x : Spindle) (w : Window) (c drive : SpeedClass) :
    KeepsReading b t (t.countReading b x w c drive) := by
  simp only [countReading]
  split
  · exact keepsReading_readInAccel ..
  · exact keepsReading_readInRun ..
  · exact keepsReading_readInRecover ..
  · exact keepsReading_readInStopping ..
  all_goals exact .refl b t

theorem measurementComplete_keepsReading (ok : raw.wellFormed = true) (window : (s.bay b).spindle.window = some w) :
    ∃ u, exec (.measurementComplete b raw) s = .next u ∧
      KeepsReading b (s.recordReading b w raw (s.classAt w raw (nominalSpeed (s.bay b).record.typeCode))) u := by
  by_cases stale : w.stale = true
  · exact ⟨_, measurementComplete_uncounted ok window (.inl stale), .refl b _⟩
  · exact ⟨_, measurementComplete_counted ok window (by simpa using stale), keepsReading_countReading ..⟩

/-- How long a measurement takes: its own counts, and a wait for the first edge (R39). -/
theorem measureCounts_range (s : State) (raw : RawOutcome) :
    let least := match raw with
      | .counted n => n.toNat
      | .fewEdges | .noEdge => 65534
    least ≤ s.measureCounts raw ∧ s.measureCounts raw ≤ least + (if raw = .noEdge then 0 else 65534) := by
  have wait : min Config.counterLimit (Config.edgeWait s.freeIndex) ≤ 65534 := Nat.min_le_left ..
  cases raw with
  | counted n =>
    simp only [measureCounts, reduceCtorEq, if_false]
    omega
  | fewEdges =>
    simp only [measureCounts, reduceCtorEq, if_false]
    exact ⟨Nat.le_add_left .., by rw [Nat.add_comm]; exact Nat.add_le_add_left wait _⟩
  | noEdge => exact ⟨Nat.le_refl _, Nat.le_refl _⟩

end State

/-- Settles O34: the window opened, and the reading recorded, which no spindle state changes. -/
theorem measurementsAreRecorded : Obligations.MeasurementsAreRecorded := by
  unfold Obligations.MeasurementsAreRecorded
  intro s b
  refine ⟨by rw [exec_measurementWindowStart]; cases b <;> rfl, fun raw ok => ⟨State.measurementComplete_unwindowed, fun w window => ?_⟩⟩
  have classed : s.classAt w raw (nominalSpeed (s.bay b).record.typeCode) = _ :=
    (classify_eq raw _ _).trans (by rw [speedHalfWidth, speedTarget, nominalSpeed_eq])
  have recorded : ∀ c, s.recordReading b w raw c = (({ s with
      clock := max s.clock (w.startAt + s.measureCounts raw), freeIndex := s.freeIndex + 1 } : State).modSpindle b fun x =>
        { x with reading := reportedReading raw s.settings.slowMark, speedClass := c, raw, window := none }) := fun c => rfl
  refine ⟨s.measureCounts_range raw, fun uncounted => ?_, ?_⟩
  · rw [State.measurementComplete_uncounted ok window uncounted, classed, recorded]
    cases raw <;> rfl
  · obtain ⟨u, complete, keeps⟩ := State.measurementComplete_keepsReading ok window
    rw [recorded] at keeps
    refine ⟨u, complete, keeps.reading.trans ?_, keeps.speedClass.trans ?_, keeps.clock.trans ?_⟩
    · rw [State.modSpindle_bay]
      cases raw <;> rfl
    · rw [State.modSpindle_bay]
      exact classed
    · rw [State.modSpindle_clock]

end Sys2Proof.Machine
end

section
/-! PROOFS. What two successive readings decide (O35), and the confirmed stop (O36). -/

namespace Sys2Proof.Machine

namespace State

variable {s t : State} {b : BayId}

/-! ### RUN reached (R48, R55) -/

theorem askLoad_bay (s : State) (b : BayId) : ∃ a, (s.askLoad b).bay b = { s.bay b with act := a } := by
  simp only [askLoad]
  split
  · exact ⟨_, by rw [request_bay, modAct_bay]⟩
  · exact ⟨_, rfl⟩

theorem askLoad_asks (heads : (s.bay b).act.state = .unloaded) (run : (s.bay b).spindle.state = .run) :
    s.askLoad b = (s.modAct b fun x => { x with loadAttempt := some 1 }).request b .load := if_pos ⟨heads, run⟩

theorem runReport_spinning (spinning : (s.bay b).record.state = .spinning) :
    s.runReport b = (s.modRecord b fun r => { r with state := .loading }).askLoad b := by
  simp only [runReport, spinning]

theorem runReport_cleaning (cleaning : (s.bay b).record.state = .cleaning) : s.runReport b = s.askLoad b := by
  simp only [runReport, cleaning]

theorem runReport_spindle (s : State) (b : BayId) : ((s.runReport b).bay b).spindle = (s.bay b).spindle := by
  have asked (t : State) : ((t.askLoad b).bay b).spindle = (t.bay b).spindle := by
    obtain ⟨a, same⟩ := t.askLoad_bay b
    rw [same]
  simp only [runReport]
  repeat' split
  all_goals simp [asked]

/-- The bay whose spindle comes up from a stand goes on to its load (R8, R17). -/
theorem runReport_loads (run : (s.bay b).spindle.state = .run) :
    ((s.bay b).record.state = .spinning → ((s.runReport b).bay b).record.state = .loading) ∧
    ((s.bay b).record.state = .spinning ∨ (s.bay b).record.state = .cleaning → (s.bay b).act.state = .unloaded →
      ((s.runReport b).bay b).act.loadAttempt = some 1 ∧ Signal.request b .load 0 ∈ (s.runReport b).signals) := by
  refine ⟨fun spinning => ?_, fun states heads => ?_⟩
  · obtain ⟨a, same⟩ := (s.modRecord b fun r => { r with state := .loading }).askLoad_bay b
    rw [runReport_spinning spinning, same, modRecord_bay]
  · rcases states with spinning | cleaning
    · rw [runReport_spinning spinning, askLoad_asks (by simpa using heads) (by simpa using run)]
      exact ⟨by simp, by simp [request, send]⟩
    · rw [runReport_cleaning cleaning, askLoad_asks heads run]
      exact ⟨by simp, by simp [request, send]⟩

/-! ### Speed lost in RUN (R52 to R54, R90) -/

/-- What the loss of the speed leaves of a bay: the spindle coasts or brakes, the heads are on the stop or on their way, and the engine has
no operation. -/
structure Slowing (b : BayId) (y : Bay) (t : State) : Prop where
  spindle : (t.bay b).spindle.state = .recoverWait ∨ (t.bay b).spindle.state = .stopping
  act     : (t.bay b).act.state = if y.act.state = .unloaded then .unloaded else .unloading
  op      : (t.bay b).media.op = none
  engine  : (t.bay b).media.state = .stalled

namespace Slowing

variable {y : Bay}

theorem modRecord (h : Slowing b y t) (f : BayRecord → BayRecord) : Slowing b y (t.modRecord b f) :=
  ⟨by simpa using h.spindle, by simpa using h.act, by simpa using h.op, by simpa using h.engine⟩

theorem stopSpindle (h : Slowing b y t) : Slowing b y (t.stopSpindle b) := by
  obtain ⟨x, stopping, -, bay⟩ := stopSpindle_turning_bay (s := t) (b := b) (by rcases h.spindle with h | h <;> simp [h])
    (by rcases h.spindle with h | h <;> simp [h])
  exact ⟨.inr (by rw [bay]; exact stopping), by rw [bay]; exact h.act, by rw [bay]; exact h.op, by rw [bay]; exact h.engine⟩

theorem unloadedReport (h : Slowing b y t) : Slowing b y (t.unloadedReport b) := by
  simp only [State.unloadedReport]
  repeat' split
  all_goals first | exact h | exact h.stopSpindle | exact (h.modRecord _).stopSpindle

theorem unloadHeads (h : Slowing b y t) : Slowing b y (t.unloadHeads b) := by
  by_cases on : (t.bay b).act.state = .unloaded
  · obtain ⟨more, same⟩ := unloadHeads_onStop on
    have bay : (({ t with signals := t.signals ++ more } : State).modAct b fun x => { x with loadAttempt := none }).bay b =
        { t.bay b with act := { (t.bay b).act with loadAttempt := none } } := by cases b <;> rfl
    rw [same]
    exact Slowing.unloadedReport ⟨by rw [bay]; exact h.spindle, by rw [bay]; exact h.act, by rw [bay]; exact h.op, by rw [bay]; exact h.engine⟩
  · obtain ⟨a, unloading, bay⟩ := unloadHeads_moving_bay on
    have off : y.act.state ≠ .unloaded := fun stop => on (by rw [h.act, if_pos stop])
    exact ⟨by rw [bay]; exact h.spindle, by rw [bay, if_neg off]; exact unloading, by rw [bay]; exact h.op, by rw [bay]; exact h.engine⟩

theorem answerLoss (h : Slowing b y t) : Slowing b y (t.answerLoss b) := by
  simp only [State.answerLoss]
  repeat' split
  all_goals first | exact h | exact h.stopSpindle

theorem checkDrain (h : Slowing b y t) : Slowing b y (t.checkDrain b) := by
  simp only [State.checkDrain]
  repeat' split
  · exact (h.modRecord _).unloadHeads
  · exact h
  · have saves := h.modRecord fun r => { r with eject := r.eject.map fun e => { e with saveMarker := true } }
    exact ⟨by simpa using saves.spindle, by simpa using saves.act, by simpa using saves.op, by simpa using saves.engine⟩
  · exact (h.modRecord _).unloadHeads
  · exact h
  · exact h
  · exact h

end Slowing

theorem answerSpindle_waits (waits : (s.bay b).spindle.state = .recoverWait) :
    ∃ x : Spindle, x.state = .recoverWait ∧ (s.answerSpindle b).bay b = { s.bay b with spindle := x } := by
  simp only [answerSpindle]
  split
  · exact ⟨{ (s.bay b).spindle with recoverAsked := true }, waits, by simp⟩
  · exact ⟨(s.bay b).spindle, waits, rfl⟩

/-- The heads at a speed loss: on the stop, or on their way (R90). -/
theorem headsTold_bay (waits : (s.bay b).spindle.state = .recoverWait) : ∃ (x : Spindle) (a : Actuator), x.state = .recoverWait ∧
    a.state = (if (s.bay b).act.state = .unloaded then .unloaded else .unloading) ∧
    (s.headsTold b).bay b = { s.bay b with spindle := x, act := a } := by
  obtain ⟨a, bay⟩ := askUnload_bay (s := s) (b := b)
  by_cases on : (s.bay b).act.state = .unloaded
  · have told : s.headsTold b = (s.askUnload b).1.answerSpindle b := by
      have answered : (s.askUnload b).2 = true := by simp only [askUnload, on]
      rw [headsTold]
      split <;> rename_i u same <;> rw [same] at answered
      · rw [same]
      · exact absurd answered nofun
    have stays : ((s.askUnload b).1.bay b).act.state = .unloaded := by
      simp only [askUnload, on]
      split <;> simpa using on
    obtain ⟨x, state, same⟩ := answerSpindle_waits (s := (s.askUnload b).1) (b := b) (by rw [bay]; exact waits)
    rw [bay] at stays
    exact ⟨x, a, state, by rw [if_pos on]; exact stays, by rw [told, same, bay]⟩
  · have told : s.headsTold b = (s.askUnload b).1 := by
      have moving := unloadHeads_moving on
      have unanswered : (s.askUnload b).2 = false := by
        cases state : (s.bay b).act.state <;> first | exact absurd state on | simp only [askUnload, state]
      rw [headsTold]
      split <;> rename_i u same <;> rw [same] at unanswered
      · exact absurd unanswered nofun
      · rw [same]
    have moving := askUnload_moving on
    rw [bay] at moving
    exact ⟨(s.bay b).spindle, a, waits, by rw [if_neg on]; exact moving, by rw [told, bay]⟩

theorem mediaSpeedLoss_bay (s : State) (b : BayId) : ∃ c, (s.mediaSpeedLoss b).bay b =
    { s.bay b with media := { (s.bay b).media with state := .stalled, op := none, custody := c } } := by
  simp only [mediaSpeedLoss]
  repeat' split
  all_goals first | exact ⟨_, by rw [send_bay, modMedia_bay]⟩ | exact ⟨_, by rw [modMedia_bay, modMedia_bay]⟩ | exact ⟨_, by rw [modMedia_bay]⟩

/-- The bay once the heads and the engine have been told of the loss; its record stands. -/
theorem lossTold_bay (s : State) (b : BayId) : ∃ (x : Spindle) (a : Actuator) (c : Option Custody) (l : Latches), x.state = .recoverWait ∧
    a.state = (if (s.bay b).act.state = .unloaded then .unloaded else .unloading) ∧
    (((s.speedLossSeen b).headsTold b).mediaSpeedLoss b).bay b = { s.bay b with
      spindle := x, act := a, latches := l, media := { (s.bay b).media with state := .stalled, op := none, custody := c } } := by
  have seen : ∃ (x : Spindle) (l : Latches), x.state = .recoverWait ∧ (s.speedLossSeen b).bay b = { s.bay b with spindle := x, latches := l } :=
    ⟨{ (s.bay b).spindle with state := .recoverWait, recoverAsked := false }, _, rfl, by rw [speedLossSeen, latch_bay, release_bay, modSpindle_bay]⟩
  obtain ⟨x, l, waits, seen⟩ := seen
  obtain ⟨x', a, waits', heads, told⟩ := headsTold_bay (s := s.speedLossSeen b) (b := b) (by rw [seen]; exact waits)
  obtain ⟨c, stalled⟩ := ((s.speedLossSeen b).headsTold b).mediaSpeedLoss_bay b
  rw [seen] at heads
  exact ⟨x', a, c, l, waits', heads, by rw [stalled, told, seen]⟩

theorem speedLost_slowing (s : State) (b : BayId) : Slowing b (s.bay b) (s.speedLost b) := by
  obtain ⟨x, a, c, l, waits, heads, bay⟩ := s.lossTold_bay b
  rw [speedLost_eq]
  exact (Slowing.answerLoss ⟨.inl (by rw [bay]; exact waits), by rw [bay]; exact heads, by rw [bay], by rw [bay]⟩).checkDrain

/-- A bay with work of its own keeps its state at a speed loss, and its spindle is to be recovered (R13, R54). -/
theorem speedLost_recovers (works : (s.bay b).record.state ∈ [BayState.loading, .mounting, .ready, .raw, .cleaning]) :
    ((s.speedLost b).bay b).record.state = (s.bay b).record.state ∧ ((s.speedLost b).bay b).spindle.state = .recoverWait := by
  obtain ⟨x, a, c, l, waits, heads, bay⟩ := s.lossTold_bay b
  generalize told : ((s.speedLossSeen b).headsTold b).mediaSpeedLoss b = t at bay
  have record : (t.bay b).record = (s.bay b).record := by rw [bay]
  have stands : t.answerLoss b = t := by
    simp only [List.mem_cons, List.not_mem_nil, or_false] at works
    rcases works with h | h | h | h | h <;> simp only [answerLoss, record, h]
  rw [speedLost_eq, told, stands, checkDrain_elsewhere (by rw [record]; rintro h; simp [h] at works)
    (by rw [record]; rintro h; simp [h] at works), bay]
  exact ⟨rfl, waits⟩

end State

end Sys2Proof.Machine
end

section
/-! PROOFS. Two successive readings (O35). -/

namespace Sys2Proof.Machine

/-- The claim reduced at the transfer into RUN, and the budget judged again (R20, R24, R30). -/
theorem Budget.reduce_eq (u : Budget) (b : BayId) :
    let claims := u.claims.map fun (d : Claim) =>
      if d.bay = b ∧ d.consumer = Consumer.spindle then { d with draw := min d.draw 5 } else d
    u.reduce b = (match u.pending with
      | some p => if (claims.map Claim.draw).sum ≤ p then { u with claims, effective := p, pending := none } else { u with claims }
      | none => { u with claims } : Budget).examine := by
  dsimp only
  rw [Budget.reduce, Budget.meetPending]
  cases u.pending <;> rfl

theorem Config.jamTime_eq : Config.jamTime = 2000000 := rfl

/-- A window in ACCEL is judged for a jam once it has started 2 s after the entry (R49). -/
theorem jams_eq (timer : Option Nat) {start : Nat} (runs : timer = some start) (n : Nat) :
    (timer.any fun z => z + Config.jamTime ≤ n) = decide (start + 2000000 ≤ n) := by
  rw [runs, Option.any_some, decide_eq_decide, Config.jamTime_eq]

namespace State

variable {s : State} {b : BayId}

/-- A spindle in RUN: its state, its count and timer cleared, the claim reduced at the budget, and the bay told (R45, R48, R55). -/
theorem enterRun_reached (s : State) (b : BayId) :
    ((s.enterRun b).bay b).spindle.state = .run ∧ ((s.enterRun b).bay b).spindle.count = 0 ∧ ((s.enterRun b).bay b).spindle.timer = none ∧
    (s.enterRun b).budget = (s.budget.reduce b).1 ∧ (∃ more, (s.enterRun b).signals = s.signals ++ (s.budget.reduce b).2 ++ more) ∧
    (s.enterRun b).queue = s.queue ∧ (s.enterRun b).bay b.other = s.bay b.other := by
  have steers := s.enterRun_steers b
  have spindle : ((s.enterRun b).bay b).spindle = (s.bay b).spindle.regulate s.freeIndex :=
    (runReport_spindle _ b).trans (by cases b <;> rfl)
  obtain ⟨more, sent⟩ := steers.signals
  exact ⟨by rw [spindle]; rfl, by rw [spindle]; rfl, by rw [spindle]; rfl, steers.budget, ⟨more, sent⟩, steers.queue,
    steers.other.trans (by cases b <;> rfl)⟩

theorem enterRun_loads (s : State) (b : BayId) :
    ((s.bay b).record.state = .spinning → ((s.enterRun b).bay b).record.state = .loading) ∧
    ((s.bay b).record.state = .spinning ∨ (s.bay b).record.state = .cleaning → (s.bay b).act.state = .unloaded →
      ((s.enterRun b).bay b).act.loadAttempt = some 1 ∧ Signal.request b .load 0 ∈ (s.enterRun b).signals) := by
  generalize run : ((({ s with freeIndex := s.freeIndex + 1 } : State).modSpindle b fun x => x.regulate s.freeIndex).reduceClaim b) = t
  have entered : s.enterRun b = t.runReport b := by rw [← run]; rfl
  have bay : t.bay b = { s.bay b with spindle := (s.bay b).spindle.regulate s.freeIndex } := by rw [← run]; cases b <;> rfl
  have loads := runReport_loads (s := t) (b := b) (by rw [bay]; rfl)
  rw [entered]
  rw [bay] at loads
  exact loads

/-! ### One reading (R45, R51, R52) -/

theorem readInRun_stays {c : SpeedClass} (first : c = .on ∨ (s.bay b).spindle.count = 0) (drive : SpeedClass) :
    s.readInRun b c drive = ({ s with freeIndex := s.freeIndex + 1 } : State).modSpindle b fun x =>
      { x with count := if c = .on then 0 else 1, countsStall := false,
               demand := regulated (s.bay b).spindle.demand drive s.freeIndex } := by
  simp only [readInRun]
  by_cases on : c = .on
  · rw [if_pos on, if_pos on]
    cases b <;> rfl
  · have zero := first.resolve_left on
    have early : ¬ 1 ≤ ((({ s with freeIndex := s.freeIndex + 1 } : State).modSpindle b fun x =>
        { x with demand := regulated x.demand drive s.freeIndex }).bay b).spindle.count := by
      cases b <;> exact fun more => absurd (zero ▸ more : 1 ≤ 0) (by omega)
    rw [if_neg on, if_neg on, if_neg early]
    cases b <;> rfl

/-- The second non-ON reading loses the speed of a spindle whose bay, but for the spindle's own figures, stands as it did. -/
theorem readInRun_loses {c : SpeedClass} (off : c ≠ .on) (second : 1 ≤ (s.bay b).spindle.count) (drive : SpeedClass) :
    ∃ f : State, s.readInRun b c drive = f.speedLost b ∧ ∃ x, f.bay b = { s.bay b with spindle := x } := by
  refine ⟨(({ s with freeIndex := s.freeIndex + 1 } : State).modSpindle b fun x =>
      { x with demand := regulated x.demand drive s.freeIndex }).modSpindle b fun x => x.counting 2, ?_, ?_⟩
  · have late : 1 ≤ ((({ s with freeIndex := s.freeIndex + 1 } : State).modSpindle b fun x =>
        { x with demand := regulated x.demand drive s.freeIndex }).bay b).spindle.count := by cases b <;> exact second
    simp only [readInRun]
    rw [if_neg off, if_pos late]
  · cases b <;> exact ⟨_, rfl⟩

theorem regulated_under {c : SpeedClass} (on : c ≠ .on) (fast : c ≠ .over) (demand : Int) (free : Nat) :
    demand < regulated demand c free := by
  cases c <;> first | contradiction | (simp only [regulated]; omega)

end State

/-- Settles O35: each state that counts readings, by the class of the reading and the count before it. -/
theorem readingsAreCounted : Obligations.ReadingsAreCounted := by
  unfold Obligations.ReadingsAreCounted
  intro s b raw w
  dsimp only
  intro ok window fresh
  rw [← nominalSpeed_eq]
  generalize class_eq : s.classAt w raw (nominalSpeed (s.bay b).record.typeCode) = c
  have counted := State.measurementComplete_counted ok window fresh
  rw [class_eq] at counted
  generalize recorded : s.recordReading b w raw c = t at counted
  have record : (({ s with clock := max s.clock (w.startAt + s.measureCounts raw), freeIndex := s.freeIndex + 1 } : State).modSpindle b
      fun x => { x with reading := reportedReading raw s.settings.slowMark, speedClass := c, raw, window := none }) = t := recorded
  rw [record]
  have spindle : (t.bay b).spindle = { (s.bay b).spindle with
      reading := reportedReading raw s.settings.slowMark, speedClass := c, raw, window := none } := by rw [← recorded]; cases b <;> rfl
  have bay : t.bay b = { s.bay b with spindle := (t.bay b).spindle } := by rw [← recorded]; cases b <;> rfl
  have budget : t.budget = s.budget := by rw [← recorded]; cases b <;> rfl
  have signals : t.signals = s.signals := by rw [← recorded]; cases b <;> rfl
  have queue : t.queue = s.queue := by rw [← recorded]; cases b <;> rfl
  have others : t.bay b.other = s.bay b.other := by rw [← recorded]; cases b <;> rfl
  have count : (t.bay b).spindle.count = (s.bay b).spindle.count := by rw [spindle]
  have stalls : (t.bay b).spindle.countsStall = (s.bay b).spindle.countsStall := by rw [spindle]
  have reduced := Budget.reduce_eq s.budget b
  refine ⟨fun accel => ?_, fun run => ?_, fun recovers => ?_, fun stopping => ?_⟩
  · have meaning : exec (.measurementComplete b raw) s =
        .next (t.readInAccel b c ((s.bay b).spindle.timer.any fun z => z + Config.jamTime ≤ w.startAt)) := by
      rw [counted, State.countReading, accel]
    rw [meaning]
    refine ⟨fun start timer => ⟨fun stall late => ⟨fun first => ?_, fun second again => ?_⟩, fun stall early => ?_⟩, fun on stall => ?_,
      fun on first => ?_, fun on second again => ?_⟩
    · have jam : ((s.bay b).spindle.timer.any fun z => z + Config.jamTime ≤ w.startAt) = true := by rw [jams_eq _ timer]; exact decide_eq_true late
      rw [jam, stall]
      simp only [State.readInAccel, if_true, count, stalls]
      rw [if_neg first]
      rfl
    · have jam : ((s.bay b).spindle.timer.any fun z => z + Config.jamTime ≤ w.startAt) = true := by rw [jams_eq _ timer]; exact decide_eq_true late
      rw [jam, stall]
      simp only [State.readInAccel, if_true, count, stalls]
      rw [if_pos ⟨second, again⟩, ← recorded]
      cases b <;> rfl
    · have jam : ((s.bay b).spindle.timer.any fun z => z + Config.jamTime ≤ w.startAt) = false := by
        rw [jams_eq _ timer]
        exact decide_eq_false (Nat.not_le.2 early)
      rw [jam, stall]
      rfl
    · cases c <;> first | exact absurd rfl on | exact absurd rfl stall | rfl
    · rw [on]
      simp only [State.readInAccel, count, stalls]
      rw [if_neg first]
      rfl
    · rw [on]
      simp only [State.readInAccel, count, stalls]
      rw [if_pos ⟨second, again⟩]
      obtain ⟨state, zero, timer, claims, sent, items, other⟩ := t.enterRun_reached b
      have loads := t.enterRun_loads b
      obtain ⟨more, sent⟩ := sent
      rw [budget] at claims sent
      rw [signals] at sent
      rw [bay] at loads
      exact ⟨_, ⟨rfl, state, zero, timer, claims.trans (congrArg Prod.fst reduced),
        ⟨more, sent.trans (congrArg (fun r => s.signals ++ Prod.snd r ++ more) reduced)⟩, items.trans queue, other.trans others⟩, loads⟩
  · have meaning : exec (.measurementComplete b raw) s =
        .next (t.readInRun b c (s.classAt w raw (s.bay b).spindle.nominal)) := by
      rw [counted, State.countReading, run]
    rw [meaning]
    refine ⟨fun first => ⟨regulated (s.bay b).spindle.demand (s.classAt w raw (s.bay b).spindle.nominal) t.freeIndex, ?_,
      fun on => by rw [on]; rfl, fun fast => by rw [fast]; simp only [regulated]; omega,
      fun on fast => State.regulated_under on fast ..⟩, fun on second => ?_⟩
    · have index : t.freeIndex = s.freeIndex + 1 := by rw [← recorded]; cases b <;> rfl
      rw [State.readInRun_stays (by rw [count]; exact first), spindle, index]
    · obtain ⟨f, lost, x, same⟩ := State.readInRun_loses (s := t) (b := b) on (by rw [count]; exact second)
        (s.classAt w raw (s.bay b).spindle.nominal)
      rw [bay] at same
      have slowing := f.speedLost_slowing b
      have follows := f.follows_speedLost b
      have heads := slowing.act
      rw [same] at heads
      refine ⟨_, congrArg Host.Outcome.next lost, slowing.spindle, fun works => ?_, ?_, follows.sent ?_, heads, slowing.op, slowing.engine⟩
      · have recovers := State.speedLost_recovers (s := f) (b := b) (by rw [same]; exact works)
        exact ⟨recovers.1.trans (by rw [same]), recovers.2⟩
      · rw [follows.latched _ (by decide), State.speedLossSeen, State.latched_latch]
        simp
      · simp [State.speedLossSeen, State.release, State.send, State.latch]
  · have meaning : exec (.measurementComplete b raw) s = .next (t.readInRecover b c) := by
      rw [counted, State.countReading, recovers]
    rw [meaning]
    simp only [State.readInRecover, count]
    refine ⟨fun on => by rw [if_neg on]; rfl, fun on first => by rw [if_pos on, if_neg (by omega)]; rfl, fun on second => ?_⟩
    rw [if_pos on, if_pos second]
    obtain ⟨state, zero, timer, claims, ⟨more, sent⟩, items, other⟩ := (t.latch b .speedRecovered).enterRun_reached b
    rw [State.latch_budget, budget] at claims sent
    rw [State.latch_signals, signals] at sent
    refine ⟨_, ⟨rfl, state, zero, timer, claims.trans (congrArg Prod.fst reduced),
        ⟨more, sent.trans (congrArg (fun r => s.signals ++ Prod.snd r ++ more) reduced)⟩,
        items.trans (by rw [State.latch_queue, queue]), other.trans (by rw [← others]; cases b <;> rfl)⟩, ?_⟩
    rw [((t.latch b .speedRecovered).enterRun_steers b).latched (by decide)]
    exact (State.latched_latch t b b .speedRecovered .speedRecovered).trans (by simp)
  · have meaning : exec (.measurementComplete b raw) s = .next (t.readInStopping b c) := by
      rw [counted, State.countReading, stopping]
    rw [meaning]
    simp only [State.readInStopping, count]
    exact ⟨fun turns => by rw [if_neg turns]; rfl, fun stall first => by rw [if_pos stall, if_neg (by omega)]; rfl⟩

end Sys2Proof.Machine
end

section
/-! PROOFS. The confirmed stop (O36). -/

namespace Sys2Proof.Machine

/-- A spindle that differs from another at most in what a spin-up request changes (R46). -/
def Spindle.Asked (x y : Spindle) : Prop := ∃ st p n, y = { x with state := st, pendingSpinUp := p, nominal := n }

namespace State

variable {s : State} {b : BayId}

theorem spinUp_spindle (s : State) (b : BayId) : (s.bay b).spindle.Asked ((s.spinUp b).bay b).spindle := by
  simp only [spinUp]
  split
  · exact ⟨.waiting, (s.bay b).spindle.pendingSpinUp, _, by rw [request_bay, modSpindle_bay]⟩
  · exact ⟨(s.bay b).spindle.state, true, _, by rw [modSpindle_bay]⟩
  · exact ⟨_, _, _, rfl⟩

theorem becomeEmpty_bay (s : State) (b : BayId) : ∃ r : BayRecord, r.state = .empty ∧ r.debouncing = (s.bay b).pins.present ∧
    (s.becomeEmpty b).bay b = { s.bay b with record := r } := by
  by_cases present : (s.bay b).pins.present = true
  · have again : s.becomeEmpty b = (s.modRecord b fun _ => {}).startDebounce b := if_pos (by simpa using present)
    exact ⟨{ debouncing := true, debounceAt := s.clock }, rfl, present.symm, by rw [again]; cases b <;> rfl⟩
  · rw [becomeEmpty_absent (by simpa using present)]
    exact ⟨{}, rfl, by simpa using present, by rw [modRecord_bay]⟩

theorem becomeEmpty_latched (s : State) (b : BayId) (e : BayEvent) : (s.becomeEmpty b).latched b e = s.latched b e := by
  obtain ⟨r, -, -, bay⟩ := s.becomeEmpty_bay b
  rw [latched, bay]
  rfl

theorem enterRelease_bay (s : State) (b : BayId) : (s.enterRelease b).bay b =
    { s.bay b with record := { (s.bay b).record with state := .ejecting, phase := .release, pulsing := false } } := by
  rw [enterRelease, request_bay, modRecord_bay]

theorem enterRelease_signals (s : State) (b : BayId) : (s.enterRelease b).signals = s.signals ++ [.request b .solenoid 0] := by
  rw [enterRelease, request, send, modRecord_signals]

/-! ### An attempt counted (R8) -/

/-- The state in which an attempt that ended has been counted. -/
def attemptRaised (s : State) (b : BayId) : State :=
  (s.modRecord b fun r => { r with attempts := min 8 (r.attempts + 1) }).raise b .spinAttempts 1

theorem attemptRaised_bay (s : State) (b : BayId) : ∃ l, (s.attemptRaised b).bay b = { s.bay b with
    record := { (s.bay b).record with attempts := min 8 ((s.bay b).record.attempts + 1) }
    counters := { (s.bay b).counters with counts := (s.bay b).counters.counts.set CounterName.spinAttempts.index (min 65535 ((s.bay b).counters.counts[CounterName.spinAttempts.index] + 1)) }
    latches := l } := by
  obtain ⟨c, l, bay⟩ := (s.modRecord b fun r => { r with attempts := min 8 (r.attempts + 1) }).raise_bay b .spinAttempts 1
  have counters := (s.modRecord b fun r => { r with attempts := min 8 (r.attempts + 1) }).raise_counters b .spinAttempts 1
  rw [modRecord_bay] at bay counters
  rw [attemptRaised]
  rw [bay] at counters ⊢
  exact ⟨l, by rw [show c = _ from counters]⟩

theorem attemptRaised_signals (s : State) (b : BayId) : (s.attemptRaised b).signals = s.signals :=
  (raise_signals ..).trans (modRecord_signals ..)

theorem attemptRaised_settings (s : State) (b : BayId) : (s.attemptRaised b).settings = s.settings := by
  obtain ⟨c, l, same⟩ := (s.modRecord b fun r => { r with attempts := min 8 (r.attempts + 1) }).raise_frame b .spinAttempts 1
  rw [attemptRaised, same, modBay_settings, modRecord_settings]

theorem attemptCounted_eq (s : State) (b : BayId) : s.attemptCounted b =
    if min 8 ((s.bay b).record.attempts + 1) < s.settings.attemptsLimit then ((s.attemptRaised b).latch b .spinRetry).spinUp b
    else (s.attemptRaised b).faultBasic b .spinFail := by
  obtain ⟨l, bay⟩ := s.attemptRaised_bay b
  have counted : s.attemptCounted b =
      if ((s.attemptRaised b).bay b).record.attempts < (s.attemptRaised b).settings.attemptsLimit then
        ((s.attemptRaised b).latch b .spinRetry).spinUp b
      else (s.attemptRaised b).faultBasic b .spinFail := rfl
  rw [counted, bay, attemptRaised_settings]

theorem stopConfirmed_spindle (s : State) (b : BayId) (ended : Bool) :
    (s.bay b).spindle.Asked ((s.stopConfirmed b ended).bay b).spindle := by
  have same : (s.bay b).spindle.Asked (s.bay b).spindle := ⟨_, _, _, rfl⟩
  have empty : (s.bay b).spindle.Asked ((s.becomeEmpty b).bay b).spindle := by
    obtain ⟨r, -, -, bay⟩ := s.becomeEmpty_bay b
    rw [bay]
    exact same
  have counted : (s.bay b).spindle.Asked ((s.attemptCounted b).bay b).spindle := by
    obtain ⟨l, bay⟩ := s.attemptRaised_bay b
    rw [attemptCounted_eq]
    split
    · have asked := ((s.attemptRaised b).latch b .spinRetry).spinUp_spindle b
      rw [latch_bay, bay] at asked
      exact asked
    · obtain ⟨l', n, after⟩ := ((s.attemptRaised b).faultBasic_faulted b .spinFail).bay
      rw [after, bay]
      exact same
  simp only [stopConfirmed]
  repeat' split
  all_goals first
    | exact counted
    | exact same
    | exact empty
    | rw [enterRelease_bay]; simpa using same
    | simpa using same

/-! ### The stop of a spindle (R57) -/

/-- The state in which a spindle has stopped with no spin-up pending. -/
def stopSeen (s : State) (b : BayId) : State :=
  s.modSpindle b fun x => { x with state := .off, count := 2, attemptEnd := false, pendingSpinUp := false }

theorem spindleStopped_rest (none : (s.bay b).spindle.pendingSpinUp = false) :
    s.spindleStopped b = (s.stopSeen b).stopConfirmed b (s.bay b).spindle.attemptEnd := by
  simp only [spindleStopped, none, Bool.false_eq_true, if_false]
  rfl

theorem spindleStopped_again (pending : (s.bay b).spindle.pendingSpinUp = true) :
    s.spindleStopped b = (((s.stopSeen b).modSpindle b fun x => { x with state := .waiting }).request b .spinUp).stopConfirmed b
      (s.bay b).spindle.attemptEnd := by
  simp only [spindleStopped, pending, if_true]
  rfl

theorem stopSeen_bay (s : State) (b : BayId) : (s.stopSeen b).bay b = { s.bay b with
    spindle := { (s.bay b).spindle with state := .off, count := 2, attemptEnd := false, pendingSpinUp := false } } :=
  modSpindle_bay ..

theorem spindleStopped_count (s : State) (b : BayId) :
    ((s.spindleStopped b).bay b).spindle.count = 2 ∧ ((s.spindleStopped b).bay b).spindle.attemptEnd = false := by
  by_cases pending : (s.bay b).spindle.pendingSpinUp = true
  · rw [spindleStopped_again pending]
    obtain ⟨st, p, n, same⟩ := (((s.stopSeen b).modSpindle b fun x => { x with state := .waiting }).request b .spinUp).stopConfirmed_spindle b
      (s.bay b).spindle.attemptEnd
    rw [same, request_bay, modSpindle_bay, stopSeen_bay]
    exact ⟨rfl, rfl⟩
  · rw [spindleStopped_rest (by simpa using pending)]
    obtain ⟨st, p, n, same⟩ := (s.stopSeen b).stopConfirmed_spindle b (s.bay b).spindle.attemptEnd
    rw [same, stopSeen_bay]
    exact ⟨rfl, rfl⟩

/-- The bay of a spindle that stopped at the end of an attempt: it tries again, or it is in FAULT (R8, R50). -/
theorem attemptCounted_ends (off : (s.bay b).spindle.state = .off) :
    ((s.attemptCounted b).bay b).record.attempts = min 8 ((s.bay b).record.attempts + 1) ∧
    ((s.attemptCounted b).bay b).counters.counts[CounterName.spinAttempts.index] =
      min 65535 ((s.bay b).counters.counts[CounterName.spinAttempts.index] + 1) ∧
    (min 8 ((s.bay b).record.attempts + 1) < s.settings.attemptsLimit →
      ((s.attemptCounted b).bay b).record.state = (s.bay b).record.state ∧ (s.attemptCounted b).latched b .spinRetry = true ∧
      ((s.attemptCounted b).bay b).spindle.state = .waiting ∧ (s.attemptCounted b).signals = s.signals ++ [.request b .spinUp 0]) ∧
    (s.settings.attemptsLimit ≤ min 8 ((s.bay b).record.attempts + 1) →
      ((s.attemptCounted b).bay b).record.state = .fault ∧ ((s.attemptCounted b).bay b).record.cause = .spinFail ∧
      (s.attemptCounted b).latched b .spinFail = true ∧ ((s.attemptCounted b).bay b).spindle.state = .off) := by
  obtain ⟨l, bay⟩ := s.attemptRaised_bay b
  rw [attemptCounted_eq]
  by_cases again : min 8 ((s.bay b).record.attempts + 1) < s.settings.attemptsLimit
  · rw [if_pos again, spinUp_off (by rw [latch_bay, bay]; exact off)]
    have rises : (((s.attemptRaised b).latch b .spinRetry).modSpindle b fun x => { x with
        state := .waiting, nominal := nominalSpeed (((s.attemptRaised b).latch b .spinRetry).bay b).record.typeCode }).request b .spinUp
        |>.latched b .spinRetry := by
      have set := (s.attemptRaised b).latched_latch b b .spinRetry .spinRetry
      rw [latched] at set ⊢
      rw [request_bay, modSpindle_bay]
      exact set.trans (by simp)
    refine ⟨?_, ?_, fun _ => ⟨?_, rises, ?_, ?_⟩, fun fails => absurd again (by omega)⟩
    · rw [request_bay, modSpindle_bay, latch_bay, bay]
    · rw [request_bay, modSpindle_bay, latch_bay, bay]
      simp
    · rw [request_bay, modSpindle_bay, latch_bay, bay]
    · rw [request_bay, modSpindle_bay]
    · rw [request, send, modSpindle_signals, latch_signals, attemptRaised_signals]
  · rw [if_neg again]
    have faulted := (s.attemptRaised b).faultBasic_faulted b .spinFail
    obtain ⟨l', n, after⟩ := faulted.bay
    obtain ⟨u, v, discarded, -, -, uCounters, -, -, -, -, vCounters, -⟩ := faulted.discarded
    refine ⟨?_, ?_, fun less => absurd less again, fun _ => ⟨?_, ?_, faulted.event .spinFail rfl, ?_⟩⟩
    · rw [after, bay]
    · rw [vCounters]
      rcases Nat.eq_zero_or_pos (u.queue.entriesOfBay b) with none | some
      · rw [(discarded.none none).1, uCounters, bay]
        simp
      · rw [(discarded.some some).1, uCounters, bay]
        have apart : CounterName.lostWrites.index.val ≠ CounterName.spinAttempts.index.val := by decide
        refine (Vector.getElem_set_ne (Fin.isLt _) (Fin.isLt _) apart).trans ?_
        exact Vector.getElem_set_self (Fin.isLt _)
    · rw [after]
    · rw [after]
    · rw [after, bay]
      exact off

end State

/-- Settles O36: the bay's state says where the confirmed stop leads. -/
theorem stopsAreConfirmed : Obligations.StopsAreConfirmed := by
  unfold Obligations.StopsAreConfirmed
  intro s b w
  dsimp only
  intro window fresh stopping second
  have counted := State.measurementComplete_counted (raw := .noEdge) rfl window fresh
  generalize recorded : s.recordReading b w .noEdge (s.classAt w .noEdge (nominalSpeed (s.bay b).record.typeCode)) = t at counted
  have spindle : (t.bay b).spindle = { (s.bay b).spindle with
      reading := 65535, speedClass := .stall, raw := .noEdge, window := none } := by rw [← recorded]; cases b <;> rfl
  have bay : t.bay b = { s.bay b with spindle := (t.bay b).spindle } := by rw [← recorded]; cases b <;> rfl
  have signals : t.signals = s.signals := by rw [← recorded]; cases b <;> rfl
  have settings : t.settings = s.settings := by rw [← recorded]; cases b <;> rfl
  have others : t.bay b.other = s.bay b.other := by rw [← recorded]; cases b <;> rfl
  have clock : t.clock = max s.clock (w.startAt + 65534) := by rw [← recorded]; cases b <;> rfl
  have latched (e : BayEvent) : (t.stopSeen b).latched b e = s.latched b e := by rw [← recorded]; cases b <;> rfl
  have ended : (t.bay b).spindle.attemptEnd = (s.bay b).spindle.attemptEnd := by rw [spindle]
  have pends : (t.bay b).spindle.pendingSpinUp = (s.bay b).spindle.pendingSpinUp := by rw [spindle]
  have meaning : exec (.measurementComplete b .noEdge) s = .next (t.spindleStopped b) := by
    have stall : t.readInStopping b .stall = t.spindleStopped b := by
      rw [State.readInStopping, if_pos rfl, if_pos (by rw [spindle]; exact second)]
    rw [counted, State.countReading, stopping]
    exact congrArg Host.Outcome.next stall
  have keeps := t.keepsReading_spindleStopped b
  have count := t.spindleStopped_count b
  have seen := t.stopSeen_bay b
  have seenSignals : (t.stopSeen b).signals = s.signals := (State.modSpindle_signals ..).trans signals
  have seenSettings : (t.stopSeen b).settings = s.settings := (State.modSpindle_settings ..).trans settings
  have record : ((t.stopSeen b).bay b).record = (s.bay b).record := by rw [seen, bay]
  have rest (none : (s.bay b).spindle.pendingSpinUp = false) : t.spindleStopped b =
      (t.stopSeen b).stopConfirmed b (s.bay b).spindle.attemptEnd := by
    rw [State.spindleStopped_rest (pends.trans none), ended]
  refine ⟨_, meaning, count.1, count.2, keeps.other.trans others, keeps.clock.trans clock, fun state none attempt => ?_,
    fun attempt pending state => ?_, fun none => ⟨?_, ?_, ?_, ?_, ?_⟩⟩
  · have counted : (t.stopSeen b).stopConfirmed b true = (t.stopSeen b).attemptCounted b := by
      rcases state with state | state <;> simp only [State.stopConfirmed, record, state, if_true]
    have ends := State.attemptCounted_ends (s := t.stopSeen b) (b := b) (by rw [seen])
    rw [seenSignals, seenSettings, record, seen, bay] at ends
    rw [rest none, attempt, counted]
    exact ends
  · have again : (((t.stopSeen b).modSpindle b fun x => { x with state := .waiting }).request b .spinUp).stopConfirmed b false =
        ((t.stopSeen b).modSpindle b fun x => { x with state := .waiting }).request b .spinUp := by
      have kept : ((((t.stopSeen b).modSpindle b fun x => { x with state := .waiting }).request b .spinUp).bay b).record =
          (s.bay b).record := by rw [State.request_bay, State.modSpindle_bay, record]
      rcases state with state | state <;> simp only [State.stopConfirmed, kept, state] <;> rfl
    rw [State.spindleStopped_again (pends.trans pending), ended, attempt, again, State.request_bay, State.modSpindle_bay]
    exact ⟨record, rfl, by rw [State.request, State.send, State.modSpindle_signals, seenSignals]⟩
  · intro state step kept eject
    have parks : (t.stopSeen b).stopConfirmed b (s.bay b).spindle.attemptEnd =
        ((t.stopSeen b).modRecord b fun r => { r with state := .parked, parkStep := .drain }).latch b .parked := by
      simp [State.stopConfirmed, record, state, step, kept, eject]
    rw [rest none, parks, State.latch_bay, State.modRecord_bay]
    exact ⟨rfl, (State.latched_latch _ b b .parked .parked).trans (by simp), by rw [seen], by rw [record], by rw [record], by rw [seen, bay]⟩
  · intro state step kept eject
    have parks : (t.stopSeen b).stopConfirmed b (s.bay b).spindle.attemptEnd =
        (((t.stopSeen b).modRecord b fun r => { r with state := .parked, parkStep := .drain }).latch b .parked).enterRelease b := by
      simp [State.stopConfirmed, record, state, step, kept, Option.isSome_iff_ne_none, eject]
    rw [rest none, parks, State.latched, State.enterRelease_bay, State.enterRelease_signals, State.latch_signals,
      State.modRecord_signals, seenSignals]
    exact ⟨(State.latched_latch _ b b .parked .parked).trans (by simp), rfl, rfl, rfl⟩
  · intro state step reset
    have empties : (t.stopSeen b).stopConfirmed b (s.bay b).spindle.attemptEnd = (t.stopSeen b).becomeEmpty b := by
      simp [State.stopConfirmed, record, state, step, reset]
    obtain ⟨r, empty, debounce, same⟩ := (t.stopSeen b).becomeEmpty_bay b
    rw [rest none, empties, State.becomeEmpty_latched, same]
    exact ⟨empty, by rw [debounce, seen, bay], latched _⟩
  · intro state phase
    have releases : (t.stopSeen b).stopConfirmed b (s.bay b).spindle.attemptEnd = (t.stopSeen b).enterRelease b := by
      simp [State.stopConfirmed, record, state, phase]
    rw [rest none, releases, State.enterRelease_bay, State.enterRelease_signals, seenSignals]
    exact ⟨rfl, by rw [seen], rfl⟩
  · intro state lost
    obtain ⟨r, empty, debounce, same⟩ := (t.stopSeen b).becomeEmpty_bay b
    rw [rest none, State.stopConfirmed_lost (record ▸ state) (record ▸ lost), same]
    exact ⟨empty, by rw [debounce, seen, bay]⟩

end Sys2Proof.Machine
end

section
/-! PROOFS. Where an eject enters its sequence (O25). -/

namespace Sys2Proof.Machine

namespace State

variable {s : State} {b : BayId}

/-! ### The phases of an eject (R160 to R162) -/

theorem enterUnload_moving (off : (s.bay b).act.state ≠ .unloaded) : ∃ a : Actuator, a.state = .unloading ∧ (s.enterUnload b).bay b =
    { s.bay b with record := { (s.bay b).record with state := .ejecting, phase := .unload }, act := a } := by
  obtain ⟨a, unloading, same⟩ := unloadHeads_moving_bay (s := s.modRecord b fun r => { r with state := .ejecting, phase := .unload }) (b := b)
    (by simpa using off)
  exact ⟨a, unloading, by rw [enterUnload, same, modRecord_bay]⟩

theorem enterSpindown_turning (off : (s.bay b).spindle.state ≠ .off) (waiting : (s.bay b).spindle.state ≠ .waiting) :
    ∃ x : Spindle, x.state = .stopping ∧ (s.enterSpindown b).bay b =
      { s.bay b with record := { (s.bay b).record with state := .ejecting, phase := .spindown }, spindle := x } := by
  obtain ⟨x, stopping, -, same⟩ := stopSpindle_turning_bay (s := s.modRecord b fun r => { r with state := .ejecting, phase := .spindown })
    (b := b) (by simpa using off) (by simpa using waiting)
  exact ⟨x, stopping, by rw [enterSpindown, same, modRecord_bay]⟩

theorem stopConfirmed_spindown (ejecting : (s.bay b).record.state = .ejecting) (phase : (s.bay b).record.phase = .spindown) (ended : Bool) :
    s.stopConfirmed b ended = s.enterRelease b := by
  simp only [stopConfirmed, ejecting]
  exact if_pos phase

theorem enterSpindown_off (off : (s.bay b).spindle.state = .off) :
    s.enterSpindown b = (s.modRecord b fun r => { r with state := .ejecting, phase := .spindown }).enterRelease b := by
  rw [enterSpindown, stopSpindle_off (by simpa using off), stopConfirmed_spindown (by simp) (by simp)]

theorem enterSpindown_waiting (waits : (s.bay b).spindle.state = .waiting) :
    s.enterSpindown b = (((s.modRecord b fun r => { r with state := .ejecting, phase := .spindown }).modSpindle b fun x =>
      { x with state := .off }).withdraw b .spinUp).enterRelease b := by
  rw [enterSpindown, stopSpindle_waiting (by simpa using waits), stopConfirmed_spindown (by simp) (by simp)]

/-- SPINDOWN ends at once in RELEASE with the spindle at rest (R161). -/
theorem enterSpindown_rest (rest : (s.bay b).spindle.state = .off ∨ (s.bay b).spindle.state = .waiting) :
    ((s.enterSpindown b).bay b).record = { (s.bay b).record with state := .ejecting, phase := .release, pulsing := false } := by
  rcases rest with off | waits
  · rw [enterSpindown_off off, enterRelease_bay, modRecord_bay]
  · rw [enterSpindown_waiting waits, enterRelease_bay, withdraw_bay, modSpindle_bay, modRecord_bay]

/-- The spindle on its way up is stopped, and its request withdrawn, before the bay is released (R157). -/
theorem ejectSpinning_waiting (spins : (s.bay b).record.state = .spinning ∨ (s.bay b).record.state = .cleaning)
    (waits : (s.bay b).spindle.state = .waiting) :
    s.ejectSpinning b = ((s.modSpindle b fun x => { x with state := .off }).withdraw b .spinUp).enterRelease b := by
  have unmoved : ((s.modSpindle b fun x => { x with state := .off }).withdraw b .spinUp).stopConfirmed b false =
      (s.modSpindle b fun x => { x with state := .off }).withdraw b .spinUp := by
    have record : (((s.modSpindle b fun x => { x with state := .off }).withdraw b .spinUp).bay b).record = (s.bay b).record := by
      rw [withdraw_bay, modSpindle_bay]
    rcases spins with state | state <;> simp only [stopConfirmed, record, state] <;> rfl
  rw [ejectSpinning, if_pos waits, stopSpindle_waiting waits, unmoved]

theorem ejectSpinning_turning (waits : (s.bay b).spindle.state ≠ .waiting) : s.ejectSpinning b = s.enterSpindown b := if_neg waits

/-! ### The eject started (R157) -/

/-- The state with the eject record set up. -/
def ejectRecorded (s : State) (b : BayId) (o : EjectOrigin) : State :=
  s.modRecord b fun r => { r with eject := some { origin := o, pulse := 1, saveMarker := false }, resetPark := false }

theorem ejectRecorded_bay (s : State) (b : BayId) (o : EjectOrigin) : (s.ejectRecorded b o).bay b = { s.bay b with
    record := { (s.bay b).record with eject := some { origin := o, pulse := 1, saveMarker := false }, resetPark := false } } :=
  modRecord_bay ..

theorem startEject_working {o : EjectOrigin} (works : (s.bay b).record.state = .ready ∨ (s.bay b).record.state = .raw) :
    s.startEject b o = ((s.ejectRecorded b o).modRecord b fun r => { r with state := .ejecting, phase := .drain }).checkDrain b := by
  rcases works with state | state <;> simp only [startEject, modRecord_bay, state] <;> rfl

theorem startEject_standing {o : EjectOrigin} (stands : (s.bay b).record.state = .inserted ∨ (s.bay b).record.state = .parked) :
    s.startEject b o = (s.ejectRecorded b o).enterRelease b := by
  rcases stands with state | state <;> simp only [startEject, modRecord_bay, state] <;> rfl

theorem startEject_spinning {o : EjectOrigin} (spins : (s.bay b).record.state = .spinning ∨ (s.bay b).record.state = .cleaning)
    (rises : (s.bay b).spindle.state = .waiting ∨ (s.bay b).spindle.state = .accel ∨ (s.bay b).spindle.state = .stopping) :
    s.startEject b o = (s.ejectRecorded b o).ejectSpinning b := by
  rcases spins with state | state <;> simp only [startEject, modRecord_bay, state]
  · rfl
  · rw [if_pos rises]
    rfl

theorem startEject_loading {o : EjectOrigin} (loads : (s.bay b).record.state = .loading ∨ (s.bay b).record.state = .mounting) :
    s.startEject b o = ((s.ejectRecorded b o).dropMedia b).enterUnload b := by
  rcases loads with state | state <;> simp only [startEject, modRecord_bay, state] <;> rfl

theorem startEject_cleaning {o : EjectOrigin} (cleans : (s.bay b).record.state = .cleaning)
    (runs : ¬ ((s.bay b).spindle.state = .waiting ∨ (s.bay b).spindle.state = .accel ∨ (s.bay b).spindle.state = .stopping)) :
    s.startEject b o = (s.ejectRecorded b o).enterUnload b := by
  simp only [startEject, modRecord_bay, cleans]
  exact if_neg runs

theorem startEject_halted {o : EjectOrigin} (halted : (s.bay b).record.state = .halted) :
    s.startEject b o = (s.ejectRecorded b o).enterSpindown b := by
  simp only [startEject, modRecord_bay, halted]
  rfl

/-- The state of a bay in FAULT with the eject record set up and the cause set to none (R157). -/
def faultCleared (s : State) (b : BayId) (o : EjectOrigin) : State := (s.ejectRecorded b o).modRecord b fun r => { r with cause := .none }

theorem faultCleared_bay (s : State) (b : BayId) (o : EjectOrigin) : (s.faultCleared b o).bay b = { s.bay b with
    record := { (s.bay b).record with eject := some { origin := o, pulse := 1, saveMarker := false }, resetPark := false, cause := .none } } := by
  rw [faultCleared, modRecord_bay, ejectRecorded_bay]

theorem startEject_fault {o : EjectOrigin} (fault : (s.bay b).record.state = .fault) : s.startEject b o =
    if (s.bay b).act.state ≠ .unloaded then (s.faultCleared b o).enterUnload b
    else if (s.bay b).spindle.state ≠ .off then (s.faultCleared b o).enterSpindown b
    else (s.faultCleared b o).enterRelease b := by
  simp only [startEject, modRecord_bay, fault]
  rfl

/-- The drain of an eject with all its work done saves a dirty table first, and unloads otherwise (R158). -/
theorem checkDrain_ejecting (drained : s.queue.drained b = true) (slot : (s.bay b).slot.mediaWork = false) (op : (s.bay b).media.op = none)
    (ejecting : (s.bay b).record.state = .ejecting) (phase : (s.bay b).record.phase = .drain)
    (unsaved : (s.bay b).record.eject.any (fun e => e.saveMarker) = false) :
    s.checkDrain b = if (s.bay b).map.dirty then
        (s.modRecord b fun r => { r with eject := r.eject.map fun e => { e with saveMarker := true } }).modMedia b
          fun m => { m with custody := some .labelSave, saveFailures := 0 }
      else s.enterUnload b := by
  simp only [checkDrain]
  rw [if_pos ⟨drained, slot, op⟩]
  simp only [ejecting]
  exact if_pos ⟨phase, unsaved⟩

end State

/-- Settles O25: the entry phase by the state of the bay, and then of its heads and spindle. -/
theorem ejectEntryPhases : Obligations.EjectEntryPhases := by
  unfold Obligations.EjectEntryPhases
  intro s b o
  dsimp only
  have recorded := s.ejectRecorded_bay b o
  refine ⟨fun works => ⟨fun busy => ?_, fun ⟨drained, slot, op⟩ dirty => ?_, fun ⟨drained, slot, op⟩ clean off => ?_⟩, fun parking => ?_,
    fun stands => ?_, fun spins => ⟨fun waits => ?_, fun turns => ?_⟩, fun loads off => ?_, fun cleans runs off => ?_,
    fun halted => ⟨fun stopping => ?_, fun rest => ?_⟩, fun fault => ⟨?_, fun off => ?_, fun on stopping => ?_, fun on rest => ?_⟩⟩
  · have waits : ((s.ejectRecorded b o).modRecord b fun r => { r with state := .ejecting, phase := .drain }).checkDrain b =
        (s.ejectRecorded b o).modRecord b fun r => { r with state := .ejecting, phase := .drain } := by
      rw [State.checkDrain]
      exact if_neg (by rw [State.modRecord_bay, recorded]; simpa [State.ejectRecorded] using busy)
    rw [State.startEject_working works, waits, State.modRecord_bay, recorded]
    exact ⟨⟨rfl, rfl, rfl⟩, by cases b <;> rfl⟩
  · rw [State.startEject_working works, State.checkDrain_ejecting (by simpa [State.ejectRecorded] using drained)
      (by simpa [recorded] using slot) (by simpa [recorded] using op) (by simp) (by simp) (by simp [recorded]),
      if_pos (by simpa [recorded] using dirty)]
    simp [recorded]
  · rw [State.startEject_working works, State.checkDrain_ejecting (by simpa [State.ejectRecorded] using drained)
      (by simpa [recorded] using slot) (by simpa [recorded] using op) (by simp) (by simp) (by simp [recorded]),
      if_neg (by simpa [recorded] using clean)]
    obtain ⟨a, unloading, bay⟩ := State.enterUnload_moving (s := (s.ejectRecorded b o).modRecord b fun r =>
      { r with state := .ejecting, phase := .drain }) (b := b) (by simpa [recorded] using off)
    rw [bay, State.modRecord_bay, recorded]
    exact ⟨⟨rfl, rfl, rfl⟩, unloading⟩
  · simp only [State.startEject, State.modRecord_bay, parking]
  · rw [State.startEject_standing stands, State.enterRelease_bay, State.enterRelease_signals, recorded]
    exact ⟨⟨rfl, rfl, rfl⟩, by rw [State.ejectRecorded, State.modRecord_signals]⟩
  · rw [State.startEject_spinning spins (.inl waits), State.ejectSpinning_waiting (by simpa [recorded] using spins)
      (by simpa [recorded] using waits), State.enterRelease_bay, State.enterRelease_signals, State.withdraw_bay, State.modSpindle_bay, recorded]
    exact ⟨⟨rfl, rfl, rfl⟩, rfl, by simp [State.withdraw, State.send, State.ejectRecorded]⟩
  · have waits : ((s.ejectRecorded b o).bay b).spindle.state ≠ .waiting := by
      rw [recorded]
      rcases turns with h | h <;> simp [h]
    obtain ⟨x, stopping, bay⟩ := State.enterSpindown_turning (s := s.ejectRecorded b o) (b := b)
      (by rw [recorded]; rcases turns with h | h <;> simp [h]) waits
    rw [State.startEject_spinning spins (.inr turns), State.ejectSpinning_turning waits, bay, recorded]
    exact ⟨⟨rfl, rfl, rfl⟩, stopping⟩
  · obtain ⟨a, unloading, bay⟩ := State.enterUnload_moving (s := (s.ejectRecorded b o).dropMedia b) (b := b)
      (by simpa [State.dropMedia, recorded] using off)
    rw [State.startEject_loading loads, bay, State.dropMedia, State.modMedia_bay, recorded]
    exact ⟨⟨rfl, rfl, rfl⟩, unloading, rfl, rfl, rfl⟩
  · have turns : ¬ ((s.bay b).spindle.state = .waiting ∨ (s.bay b).spindle.state = .accel ∨ (s.bay b).spindle.state = .stopping) := by
      simp only [List.mem_cons, List.not_mem_nil, or_false] at runs
      rcases runs with h | h | h <;> simp [h]
    obtain ⟨a, unloading, bay⟩ := State.enterUnload_moving (s := s.ejectRecorded b o) (b := b) (by simpa [recorded] using off)
    have steers : State.Steers b s ((s.ejectRecorded b o).enterUnload b) := ((State.Steers.refl b s).modRecord _).enterUnload
    rw [State.startEject_cleaning cleans turns, bay, recorded]
    exact ⟨⟨rfl, rfl, rfl⟩, unloading, steers.latched (by decide)⟩
  · obtain ⟨x, state, bay⟩ := State.enterSpindown_turning (s := s.ejectRecorded b o) (b := b)
      (by simp [recorded, stopping]) (by simp [recorded, stopping])
    rw [State.startEject_halted halted, bay, recorded]
    exact ⟨⟨rfl, rfl, rfl⟩, state⟩
  · rw [State.startEject_halted halted, State.enterSpindown_rest (.inl (by simpa [recorded] using rest)), recorded]
    exact ⟨rfl, rfl, rfl⟩
  · have cleared := s.faultCleared_bay b o
    rw [State.startEject_fault fault]
    split
    · rename_i off
      obtain ⟨a, -, bay⟩ := State.enterUnload_moving (s := s.faultCleared b o) (b := b) (by simpa [cleared] using off)
      rw [bay, cleared]
    · split
      · by_cases waits : (s.bay b).spindle.state = .waiting
        · rw [State.enterSpindown_rest (.inr (by simpa [cleared] using waits)), cleared]
        · rename_i turns
          obtain ⟨x, -, bay⟩ := State.enterSpindown_turning (s := s.faultCleared b o) (b := b) (by simpa [cleared] using turns)
            (by simpa [cleared] using waits)
          rw [bay, cleared]
      · rw [State.enterRelease_bay, cleared]
  · have cleared := s.faultCleared_bay b o
    obtain ⟨a, unloading, bay⟩ := State.enterUnload_moving (s := s.faultCleared b o) (b := b) (by simpa [cleared] using off)
    rw [State.startEject_fault fault, if_pos off, bay, cleared]
    exact ⟨⟨rfl, rfl, rfl⟩, unloading⟩
  · have cleared := s.faultCleared_bay b o
    obtain ⟨x, -, bay⟩ := State.enterSpindown_turning (s := s.faultCleared b o) (b := b) (by simp [cleared, stopping])
      (by simp [cleared, stopping])
    rw [State.startEject_fault fault, if_neg (by simp [on]), if_pos (by simp [stopping]), bay, cleared]
    exact ⟨rfl, rfl, rfl⟩
  · have cleared := s.faultCleared_bay b o
    rw [State.startEject_fault fault, if_neg (by simp [on]), if_neg (by simp [rest]), State.enterRelease_bay, cleared]
    exact ⟨rfl, rfl, rfl⟩

end Sys2Proof.Machine
end

section
/-! PROOFS. The release of the cartridge (O26). -/

namespace Sys2Proof.Machine

namespace State

variable {s : State} {b : BayId}

/-- What a removal leaves does not depend on the bay's record before it (R163). -/
theorem removed_modRecord (absent : (s.bay b).pins.present = false) (f : BayRecord → BayRecord) :
    (s.modRecord b f).removed b = s.removed b := by
  rw [removed_absent absent, removed_absent (by simpa using absent), modRecord_bay]
  split <;> cases b <;> rfl

/-- A removal, written with the bay as it stood when its slot was last seen (R163). -/
theorem removed_of_bay {y : Bay} (absent : (s.bay b).pins.present = false) (slot : (s.bay b).slot = y.slot) : s.removed b =
    ((if y.slot.state = .inProgress ∧ y.slot.request = some .eject then
        (s.modSlot b fun x => { x with state := .done, result := .done, next := 1 }).latch b .resultReady
      else s).latch b .ejected).modRecord b fun _ => {} := by
  rw [removed_absent absent, slot]

end State

/-- Settles O26: the grant's check, the end of the pulse, and the end of the wait. -/
theorem releaseSequence : Obligations.ReleaseSequence := by
  unfold Obligations.ReleaseSequence
  intro s b
  dsimp only
  rw [exec_solenoidGrant, exec_solenoidPulseEnd, exec_solenoidPulseEnd, exec_removalTimeout]
  refine ⟨fun level early late under state phase still => ?_, fun state phase pulsing => ⟨?_, ?_⟩,
    fun state phase => ⟨fun absent => ?_, fun present e eject first => ?_, fun present e eject second => ?_⟩⟩
  · rw [execSolenoidGrant, State.takeGrant_wanted under (decide_eq_true ⟨state, phase, still⟩)]
    have bay : ({ s with signals := early ++ late } : State).bay b = s.bay b := by cases b <;> rfl
    rw [bay]
    refine ⟨fun on off drained => ?_, fun off => ?_, fun on stopping => ?_⟩
    · rw [if_neg (by simp [on]), if_neg (by simp [off, drained])]
    · rw [if_pos off]
      obtain ⟨a, -, same⟩ := State.enterUnload_moving (s := ({ s with signals := early ++ late } : State).release b .solenoid) (b := b)
        (by rw [State.release_bay, bay]; exact off)
      have steers := (State.Steers.refl b (({ s with signals := early ++ late } : State).release b .solenoid)).enterUnload
      rw [State.release_bay, bay] at same
      exact ⟨_, rfl, by rw [same], by rw [same]; exact still, steers.sent (by simp [State.release, State.send])⟩
    · rw [if_neg (by simp [on]), if_pos (by simp [stopping])]
      obtain ⟨x, -, same⟩ := State.enterSpindown_turning (s := ({ s with signals := early ++ late } : State).release b .solenoid) (b := b)
        (by rw [State.release_bay, bay, stopping]; decide) (by rw [State.release_bay, bay, stopping]; decide)
      have steers := (State.Steers.refl b (({ s with signals := early ++ late } : State).release b .solenoid)).enterSpindown
      rw [State.release_bay, bay] at same
      exact ⟨_, rfl, by rw [same], by rw [same]; exact still, steers.sent (by simp [State.release, State.send])⟩
  · rw [execSolenoidPulseEnd, if_pos ⟨state, phase, pulsing⟩]
    cases b <;> rfl
  · rw [execSolenoidPulseEnd, if_pos ⟨state, phase, pulsing⟩]
    dsimp only
    rw [if_neg Bool.false_ne_true, State.removed_modRecord (by simp), State.removed_of_bay (y := s.bay b) (by simp) (by cases b <;> rfl)]
    rfl
  · have bay : (s.clockTo ((s.bay b).record.removalAt + Config.removalTime)).bay b = s.bay b := by cases b <;> rfl
    rw [execRemovalTimeout, if_pos ⟨state, phase⟩]
    dsimp only
    rw [bay, if_pos absent, State.removed_of_bay (y := s.bay b) (by rw [bay]; exact absent) (by rw [bay])]
    rfl
  · have bay : (s.clockTo ((s.bay b).record.removalAt + Config.removalTime)).bay b = s.bay b := by cases b <;> rfl
    rw [execRemovalTimeout, if_pos ⟨state, phase⟩]
    dsimp only
    rw [bay, if_neg (by simp [present]), if_neg (by simp [eject, first])]
    rw [State.enterRelease, State.modRecord_modRecord]
    refine congrArg (fun u => Host.Outcome.next (State.request u b .solenoid 0)) (State.modRecord_congr ?_)
    rw [bay, eject, state]
    rfl
  · have bay : (s.clockTo ((s.bay b).record.removalAt + Config.removalTime)).bay b = s.bay b := by cases b <;> rfl
    rw [execRemovalTimeout, if_pos ⟨state, phase⟩]
    dsimp only
    rw [bay, if_neg (by simp [present]), if_pos (by simp [eject, second]),
      State.faultReport_enters (by rw [bay, state]; decide)]
    have faulted := (s.clockTo ((s.bay b).record.removalAt + Config.removalTime)).faultBasic_faulted b .ejectJam
    obtain ⟨l, n, after⟩ := faulted.bay
    rw [bay] at after
    exact ⟨State.faultBasic _ b .ejectJam, rfl, by rw [after], by rw [after], by rw [after], faulted.event .ejectJam rfl,
      faulted.within.other.trans (by cases b <;> rfl), by rw [after]; rfl⟩

end Sys2Proof.Machine
end

section
/-! PROOFS. The rise of SUPPLY GOOD and the end of the hold (O27). -/

namespace Sys2Proof.Machine

theorem State.Steers.startSpinning {b : BayId} {s t : State} (h : State.Steers b s t) (n : BayState) :
    State.Steers b s (t.startSpinning b n) := by
  simp only [State.startSpinning]
  split
  · exact h.modRecord _
  · exact (h.modRecord _).spinUp

theorem State.Steers.leaveHalted {b : BayId} {s t : State} (h : State.Steers b s t) : State.Steers b s (t.leaveHalted b) := by
  simp only [State.leaveHalted]
  split
  · split
    · exact h.enterSpindown
    · exact (h.modRecord _).startSpinning _
  · exact h

/-- The record of a HALTED bay as it starts to spin again (R16). -/
def BayRecord.restart (r : BayRecord) : BayRecord :=
  { r with state := if r.typeCode = 3 then .cleaning else .spinning, attempts := 0, trips := 0, sweepOut := false, resetPark := false,
           standing := if r.resetPark then .none else r.standing }

/-- How a bay has left HALTED, if it stood there (R16): seen from the bay as it stood. -/
structure State.LeftHalted (b : BayId) (y : Bay) (t : State) : Prop where
  stands : y.record.state ≠ .halted → t.bay b = y
  spins : y.record.state = .halted → y.record.phase ≠ .spindown →
    (t.bay b).record.state = (if y.record.typeCode = 3 then .cleaning else .spinning) ∧ (t.bay b).record.attempts = 0 ∧
    (t.bay b).record.trips = 0 ∧ (t.bay b).record.lock = y.record.lock ∧ (t.bay b).record.typeCode = y.record.typeCode ∧
    (t.bay b).map = y.map ∧
    (y.spindle.state = .off → (t.bay b).spindle.state = .waiting ∧ Signal.request b .spinUp 0 ∈ t.signals) ∧
    (y.spindle.state = .stopping →
      (t.bay b).spindle = { y.spindle with pendingSpinUp := true, nominal := nominalSpeed y.record.typeCode })
  brakes : y.record.state = .halted → y.record.phase = .spindown → y.spindle.state = .stopping →
    (t.bay b).record = { y.record with state := .ejecting } ∧ (t.bay b).spindle.state = .stopping
  releases : y.record.state = .halted → y.record.phase = .spindown → y.spindle.state = .off →
    (t.bay b).record = { y.record with state := .ejecting, phase := .release, pulsing := false } ∧
    Signal.request b .solenoid 0 ∈ t.signals

namespace State

variable {s t : State} {b : BayId} {y : Bay}

/-- What came of a bay stays so while other notices are sent. -/
theorem LeftHalted.later (h : LeftHalted b y s) (bay : t.bay b = s.bay b) (signals : ∃ more, t.signals = s.signals ++ more) :
    LeftHalted b y t := by
  obtain ⟨more, sent⟩ := signals
  have mem {x : Signal} (early : x ∈ s.signals) : x ∈ t.signals := sent ▸ List.mem_append_left _ early
  refine ⟨fun other => bay.trans (h.stands other), fun halted phase => ?_, fun halted phase stopping => ?_, fun halted phase off => ?_⟩
  · obtain ⟨state, attempts, trips, lock, code, map, off, stopping⟩ := h.spins halted phase
    rw [bay]
    exact ⟨state, attempts, trips, lock, code, map, fun rest => ⟨(off rest).1, mem (off rest).2⟩, stopping⟩
  · rw [bay]
    exact h.brakes halted phase stopping
  · rw [bay]
    exact ⟨(h.releases halted phase off).1, mem (h.releases halted phase off).2⟩


theorem leaveHalted_spinning (powered : s.budget.supply ≠ .low) (halted : (s.bay b).record.state = .halted)
    (phase : (s.bay b).record.phase ≠ .spindown) : s.leaveHalted b = (s.modRecord b BayRecord.restart).spinUp b := by
  simp only [leaveHalted]
  rw [if_pos halted, if_neg phase, startSpinning_powered (by simpa using powered), modRecord_modRecord]
  exact congrArg (spinUp · b) (modRecord_congr rfl)

theorem leaveHalted_left (powered : s.budget.supply ≠ .low) : LeftHalted b (s.bay b) (s.leaveHalted b) := by
  refine ⟨fun other => ?_, fun halted phase => ?_, fun halted phase stopping => ?_, fun halted phase off => ?_⟩
  · simp only [leaveHalted]
    rw [if_neg other]
  · rw [leaveHalted_spinning powered halted phase]
    generalize restarted : s.modRecord b BayRecord.restart = t
    have bay : t.bay b = { s.bay b with record := (s.bay b).record.restart } := by rw [← restarted]; exact modRecord_bay ..
    have record := t.spinUp_record b
    have map : ((t.spinUp b).bay b).map = (t.bay b).map := (Steers.refl b t).spinUp.map
    rw [record, map, bay]
    refine ⟨rfl, rfl, rfl, rfl, rfl, rfl, fun off => ?_, fun stopping => ?_⟩
    · rw [spinUp_off (by rw [bay]; exact off), request_bay, modSpindle_bay]
      exact ⟨rfl, by simp [request, send]⟩
    · have pends : t.spinUp b = t.modSpindle b fun x => { x with pendingSpinUp := true, nominal := nominalSpeed (t.bay b).record.typeCode } := by
        have stops : (t.bay b).spindle.state = .stopping := by rw [bay]; exact stopping
        simp only [spinUp, stops]
      rw [pends, modSpindle_bay, bay]
      rfl
  · have enters : s.leaveHalted b = s.enterSpindown b := by
      simp only [leaveHalted]
      rw [if_pos halted, if_pos phase]
    obtain ⟨x, state, bay⟩ := enterSpindown_turning (s := s) (b := b) (by simp [stopping]) (by simp [stopping])
    rw [enters, bay, ← phase]
    exact ⟨rfl, state⟩
  · have enters : s.leaveHalted b = s.enterSpindown b := by
      simp only [leaveHalted]
      rw [if_pos halted, if_pos phase]
    rw [enters, enterSpindown_rest (.inl off), enterSpindown_off off]
    exact ⟨rfl, by simp [enterRelease, request, send]⟩

/-! ### The end of the hold (R33) -/

/-- The state at the end of a hold, before the bays leave HALTED. -/
def holdEnded (s : State) : State :=
  { s with clock := max s.clock ((s.budget.holdTimer.getD s.clock) + 2000000)
           events := if s.budget.powerOnHold then s.events else s.events ||| 4#5
           budget := { s.budget with supply := .good, powerOnHold := false, holdTimer := none } }

theorem holdEnded_bay (s : State) (c : BayId) : s.holdEnded.bay c = s.bay c := by cases c <;> rfl
theorem holdEnded_budget (s : State) : s.holdEnded.budget = { s.budget with supply := .good, powerOnHold := false, holdTimer := none } := rfl
theorem holdEnded_events (s : State) : s.holdEnded.events = if s.budget.powerOnHold then s.events else s.events ||| 4#5 := rfl
theorem holdEnded_queue (s : State) : s.holdEnded.queue = s.queue := rfl
theorem holdEnded_clock (s : State) : s.holdEnded.clock = max s.clock ((s.budget.holdTimer.getD s.clock) + 2000000) := rfl

/-- The end of a hold, taken in HOLDING. -/
theorem execHoldEnd_holding (holding : s.budget.supply = .holding) :
    execHoldEnd s = .next (((s.holdEnded.leaveHalted .bayA).leaveHalted .bayB).putBudget
      ((s.holdEnded.leaveHalted .bayA).leaveHalted .bayB).budget.examine) := by
  rw [execHoldEnd, if_pos holding, holdEnded]
  dsimp only [clockTo]
  by_cases hold : s.budget.powerOnHold = true
  · rw [if_pos hold, if_pos hold]
    rfl
  · rw [if_neg hold, if_neg hold]
    rfl

end State

/-- Settles O27: the rise starts the hold; its end leaves the budget GOOD, and each bay leaves HALTED by itself. -/
theorem supplyRisesAndHoldEnds : Obligations.SupplyRisesAndHoldEnds := by
  unfold Obligations.SupplyRisesAndHoldEnds
  intro s
  rw [exec_supplyGoodRises, exec_holdEnd, execSupplyGoodRises]
  refine ⟨fun low => if_pos low, fun other => if_neg other, fun other => if_neg other, fun holding => ?_⟩
  have good := s.holdEnded_budget
  have powered : s.holdEnded.budget.supply ≠ .low := by simp [good]
  have poweredB : (s.holdEnded.leaveHalted .bayA).budget.supply ≠ .low := by
    rw [(State.Steers.refl .bayA s.holdEnded).leaveHalted.budget]; exact powered
  have steersA := (State.Steers.refl .bayA s.holdEnded).leaveHalted
  have steersB := (State.Steers.refl .bayB (s.holdEnded.leaveHalted .bayA)).leaveHalted
  have budget := steersB.budget.trans (steersA.budget.trans good)
  have bays (c : BayId) : s.holdEnded.bay c = s.bay c := s.holdEnded_bay c
  refine ⟨_, State.execHoldEnd_holding holding, ?_, ?_, ?_, fun start timer => ?_, fun b => ?_⟩
  · exact congrArg (fun u => Prod.fst (Budget.examine u)) budget
  · exact steersB.events.trans (steersA.events.trans s.holdEnded_events)
  · exact steersB.queue.trans (steersA.queue.trans s.holdEnded_queue)
  · refine steersB.clock.trans (steersA.clock.trans (s.holdEnded_clock.trans ?_))
    rw [timer]
    rfl
  · have left : State.LeftHalted b (s.bay b) (((s.holdEnded.leaveHalted .bayA).leaveHalted .bayB).putBudget
        ((s.holdEnded.leaveHalted .bayA).leaveHalted .bayB).budget.examine) := by
      cases b with
      | bayA =>
        have here := State.leaveHalted_left (b := .bayA) powered
        rw [bays] at here
        exact (here.later steersB.other steersB.signals).later rfl ⟨_, rfl⟩
      | bayB =>
        have here := State.leaveHalted_left (b := .bayB) poweredB
        rw [show (s.holdEnded.leaveHalted .bayA).bay .bayB = s.bay .bayB from steersA.other.trans (bays .bayB)] at here
        exact here.later rfl ⟨_, rfl⟩
    exact ⟨left.stands, left.spins, left.brakes, left.releases⟩

end Sys2Proof.Machine
end

section
/-! PROOFS. Supply loss (O28). -/

namespace Sys2Proof.Machine

theorem BayRecord.halts_iff (r : BayRecord) : r.halts = true ↔
    r.state ∈ [BayState.spinning, .loading, .mounting, .ready, .raw, .cleaning, .parking] ∨
      (r.state = .ejecting ∧ r.phase ∈ [EjectPhase.drain, .unload, .spindown]) := by
  cases state : r.state <;> simp [BayRecord.halts, state]

/-- The record of a bay at supply loss (R15, R165). -/
def BayRecord.loseSupply (r : BayRecord) : BayRecord :=
  if r.halts then
    { r with state := .halted, phase := if r.state = .ejecting then .spindown else .none, parkStep := .drain,
             eject := if r.state = .ejecting then r.eject else none }
  else if r.state = .ejecting ∧ r.phase = .release then { r with pulsing := false }
  else r

/-- The slot of a bay at supply loss: the request of a bay that halts has ended (R15, R151). -/
def Bay.slotAtLoss (y : Bay) : Slot :=
  if y.record.halts = true ∧ y.slot.state = .inProgress then
    { y.slot with state := .done, result := .supplyLoss, staged := 0, next := 1 }
  else y.slot

/-- The actuator after the hardware retract (R91). -/
def Actuator.retracted (x : Actuator) : Actuator :=
  { x.endPlan .abandoned with
    state := .unloaded, unloadFailed := false, unloadMoving := false, cylinder := none, loadAttempt := none
    seek := none, recal := .idle, recalForLoad := false }

/-- The pins of a bay after the hardware retract: the firings counted (R91). -/
def Bay.pinsAtLoss (y : Bay) : BayPins :=
  if y.act.state = .unloaded ∧ y.act.unloadFailed = false then y.pins else { y.pins with retractFired := y.pins.retractFired + 1 }

/-- A bay at supply loss, but for its latches and counters. -/
def Bay.loseSupply (y : Bay) : Bay :=
  { y with pins := y.pinsAtLoss, record := y.record.loseSupply, spindle := y.spindle.loseSupply, act := y.act.retracted
           media := { y.media with state := .idle, op := none, custody := none, saveFailures := 0 }
           slot := y.slotAtLoss }

namespace State

variable {s t : State} {b : BayId}

theorem retract_eq (s : State) (b : BayId) : s.retract b =
    ({ s with signals := s.signals.filter fun z => z ≠ Signal.atStop b } : State).modBay b fun y =>
      { y with pins := (s.bay b).pinsAtLoss, act := y.act.retracted } := by
  by_cases rest : (s.bay b).act.state = .unloaded ∧ (s.bay b).act.unloadFailed = false
  · simp only [retract, Bay.pinsAtLoss]
    rw [if_pos rest, if_pos rest]
    cases b <;> rfl
  · simp only [retract, Bay.pinsAtLoss]
    rw [if_neg rest, if_neg rest]
    cases b <;> rfl

/-- The events a supply loss has latched stay so in every bay (R173). -/
theorem unitLatched_discard {e : UnitEvent} (set : s.unitLatched e = true) : (s.discard b).unitLatched e = true := by
  have appended (t : State) (r : FaultRecord) (held : t.unitLatched e = true) : (t.appendFault r).unitLatched e = true := by
    unfold appendFault
    split
    · dsimp only
      split
      · rw [unitLatched_latchUnit]
        exact (Bool.or_eq_true ..).mpr (.inr held)
      · exact held
    · exact held
  have raised (t : State) (n : CounterName) (k : Nat) (held : t.unitLatched e = true) : (t.raise b n k).unitLatched e = true := by
    obtain ⟨c, l, same⟩ := t.raise_frame b n k
    rw [same, unitLatched, modBay_events]
    exact held
  unfold discard
  dsimp only
  split
  · exact set
  · rw [unitLatched, latch_events]
    exact appended _ _ (raised _ _ _ set)

end State

/-- A state whose bay has met supply loss (R15, R58, R91). -/
structure State.LostSupply (b : BayId) (s t : State) : Prop where
  within  : State.Within b s t
  bay     : ∃ l c, t.bay b = { (s.bay b).loseSupply with latches := l, counters := c }
  items   : t.queue.items = if (s.bay b).record.halts then s.queue.items.filter (fun i => i.bay ≠ b) else s.queue.items
  events  : ∀ e, s.unitLatched e = true → t.unitLatched e = true
  signals : ∀ x ∈ s.signals, x ≠ .atStop b → x ∈ t.signals
  asks    : (s.bay b).record.state = .ejecting → (s.bay b).record.phase = .release → Signal.request b .solenoid 0 ∈ t.signals

namespace State

variable {s t : State} {b : BayId}

theorem loseSupplyIn_lost (s : State) (b : BayId) : LostSupply b s (s.loseSupplyIn b) := by
  have parts : ((s.retract b).modSpindle b Spindle.loseSupply).dropMedia b =
      ({ s with signals := s.signals.filter fun z => z ≠ Signal.atStop b } : State).modBay b fun y => { y with
        pins := (s.bay b).pinsAtLoss, spindle := y.spindle.loseSupply, act := y.act.retracted
        media := { y.media with state := .idle, op := none, custody := none, saveFailures := 0 } } := by
    rw [retract_eq]
    cases b <;> rfl
  generalize before : (((s.retract b).modSpindle b Spindle.loseSupply).dropMedia b) = u at parts
  have bay : u.bay b = { s.bay b with
      pins := (s.bay b).pinsAtLoss, spindle := (s.bay b).spindle.loseSupply, act := (s.bay b).act.retracted
      media := { (s.bay b).media with state := .idle, op := none, custody := none, saveFailures := 0 } } := by
    rw [parts]
    cases b <;> rfl
  have record : (u.bay b).record = (s.bay b).record := by rw [bay]
  have within : Within b s (s.loseSupplyIn b) := by simp
  have queue : u.queue = s.queue := by rw [parts, modBay_queue]
  have events : u.events = s.events := by rw [parts, modBay_events]
  have signals : u.signals = s.signals.filter fun z => z ≠ Signal.atStop b := by
    rw [parts, modBay_signals]
  have mem {x : Signal} (sent : x ∈ s.signals) (other : x ≠ .atStop b) : x ∈ u.signals := by
    rw [signals]
    exact List.mem_filter.2 ⟨sent, by simpa using other⟩
  have same : (((s.retract b).modSpindle b Spindle.loseSupply).bay b).record = (s.bay b).record := by
    rw [modSpindle_bay, retract_eq, modBay_bay]
    cases b <;> rfl
  by_cases halts : (s.bay b).record.halts = true
  · generalize entered : u.modRecord b BayRecord.loseSupply = v
    have meaning : s.loseSupplyIn b = (v.discard b).endSlot b .supplyLoss := by
      have record' : (u.modRecord b BayRecord.loseSupply) = u.modRecord b fun r => { r with
          state := .halted, phase := if (decide ((s.bay b).record.state = .ejecting)) = true then .spindown else .none
          parkStep := .drain
          eject := if (decide ((s.bay b).record.state = .ejecting)) = true then r.eject else none } := by
        refine modRecord_congr ?_
        rw [record, BayRecord.loseSupply, if_pos halts]
        simp only [decide_eq_true_eq]
      simp only [loseSupplyIn, haltBay, same]
      rw [if_pos halts, before, ← record', entered]
    have bayV : v.bay b = { u.bay b with record := (s.bay b).record.loseSupply } := by
      rw [← entered, modRecord_bay, record]
    have discarded := v.discard_discarded b
    obtain ⟨l, c, bayD⟩ := discarded.bay
    obtain ⟨l', ended⟩ := (v.discard b).endSlot_bay b .supplyLoss
    obtain ⟨x, lE, frame⟩ := (v.discard b).endSlot_frame b .supplyLoss
    rw [meaning]
    refine ⟨meaning ▸ within, ⟨l', c, ?_⟩, ?_, fun e set => ?_, fun x sent other => ?_, fun state phase => ?_⟩
    · rw [ended, bayD, bayV, bay]
      simp only [Bay.loseSupply, Bay.slotAtLoss, halts, true_and]
    · rw [if_pos halts, frame, modBay_queue, discarded.queue, ← entered, modRecord_queue, queue]
    · rw [frame, unitLatched, modBay_events]
      refine unitLatched_discard ?_
      rw [← entered, unitLatched, modRecord_events, events]
      exact set
    · rw [frame, modBay_signals, discarded.signals, ← entered, modRecord_signals]
      exact mem sent other
    · exact absurd halts (by simp [BayRecord.halts, state, phase])
  · by_cases releases : (s.bay b).record.state = .ejecting ∧ (s.bay b).record.phase = .release
    · have meaning : s.loseSupplyIn b = u.enterRelease b := by
        simp only [loseSupplyIn, haltBay, same]
        rw [if_neg halts, if_pos releases, before]
      rw [meaning]
      refine ⟨meaning ▸ within, ⟨(s.bay b).latches, (s.bay b).counters, ?_⟩, ?_, fun e set => ?_, fun x sent other => ?_, fun _ _ => ?_⟩
      · rw [enterRelease_bay, bay]
        simp only [Bay.loseSupply, Bay.slotAtLoss, BayRecord.loseSupply, halts, releases, and_self, if_true, false_and, if_false,
          Bool.false_eq_true]
      · rw [if_neg halts, ← queue]
        cases b <;> rfl
      · rw [enterRelease, unitLatched, request, send, modRecord_events, events]
        exact set
      · rw [enterRelease_signals]
        exact List.mem_append_left _ (mem sent other)
      · rw [enterRelease_signals]
        simp
    · have meaning : s.loseSupplyIn b = u := by
        simp only [loseSupplyIn, haltBay, same]
        rw [if_neg halts, if_neg releases, before]
      rw [meaning]
      refine ⟨meaning ▸ within, ⟨(s.bay b).latches, (s.bay b).counters, ?_⟩, ?_, fun e set => ?_, fun x sent other => mem sent other,
        fun state phase => absurd ⟨state, phase⟩ releases⟩
      · rw [bay]
        simp only [Bay.loseSupply, Bay.slotAtLoss, BayRecord.loseSupply, halts, releases, if_false, false_and, Bool.false_eq_true]
      · rw [if_neg halts, queue]
      · rw [unitLatched, events]
        exact set

end State

/-! ### The retract reserve (R21, R91) -/

/-- With both bays' heads at the stop by their records, only the retracts still under way draw on the reserve. -/
theorem State.reserveDraw_unloaded {s : State} (a : s.bayA.act.state = .unloaded) (b : s.bayB.act.state = .unloaded) :
    s.reserveDraw = (if s.bayA.pins.retractStop then 0 else 3) + (if s.bayB.pins.retractStop then 0 else 3) := by
  have reads (y : Bay) (rest : y.act.state = .unloaded) : (y.unloading || y.retracting) = !y.pins.retractStop := by
    simp [Bay.unloading, Bay.retracting, rest]
  rw [State.reserveDraw]
  simp only [List.filter_cons, List.filter_nil, reads _ a, reads _ b]
  cases s.bayA.pins.retractStop <;> cases s.bayB.pins.retractStop <;> rfl

end Sys2Proof.Machine
end

section
/-! PROOFS. Supply loss in every block (O28). -/

namespace Sys2Proof.Machine

namespace State

/-- The unit at supply loss before its bays follow: the budget LOW with every notice to and from it ended, and SUPPLY LOSS latched (R34). -/
def supplyFallen (s : State) : State :=
  { s with supplyGood := false, budget := s.budget.lose }.endBudgetSignals.latchUnit .supplyLoss

theorem supplyFallen_bay (s : State) (b : BayId) : s.supplyFallen.bay b = s.bay b := by cases b <;> rfl

end State

/-- What supply loss leaves of a bay, as it is seen from the state after it. -/
structure State.SeenLost (b : BayId) (y : Bay) (t : State) : Prop where
  bay  : ∃ l c, t.bay b = { y.loseSupply with latches := l, counters := c }
  asks : y.record.state = .ejecting → y.record.phase = .release → Signal.request b .solenoid 0 ∈ t.signals

theorem BayRecord.loseSupply_halts {r : BayRecord} (halts : r.halts = true) : r.loseSupply =
    { r with state := .halted, phase := if r.state = .ejecting then .spindown else .none, parkStep := .drain,
             eject := if r.state = .ejecting then r.eject else none } := if_pos halts

theorem BayRecord.loseSupply_stands {r : BayRecord} (halts : ¬ r.halts = true) : r.loseSupply =
    if r.state = .ejecting ∧ r.phase = .release then { r with pulsing := false } else r := if_neg halts

/-- What supply loss never touches in a bay record (R15). -/
theorem BayRecord.loseSupply_keeps (r : BayRecord) :
    r.loseSupply.typeCode = r.typeCode ∧ r.loseSupply.lock = r.lock ∧ r.loseSupply.standing = r.standing := by
  rw [BayRecord.loseSupply]
  split
  · exact ⟨rfl, rfl, rfl⟩
  · split <;> exact ⟨rfl, rfl, rfl⟩

theorem Spindle.loseSupply_state (x : Spindle) : x.loseSupply.state = (if x.state = .off then .off else .stopping) ∧
    x.loseSupply.attemptEnd = false ∧ x.loseSupply.pendingSpinUp = false := by
  cases state : x.state <;> simp [Spindle.loseSupply, state, Spindle.brake, Spindle.enter]

/-- The items of the bays that halt leave the Write Queue, those of one bay after those of the other (R15, R137). -/
theorem filter_halted (l : List Item) (h : BayId → Bool) :
    (if h .bayB then (if h .bayA then l.filter fun i => i.bay ≠ .bayA else l).filter fun i => i.bay ≠ .bayB
      else if h .bayA then l.filter fun i => i.bay ≠ .bayA else l) = l.filter fun i => !h i.bay := by
  have cases_bay (i : Item) : i.bay = .bayA ∨ i.bay = .bayB := by cases i.bay <;> simp
  by_cases a : h .bayA = true <;> by_cases b : h .bayB = true <;> simp only [a, b, if_true, if_false, Bool.false_eq_true, List.filter_filter]
  · exact List.filter_congr fun i _ => by rcases cases_bay i with e | e <;> simp [e, a, b]
  · exact List.filter_congr fun i _ => by rcases cases_bay i with e | e <;> simp [e, a, b]
  · exact List.filter_congr fun i _ => by rcases cases_bay i with e | e <;> simp [e, a, b]
  · exact (List.filter_eq_self.2 fun i _ => by rcases cases_bay i with e | e <;> simp [e, a, b]).symm

/-- Settles O28: the budget falls, and each bay follows, bay A first. -/
theorem supplyLossHalts : Obligations.SupplyLossHalts := by
  unfold Obligations.SupplyLossHalts
  intro s powered
  dsimp only
  have lostA := s.supplyFallen.loseSupplyIn_lost .bayA
  have lostB := (s.supplyFallen.loseSupplyIn .bayA).loseSupplyIn_lost .bayB
  generalize fallenA : s.supplyFallen.loseSupplyIn .bayA = u at lostA lostB
  generalize fallen : u.loseSupplyIn .bayB = t at lostB
  have meaning : exec .supplyLoss s = .next t := by
    rw [exec_supplyLoss, execSupplyLoss, if_neg powered, ← fallen, ← fallenA]
    rfl
  have bayB : u.bay .bayB = s.bay .bayB := lostA.within.other.trans (s.supplyFallen_bay .bayB)
  have bayA : t.bay .bayA = u.bay .bayA := lostB.within.other
  have seen (b : BayId) : State.SeenLost b (s.bay b) t := by
    cases b with
    | bayA =>
      obtain ⟨l, c, same⟩ := lostA.bay
      rw [State.supplyFallen_bay] at same
      exact ⟨⟨l, c, bayA.trans same⟩, fun state phase => lostB.signals _ (lostA.asks (by rw [State.supplyFallen_bay]; exact state)
        (by rw [State.supplyFallen_bay]; exact phase)) nofun⟩
    | bayB =>
      obtain ⟨l, c, same⟩ := lostB.bay
      rw [bayB] at same
      exact ⟨⟨l, c, same⟩, fun state phase => lostB.asks (by rw [bayB]; exact state) (by rw [bayB]; exact phase)⟩
  have rest (b : BayId) : (t.bay b).act.state = .unloaded ∧ (t.bay b).pins.retractStop = (s.bay b).pins.retractStop := by
    obtain ⟨l, c, same⟩ := (seen b).bay
    rw [same]
    refine ⟨rfl, ?_⟩
    simp only [Bay.loseSupply, Bay.pinsAtLoss]
    split <;> rfl
  refine ⟨t, meaning, ?_, ?_, ?_, ?_, ?_, ?_, fun b => ?_⟩
  · exact lostB.within.budget.trans lostA.within.budget
  · exact lostB.within.supplyGood.trans lostA.within.supplyGood
  · refine lostB.events _ (lostA.events _ ?_)
    rw [State.supplyFallen, State.unitLatched_latchUnit]
    rfl
  · exact lostB.within.slots.trans lostA.within.slots
  · rw [State.reserveDraw_unloaded (rest .bayA).1 (rest .bayB).1]
    have stopA : t.bayA.pins.retractStop = s.bayA.pins.retractStop := (rest .bayA).2
    have stopB : t.bayB.pins.retractStop = s.bayB.pins.retractStop := (rest .bayB).2
    rw [stopA, stopB]
  · rw [lostB.items, lostA.items, bayB, State.supplyFallen_bay]
    refine (filter_halted s.queue.items fun b => (s.bay b).record.halts).trans (List.filter_congr fun i _ => ?_)
    rw [Bool.eq_iff_iff, decide_eq_true_eq, Bool.not_eq_true', ← Bool.not_eq_true, BayRecord.halts_iff]
  · obtain ⟨l, c, same⟩ := (seen b).bay
    have spindle := (s.bay b).spindle.loseSupply_state
    have record := (s.bay b).record.loseSupply_keeps
    have halts := (s.bay b).record.halts_iff
    rw [same]
    refine ⟨rfl, rfl, rfl, rfl, rfl, rfl, rfl, rfl, rfl, spindle.1, spindle.2.1, spindle.2.2, rfl, rfl, rfl, record.1, record.2.1, record.2.2,
      fun halted => ?_, fun stands => ⟨?_, fun phase => ?_, fun state phase => ⟨?_, (seen b).asks state phase⟩⟩⟩
    · have halts := halts.2 halted
      simp only [Bay.loseSupply, Bay.slotAtLoss, BayRecord.loseSupply_halts halts, halts, true_and]
    · have stands := fun h => stands (halts.1 h)
      simp only [Bay.loseSupply, Bay.slotAtLoss]
      rw [if_neg fun h => stands h.1]
    · simp only [Bay.loseSupply]
      rw [BayRecord.loseSupply_stands fun h => stands (halts.1 h), if_neg fun h => phase h.2]
    · simp only [Bay.loseSupply]
      rw [BayRecord.loseSupply_stands fun h => stands (halts.1 h), if_pos ⟨state, phase⟩]

end Sys2Proof.Machine
end

section
/-! PROOFS. What a soft reset leaves (O5). -/

namespace Sys2Proof.Machine

namespace State

variable {s : State} {b : BayId}

/-! ### The Message Decoder and the Write Queue (R178) -/

theorem discard_thresholds (s : State) (b c : BayId) : ((s.discard b).bay c).counters.thresholds = (s.bay c).counters.thresholds := by
  have discarded := s.discard_discarded b
  by_cases same : c = b
  · subst same
    rcases Nat.eq_zero_or_pos (s.queue.entriesOfBay c) with none | some
    · rw [(discarded.none none).1]
    · rw [(discarded.some some).1]
  · have other : c = b.other := by cases b <;> cases c <;> first | contradiction | rfl
    rw [other, discarded.other]

/-- A bay after a discard of any bay: its latches and counters alone are other (R137). -/
theorem discard_bay (s : State) (b c : BayId) : ∃ l n, n.thresholds = (s.bay c).counters.thresholds ∧
    (s.discard b).bay c = { s.bay c with latches := l, counters := n } := by
  have discarded := s.discard_discarded b
  by_cases same : c = b
  · subst same
    obtain ⟨l, n, bay⟩ := discarded.bay
    have thresholds := s.discard_thresholds c c
    rw [bay] at thresholds
    exact ⟨l, n, thresholds, bay⟩
  · have other : c = b.other := by cases b <;> cases c <;> first | contradiction | rfl
    exact ⟨(s.bay c).latches, (s.bay c).counters, rfl, by rw [other, discarded.other]⟩

/-- The slots, latches and faults cleared, and UNIT RESET latched (R178). -/
def decoderCleared (s : State) : State :=
  let s := ((s.freeSlot .bayA).freeSlot .bayB).clearLatches
  { s with faults := {}, link := { s.link with resetPending := none } }.latchUnit .unitReset

theorem decoderCleared_bay (s : State) (c : BayId) : s.decoderCleared.bay c =
    { s.bay c with slot := {}, media := { (s.bay c).media with slotFailures := 0 }, latches := {} } := by cases c <;> rfl

theorem resetDecoder_forced (s : State) : s.resetDecoder true = ((s.discard .bayA).discard .bayB).decoderCleared := rfl
theorem resetDecoder_unforced (s : State) : s.resetDecoder false = s.decoderCleared := rfl

/-- What the Message Decoder and the discards of FORCE leave of a bay (R178). -/
theorem resetDecoder_bay (s : State) (force : Bool) (c : BayId) : ∃ n : Counters, n.thresholds = (s.bay c).counters.thresholds ∧
    (force = false → n = (s.bay c).counters) ∧ (s.resetDecoder force).bay c =
      { s.bay c with slot := {}, media := { (s.bay c).media with slotFailures := 0 }, latches := {}, counters := n } := by
  cases force with
  | false => exact ⟨(s.bay c).counters, rfl, fun _ => rfl, s.decoderCleared_bay c⟩
  | true =>
    obtain ⟨l, n, thresholds, bay⟩ := s.discard_bay .bayA c
    obtain ⟨l', n', thresholds', bay'⟩ := (s.discard .bayA).discard_bay .bayB c
    rw [bay] at bay' thresholds'
    exact ⟨n', thresholds'.trans thresholds, nofun, by rw [resetDecoder_forced, decoderCleared_bay, bay']⟩

theorem resetDecoder_items (s : State) (force : Bool) : (s.resetDecoder force).queue.items = if force then [] else s.queue.items := by
  have kept (t : State) : t.decoderCleared.queue = t.queue := rfl
  cases force with
  | false => rfl
  | true =>
    rw [resetDecoder_forced, kept, discard_queue, discard_queue, if_pos rfl, List.filter_filter, List.filter_eq_nil_iff]
    intro i _
    cases i.bay <;> simp

/-- The rest of the unit after the Message Decoder's part: what it never touches. -/
theorem resetDecoder_rest (s : State) (force : Bool) :
    (s.resetDecoder force).budget = s.budget ∧ (s.resetDecoder force).queue.slots = s.queue.slots ∧
    (s.resetDecoder force).settings = s.settings ∧ (s.resetDecoder force).link = { s.link with resetPending := none } ∧
    (s.resetDecoder force).clock = s.clock := by
  have kept (t : State) : t.decoderCleared.budget = t.budget ∧ t.decoderCleared.queue = t.queue ∧ t.decoderCleared.settings = t.settings ∧
      t.decoderCleared.link = { t.link with resetPending := none } ∧ t.decoderCleared.clock = t.clock := ⟨rfl, rfl, rfl, rfl, rfl⟩
  cases force with
  | false => exact ⟨rfl, rfl, rfl, rfl, rfl⟩
  | true =>
    have a : Within .bayA s (s.discard .bayA) := by simp
    have b : Within .bayB (s.discard .bayA) ((s.discard .bayA).discard .bayB) := by simp
    obtain ⟨budget, queue, settings, link, clock⟩ := kept ((s.discard .bayA).discard .bayB)
    rw [resetDecoder_forced, budget, queue, settings, link, clock]
    exact ⟨b.budget.trans a.budget, b.slots.trans a.slots, b.settings.trans a.settings, by rw [b.link, a.link], b.clock.trans a.clock⟩

theorem resetDecoder_events (s : State) (force : Bool) :
    (s.resetDecoder force).events = 1#5 ∧ (s.resetDecoder force).faults = {} := by
  have cleared (t : State) : t.decoderCleared.events = 1#5 ∧ t.decoderCleared.faults = {} :=
    ⟨show 0#5 ||| BitVec.twoPow 5 UnitEvent.unitReset.bit = 1#5 by decide, rfl⟩
  cases force
  · exact cleared _
  · exact cleared _

/-! ### The blocks of a bay (R59, R92, R104, R106, R151) -/

/-- The unit at a soft reset before its Bay Controllers follow. -/
def resetBlocks (s : State) (force : Bool) : State :=
  let s := ((s.resetDecoder force).modBay .bayA Bay.softReset).modBay .bayB Bay.softReset
  ({ s with budget := s.budget.softReset fun b => (s.bay b).spindle.state == SpindleState.run } : State).endBudgetSignals

theorem softReset_eq (s : State) (force : Bool) : s.softReset force = ((s.resetBlocks force).resetBay .bayA).resetBay .bayB := rfl

theorem resetBlocks_bay (s : State) (force : Bool) (c : BayId) :
    (s.resetBlocks force).bay c = ((s.resetDecoder force).bay c).softReset := by cases c <;> rfl

end State

theorem Spindle.softReset_run {x : Spindle} : x.softReset.state = .run ↔ x.state = .run := by
  cases state : x.state <;> simp [Spindle.softReset, state, Spindle.brake, Spindle.enter]

theorem Spindle.softReset_off {x : Spindle} (off : x.state = .off) : x.softReset.state = .off := by
  simp [Spindle.softReset, off]

theorem Spindle.softReset_waits (x : Spindle) : x.softReset.state ≠ .waiting := by
  cases state : x.state <;> simp [Spindle.softReset, state, Spindle.brake, Spindle.enter]

theorem Actuator.softReset_unloaded {x : Actuator} : x.softReset.state = .unloaded ↔ x.state = .unloaded := by
  cases state : x.state <;> simp [Actuator.softReset, state]

/-- The figures of an actuator that an unload leaves: no seek in hand, and the counts as they stood (R88). -/
structure Actuator.AtRest (x a : Actuator) : Prop where
  failures   : a.failures = x.failures
  downshift  : a.downshift = x.downshift
  upshiftRun : a.upshiftRun = x.upshiftRun
  seek       : x.seek = none → a.seek = none
  cylinder   : x.cylinder = none → a.cylinder = none

namespace State

variable {s : State} {b : BayId}

theorem askUnload_atRest (s : State) (b : BayId) : (s.bay b).act.AtRest ((s.askUnload b).1.bay b).act := by
  cases state : (s.bay b).act.state with
  | unloaded =>
    simp only [askUnload, state]
    split <;> exact ⟨by simp, by simp, by simp, by simp, by simp⟩
  | loading =>
    simp only [askUnload, state, startUnload_bay]
    exact ⟨by simp, by simp, by simp, by simp, by simp⟩
  | recalibrating =>
    cases recal : (s.bay b).act.recal <;> simp only [askUnload, state, recal, startUnload_bay] <;>
      exact ⟨by simp, by simp, by simp, by simp, by simp⟩
  | tracking =>
    simp only [askUnload, state, startUnload_bay, withdrawSeek_bay]
    exact ⟨by simp, by simp, by simp, by simp, by simp⟩
  | seeking =>
    simp only [askUnload, state, startUnload_bay, modAct_bay, releaseSeek_bay]
    exact ⟨by simp [Actuator.endPlan], by simp [Actuator.endPlan], by simp [Actuator.endPlan], by simp, by simp⟩
  | unloading =>
    simp only [askUnload, state]
    split
    · exact ⟨by simp, by simp, by simp, by simp, by simp⟩
    · rw [startUnload_bay]
      exact ⟨by simp, by simp, by simp, by simp, by simp⟩

/-! ### The Bay Controller (R19) -/

/-- What a soft reset leaves of a bay whose blocks have been reset: it parks, or is EMPTY at once where it stood at rest (R19). -/
structure ResetTo (y z : Bay) (clock : Nat) : Prop where
  bay   : ∃ r x a, z = { y with record := r, spindle := x, act := a }
  act   : y.act.AtRest z.act
  lock  : z.record.lock = (z.record.resetPark && y.record.lock)
  rest  : y.act.state = .unloaded → y.spindle.state = .off →
    z.record = { debouncing := y.pins.present, debounceAt := if y.pins.present then clock else 0 }
  moves : y.act.state ≠ .unloaded → z.record.state = .parking ∧ z.record.resetPark = true ∧ z.record.parkStep = .unload ∧
    z.act.state = .unloading
  runs  : y.act.state = .unloaded → y.spindle.state = .run →
    z.record.state = .parking ∧ z.record.parkStep = .spindown ∧ z.spindle.state = .stopping

/-- The state of a bay as its PARKING of a soft reset begins (R19). -/
def parkEntered (s : State) (b : BayId) : State :=
  s.modRecord b fun r => { r with state := .parking, phase := .none, cause := .none, eject := none, pulsing := false, debouncing := false,
                                  parkStep := .unload, resetPark := true }

theorem parkEntered_bay (s : State) (b : BayId) : (s.parkEntered b).bay b = { s.bay b with record := { (s.bay b).record with
    state := .parking, phase := .none, cause := .none, eject := none, pulsing := false, debouncing := false, parkStep := .unload
    resetPark := true } } := modRecord_bay ..

theorem resetBay_eq (s : State) (b : BayId) : s.resetBay b = (s.parkEntered b).unloadHeads b := rfl

theorem stopConfirmed_resetPark (parking : (s.bay b).record.state = .parking) (step : (s.bay b).record.parkStep = .spindown)
    (reset : (s.bay b).record.resetPark = true) (ended : Bool) : s.stopConfirmed b ended = s.becomeEmpty b := by
  simp only [stopConfirmed, parking]
  rw [if_pos step, if_pos reset]

theorem unloadedReport_parking (parking : (s.bay b).record.state = .parking) (step : (s.bay b).record.parkStep = .unload) :
    s.unloadedReport b = (s.modRecord b fun r => { r with parkStep := .spindown }).stopSpindle b := by
  simp only [unloadedReport, parking]
  exact if_pos step

theorem becomeEmpty_record (s : State) (b : BayId) : (s.becomeEmpty b).bay b = { s.bay b with record :=
    { debouncing := (s.bay b).pins.present, debounceAt := if (s.bay b).pins.present then s.clock else 0 } } := by
  by_cases present : (s.bay b).pins.present = true
  · have again : s.becomeEmpty b = (s.modRecord b fun _ => {}).startDebounce b := if_pos (by simpa using present)
    rw [again, present, if_pos rfl]
    cases b <;> rfl
  · rw [becomeEmpty_absent (by simpa using present), modRecord_bay, if_neg present]
    simp [present]

theorem resetBay_resets (waits : (s.bay b).spindle.state ≠ .waiting) : ResetTo (s.bay b) ((s.resetBay b).bay b) s.clock := by
  have entered := s.parkEntered_bay b
  have clock : (s.parkEntered b).clock = s.clock := modRecord_clock ..
  rw [resetBay_eq]
  by_cases on : (s.bay b).act.state = .unloaded
  · obtain ⟨more, same⟩ := unloadHeads_onStop (s := s.parkEntered b) (b := b) (by rw [entered]; exact on)
    generalize told : (({ s.parkEntered b with signals := (s.parkEntered b).signals ++ more } : State).modAct b fun x =>
      { x with loadAttempt := none }).modRecord b (fun r => { r with parkStep := .spindown }) = u
    have bay : u.bay b = { s.bay b with
        record := { (s.bay b).record with state := .parking, phase := .none, cause := .none, eject := none, pulsing := false
                                          debouncing := false, parkStep := .spindown, resetPark := true }
        act := { (s.bay b).act with loadAttempt := none } } := by rw [← told]; cases b <;> rfl
    have clockU : u.clock = s.clock := by rw [← told]; cases b <;> rfl
    rw [same, unloadedReport_parking (by cases b <;> rfl) (by cases b <;> rfl), told]
    by_cases off : (s.bay b).spindle.state = .off
    · rw [stopSpindle_off (by rw [bay]; exact off), stopConfirmed_resetPark (by rw [bay]) (by rw [bay]) (by rw [bay]), becomeEmpty_record,
        bay, clockU]
      exact ⟨⟨_, _, _, rfl⟩, ⟨rfl, rfl, rfl, id, id⟩, rfl, fun _ _ => rfl, fun moves => absurd on moves,
        fun _ run => absurd (off.symm.trans run) nofun⟩
    · obtain ⟨x, stopping, -, stopped⟩ := stopSpindle_turning_bay (s := u) (b := b) (by rw [bay]; exact off) (by rw [bay]; exact waits)
      rw [stopped, bay]
      exact ⟨⟨_, _, _, rfl⟩, ⟨rfl, rfl, rfl, id, id⟩, (Bool.true_and _).symm, fun _ rest => absurd rest off, fun moves => absurd on moves,
        fun _ _ => ⟨rfl, rfl, stopping⟩⟩
  · obtain ⟨a, same⟩ := askUnload_bay (s := s.parkEntered b) (b := b)
    have rest := (s.parkEntered b).askUnload_atRest b
    have moving := askUnload_moving (s := s.parkEntered b) (b := b) (by rw [entered]; exact on)
    rw [same, entered] at rest moving
    rw [unloadHeads_moving (by rw [entered]; exact on), same, entered]
    exact ⟨⟨_, _, _, rfl⟩, rest, (Bool.true_and _).symm, fun stop => absurd stop on, fun _ => ⟨rfl, rfl, rfl, moving⟩, fun stop => absurd stop on⟩

end State

/-- Settles O5: the blocks are reset, and then each bay parks, bay A first. -/
theorem softResetLeaves : Obligations.SoftResetLeaves := by
  unfold Obligations.SoftResetLeaves
  intro s force pending
  have waits (c : BayId) : ((s.resetBlocks force).bay c).spindle.state ≠ .waiting := by
    rw [State.resetBlocks_bay]
    exact Spindle.softReset_waits _
  have steersA : State.Steers .bayA (s.resetBlocks force) ((s.resetBlocks force).resetBay .bayA) :=
    ((State.Steers.refl .bayA _).modRecord _).unloadHeads
  have steersB : State.Steers .bayB ((s.resetBlocks force).resetBay .bayA) (s.softReset force) :=
    ((State.Steers.refl .bayB _).modRecord _).unloadHeads
  have resets (c : BayId) : State.ResetTo ((s.resetBlocks force).bay c) ((s.softReset force).bay c) s.clock := by
    obtain ⟨-, -, -, -, clock⟩ := s.resetDecoder_rest force
    cases c with
    | bayA =>
      have parks := State.resetBay_resets (waits .bayA)
      rw [show (s.softReset force).bay .bayA = ((s.resetBlocks force).resetBay .bayA).bay .bayA from steersB.other, ← clock]
      exact parks
    | bayB =>
      have same : ((s.resetBlocks force).resetBay .bayA).bay .bayB = (s.resetBlocks force).bay .bayB := steersA.other
      have parks := State.resetBay_resets (s := (s.resetBlocks force).resetBay .bayA) (b := .bayB) (by rw [same]; exact waits .bayB)
      rw [same, steersA.clock] at parks
      rw [State.softReset_eq, ← clock]
      exact parks
  obtain ⟨budget, slots, settings, link, -⟩ := s.resetDecoder_rest force
  obtain ⟨events, faults⟩ := s.resetDecoder_events force
  have items := s.resetDecoder_items force
  have spindle (c : BayId) : ((s.resetDecoder force).bay c).spindle = (s.bay c).spindle := by
    obtain ⟨n, -, -, decoder⟩ := s.resetDecoder_bay force c
    rw [decoder]
  have claims : (s.softReset force).budget = s.budget.softReset fun c => (s.bay c).spindle.softReset.state == SpindleState.run := by
    rw [steersB.budget, steersA.budget]
    have blocks : (s.resetBlocks force).budget = (s.resetDecoder force).budget.softReset fun c =>
        ((s.resetBlocks force).bay c).spindle.state == SpindleState.run := rfl
    rw [blocks, budget]
    refine congrArg s.budget.softReset (funext fun c => ?_)
    rw [State.resetBlocks_bay, Bay.softReset, spindle]
  refine ⟨s.softReset force, by rw [exec_softReset, execSoftReset, pending], steersB.events.trans (steersA.events.trans events),
    steersB.faults.trans (steersA.faults.trans faults), steersB.settings.trans (steersA.settings.trans settings),
    steersB.link.trans (steersA.link.trans link), ?_, ?_, ?_, ?_, ?_, ?_, ?_, fun c mem => ?_, fun b => ?_⟩
  · rw [claims]; rfl
  · rw [claims]; rfl
  · rw [claims]; rfl
  · rw [claims]; rfl
  · rw [claims]; rfl
  · rw [steersB.queue, steersA.queue]; exact items
  · rw [steersB.queue, steersA.queue]; exact slots
  · rw [claims] at mem
    obtain ⟨held, keeps⟩ := List.mem_filter.1 mem
    simp only [Bool.and_eq_true, beq_iff_eq, decide_eq_true_eq, Spindle.softReset_run] at keeps
    exact ⟨held, keeps.1.1, keeps.1.2, keeps.2⟩
  · obtain ⟨n, thresholds, kept, decoder⟩ := s.resetDecoder_bay force b
    have blocks := s.resetBlocks_bay force b
    rw [decoder] at blocks
    have reset := resets b
    rw [blocks] at reset
    obtain ⟨r, x, a, bay⟩ := reset.bay
    have act := reset.act
    refine ⟨by rw [bay]; rfl, by rw [bay]; rfl, by rw [bay]; rfl, by rw [bay]; rfl, by rw [bay]; rfl, by rw [bay]; rfl, by rw [bay]; rfl,
      by rw [bay]; rfl, act.seek rfl, act.downshift, act.failures, act.upshiftRun, act.cylinder rfl, by rw [bay]; exact thresholds,
      fun unforced => by rw [bay]; exact kept unforced, reset.lock, fun on off => ?_, fun off => ?_, fun on run => ?_⟩
    · exact reset.rest (Actuator.softReset_unloaded.2 on) (Spindle.softReset_off off)
    · exact reset.moves fun on => off (Actuator.softReset_unloaded.1 on)
    · exact reset.runs (Actuator.softReset_unloaded.2 on) (Spindle.softReset_run.2 run)

end Sys2Proof.Machine
end

section
/-! PROOFS. The end of a load and of an unload (O43). -/

namespace Sys2Proof.Machine

namespace State

variable {s : State} {b : BayId}

/-! ### A position lost (R14, R18) -/

/-- In FAULT with POSITION LOST the end of an unload has the spindle stopped, and a stop confirmed leads no further (R14). -/
theorem unloadedReport_positionLost (fault : (s.bay b).record.state = .fault) (lost : (s.bay b).record.cause = .positionLost) :
    s.unloadedReport b = s.stopSpindle b := by
  simp only [unloadedReport, fault, lost]

theorem stopConfirmed_positionLost (fault : (s.bay b).record.state = .fault) (lost : (s.bay b).record.cause = .positionLost) (ended : Bool) :
    s.stopConfirmed b ended = s := by
  simp only [stopConfirmed, fault]
  exact if_neg (by simp [lost])

theorem stopSpindle_positionLost (fault : (s.bay b).record.state = .fault) (lost : (s.bay b).record.cause = .positionLost) :
    ∃ x : Spindle, (s.stopSpindle b).bay b = { s.bay b with spindle := x } := by
  by_cases off : (s.bay b).spindle.state = .off
  · rw [stopSpindle_off off, stopConfirmed_positionLost fault lost]
    exact ⟨_, rfl⟩
  · by_cases waits : (s.bay b).spindle.state = .waiting
    · rw [stopSpindle_waiting waits, stopConfirmed_positionLost (by simpa using fault) (by simpa using lost), withdraw_bay, modSpindle_bay]
      exact ⟨_, rfl⟩
    · obtain ⟨x, -, -, same⟩ := stopSpindle_turning_bay off waits
      exact ⟨x, same⟩

theorem askUnload_attempt (s : State) (b : BayId) : ((s.askUnload b).1.bay b).act.loadAttempt = none := by
  cases state : (s.bay b).act.state with
  | unloaded =>
    simp only [askUnload, state]
    split <;> simp
  | loading | tracking => simp only [askUnload, state]; simp
  | recalibrating => cases recal : (s.bay b).act.recal <;> simp only [askUnload, state, recal] <;> simp
  | seeking => simp only [askUnload, state]; simp [Actuator.endPlan]
  | unloading =>
    simp only [askUnload, state]
    split <;> simp

/-- A bay whose position is lost is in FAULT, its heads on the stop or on their way there (R14). -/
theorem enterFault_positionLost (s : State) (b : BayId) : ∃ f, State.Faulted b .positionLost s f ∧
    State.Steers b f (s.enterFault b .positionLost) ∧
    ((s.enterFault b .positionLost).bay b).record = (f.bay b).record ∧
    ((s.enterFault b .positionLost).bay b).act.state = (if (s.bay b).act.state = .unloaded then .unloaded else .unloading) ∧
    (s.bay b).act.AtRest ((s.enterFault b .positionLost).bay b).act ∧ ((s.enterFault b .positionLost).bay b).act.loadAttempt = none := by
  have faulted := s.faultBasic_faulted b .positionLost
  refine ⟨s.faultBasic b .positionLost, faulted, (Steers.refl b _).unloadHeads, ?_⟩
  obtain ⟨l, n, bay⟩ := faulted.bay
  have entered : s.enterFault b .positionLost = (s.faultBasic b .positionLost).unloadHeads b := rfl
  rw [entered]
  generalize s.faultBasic b .positionLost = f at bay
  have act : (f.bay b).act = (s.bay b).act := by rw [bay]
  by_cases on : (s.bay b).act.state = .unloaded
  · obtain ⟨more, same⟩ := unloadHeads_onStop (s := f) (b := b) (by rw [act]; exact on)
    have told : (({ f with signals := f.signals ++ more } : State).modAct b fun x => { x with loadAttempt := none }).bay b =
        { f.bay b with act := { (f.bay b).act with loadAttempt := none } } := by cases b <;> rfl
    have fault : (f.bay b).record.state = .fault ∧ (f.bay b).record.cause = .positionLost := by rw [bay]; exact ⟨rfl, rfl⟩
    rw [same, unloadedReport_positionLost (by rw [told]; exact fault.1) (by rw [told]; exact fault.2)]
    obtain ⟨x, stopped⟩ := stopSpindle_positionLost
      (s := ({ f with signals := f.signals ++ more } : State).modAct b fun x => { x with loadAttempt := none }) (b := b)
      (by rw [told]; exact fault.1) (by rw [told]; exact fault.2)
    rw [stopped, told, if_pos on, act]
    exact ⟨rfl, on, ⟨rfl, rfl, rfl, id, id⟩, rfl⟩
  · obtain ⟨a, same⟩ := askUnload_bay (s := f) (b := b)
    have rest := f.askUnload_atRest b
    have attempt := f.askUnload_attempt b
    have moving := askUnload_moving (s := f) (b := b) (by rw [act]; exact on)
    rw [act] at rest
    rw [unloadHeads_moving (by rw [act]; exact on), if_neg on]
    exact ⟨by rw [same], moving, rest, attempt⟩

theorem positionLost_enters (works : (s.bay b).record.state ∈ [BayState.loading, .mounting, .ready, .raw, .parking, .ejecting]) :
    s.positionLost b = s.enterFault b .positionLost := by
  have other : (s.bay b).record.state ≠ .fault := fun fault => by simp [fault] at works
  rw [← faultReport_enters other]
  simp only [List.mem_cons, List.not_mem_nil, or_false] at works
  rcases works with h | h | h | h | h | h <;> simp only [positionLost, h]

/-! ### The end of an unload (R77, R89) -/

/-- The retract-stop sense seen true, its notice taken (R89; log entry 22). -/
def stopSensed (s : State) (b : BayId) : State :=
  ({ s with signals := s.signals.erase (.atStop b) } : State).modPins b fun p => { p with retractStop := true }

theorem stopSensed_eq (s : State) (b : BayId) :
    (s.dropSignal fun z => z = .atStop b).modPins b (fun p => { p with retractStop := true }) = s.stopSensed b := by
  have erased : s.signals.eraseP (fun z => decide (z = .atStop b)) = s.signals.erase (.atStop b) := by
    rw [List.erase_eq_eraseP']
    congr 1
  rw [dropSignal, erased]
  rfl

/-- The heads on the stop, no unload under way (R89). -/
def headsOff (s : State) (b : BayId) : State :=
  (s.stopSensed b).modAct b fun x => { x with state := .unloaded, unloadFailed := false, unloadMoving := false }

theorem headsOff_bay (s : State) (b : BayId) : (s.headsOff b).bay b = { s.bay b with
    pins := { (s.bay b).pins with retractStop := true }
    act := { (s.bay b).act with state := .unloaded, unloadFailed := false, unloadMoving := false } } := by cases b <;> rfl

/-- An unload complete, by the load attempt that it ends (R77, R89). -/
theorem unloadComplete_eq (unloads : (s.bay b).act.state = .unloading) (moves : (s.bay b).act.unloadMoving = true) :
    exec (.unloadComplete b) s = .next (match (s.bay b).act.loadAttempt with
      | some n => if n = 1 then ((s.headsOff b).modAct b fun x => { x with loadAttempt := some 2 }).request b .load
        else ((s.headsOff b).modAct b fun x => { x with loadAttempt := none }).positionLost b
      | none => ((s.headsOff b).unloadedReport b).answerSpindle b) := by
  have attempt : ((s.stopSensed b).bay b).act.loadAttempt = (s.bay b).act.loadAttempt := by cases b <;> rfl
  rw [exec_unloadComplete, execUnloadComplete, stopSensed_eq, if_pos ⟨unloads, moves⟩, unloadEnded, attempt]
  rfl

theorem answerSpindle_bay (s : State) (b : BayId) : ∃ x, (s.answerSpindle b).bay b = { s.bay b with spindle := x } := by
  simp only [answerSpindle]
  split
  · exact ⟨_, by rw [request_bay, modSpindle_bay]⟩
  · exact ⟨_, rfl⟩

theorem answerSpindle_deaf (other : (s.bay b).spindle.state ≠ .recoverWait) : s.answerSpindle b = s := by
  simp only [answerSpindle]
  exact if_neg fun h => other h.1

theorem unloadedReport_ejecting (ejecting : (s.bay b).record.state = .ejecting) (phase : (s.bay b).record.phase = .unload) :
    s.unloadedReport b = s.enterSpindown b := by
  simp only [unloadedReport, ejecting]
  exact if_pos phase

theorem stopSpindle_run (run : (s.bay b).spindle.state = .run) :
    s.stopSpindle b = (s.modSpindle b Spindle.brake).release b .spindle := by
  simp only [stopSpindle, askStop, run]

end State

/-- Settles O43: the guard found or not, the end of each unload by what it unloads for, and the unload that fails. -/
theorem loadsAndUnloadsEnd : Obligations.LoadsAndUnloadsEnd := by
  unfold Obligations.LoadsAndUnloadsEnd
  intro s b
  dsimp only
  have off := s.headsOff_bay b
  refine ⟨fun elsewhere => ⟨?_, ?_⟩, fun loads => ⟨?_, ?_⟩, fun still => ⟨?_, ?_⟩, fun unloads moves => ⟨fun first => ?_, fun second loads => ?_,
    fun none ejecting phase run => ?_, fun none parking step run => ?_, fun none ready waits asked => ?_, ?_⟩⟩
  · rw [exec_loadGuardFound, execLoadGuardFound, if_neg elsewhere]
  · rw [exec_loadTimeout, execLoadTimeout, if_neg elsewhere]
  · rw [exec_loadGuardFound, execLoadGuardFound, if_pos loads]
    rfl
  · rw [exec_loadTimeout, execLoadTimeout, if_pos loads]
    have pins : (((s.release b .actuator).modAct b fun x => { x with
        state := .unloading, cylinder := none, seek := none, recal := .idle, recalForLoad := false
        unloadMoving := true, unloadAt := (s.release b .actuator).clock }).bay b).pins = (s.bay b).pins := by cases b <;> rfl
    rw [State.startUnload, pins]
    rfl
  · rw [exec_unloadComplete, execUnloadComplete, State.stopSensed_eq, if_neg still]
    rfl
  · rw [exec_unloadFailed, execUnloadFailed, if_neg still]
  · rw [State.unloadComplete_eq unloads moves, first]
    rfl
  · rw [State.unloadComplete_eq unloads moves, second]
    generalize lost : (s.headsOff b).modAct b (fun x => { x with loadAttempt := none }) = t
    have bay : t.bay b = { (s.headsOff b).bay b with act := { ((s.headsOff b).bay b).act with loadAttempt := none } } := by
      rw [← lost, State.modAct_bay]
    rw [off] at bay
    obtain ⟨f, faulted, steers, record, act, -, attempt⟩ := t.enterFault_positionLost b
    obtain ⟨l, n, entered⟩ := faulted.bay
    have taken : t.positionLost b = t.enterFault b .positionLost := State.positionLost_enters (by rw [bay]; simp [loads])
    rw [entered] at record
    rw [bay] at act
    exact ⟨t.enterFault b .positionLost, by dsimp only; rw [if_neg (by decide), taken],
      (steers.latched (e := .positionLost) (by decide)).trans (faulted.event .positionLost rfl), by rw [record], by rw [record], act, attempt⟩
  · obtain ⟨x, stopping, same⟩ := State.enterSpindown_turning (s := s.headsOff b) (b := b) (by rw [off, run]; decide) (by rw [off, run]; decide)
    rw [State.unloadComplete_eq unloads moves, none]
    dsimp only
    rw [State.unloadedReport_ejecting (by rw [off]; exact ejecting) (by rw [off]; exact phase),
      State.answerSpindle_deaf (by rw [same, stopping]; decide)]
    refine ⟨_, rfl, by rw [same, off], by rw [same], by rw [same]; exact stopping, ?_⟩
    rw [State.enterSpindown, State.stopSpindle_run (by rw [State.modRecord_bay, off]; exact run)]
    simp [State.release, State.send]
  · obtain ⟨x, stopping, -, same⟩ := State.stopSpindle_turning_bay (s := (s.headsOff b).modRecord b fun r => { r with parkStep := .spindown })
      (b := b) (by rw [State.modRecord_bay, off, run]; decide) (by rw [State.modRecord_bay, off, run]; decide)
    rw [State.unloadComplete_eq unloads moves, none]
    dsimp only
    rw [State.unloadedReport_parking (by rw [off]; exact parking) (by rw [off]; exact step),
      State.answerSpindle_deaf (by rw [same, stopping]; decide)]
    exact ⟨_, rfl, by rw [same, State.modRecord_bay, off], by rw [same, State.modRecord_bay, off]; exact parking,
      by rw [same, State.modRecord_bay], by rw [same]; exact stopping⟩
  · have unmoved : (s.headsOff b).unloadedReport b = s.headsOff b := by
      simp only [State.unloadedReport, off, ready]
    rw [State.unloadComplete_eq unloads moves, none]
    dsimp only
    rw [unmoved, State.answerSpindle, if_pos (by rw [off]; exact ⟨waits, asked⟩)]
    rfl
  · generalize stuck : (s.clockTo ((s.bay b).act.unloadAt + Config.unloadTime)).modAct b (fun x =>
      { x with unloadFailed := true, unloadMoving := false, loadAttempt := none }) = t
    have bay : t.bay b = { s.bay b with act := { (s.bay b).act with unloadFailed := true, unloadMoving := false, loadAttempt := none } } := by
      rw [← stuck]; cases b <;> rfl
    have others : t.bay b.other = s.bay b.other := by rw [← stuck]; cases b <;> rfl
    have clock : t.clock = max s.clock ((s.bay b).act.unloadAt + 200000) := by rw [← stuck]; cases b <;> rfl
    have faulted := t.faultBasic_faulted b .unloadFault
    obtain ⟨l, n, entered⟩ := faulted.bay
    have steers := (State.Steers.refl b (t.faultBasic b .unloadFault)).answerSpindle
    obtain ⟨x, answered⟩ := (t.faultBasic b .unloadFault).answerSpindle_bay b
    have meaning : exec (.unloadFailed b) s = .next ((t.faultBasic b .unloadFault).answerSpindle b) := by
      rw [exec_unloadFailed, execUnloadFailed, if_pos ⟨unloads, moves⟩]
      dsimp only
      rw [stuck, State.faultReport, if_neg (by simp)]
      rfl
    refine ⟨_, meaning, (steers.latched (e := .unloadFault) (by decide)).trans (faulted.event .unloadFault rfl), ?_, ?_, ?_, ?_, ?_, ?_,
      steers.clock.trans (faulted.within.clock.trans clock), steers.other.trans (faulted.within.other.trans others), fun run => ?_⟩
    · rw [answered, entered]
    · rw [answered, entered]
    · rw [answered, entered, bay]; exact unloads
    · rw [answered, entered, bay]
    · rw [answered, entered, bay]
    · rw [answered, entered]
    · rw [State.answerSpindle_deaf (by rw [entered, bay, run]; decide), entered, bay]

end Sys2Proof.Machine
end

section
/-! PROOFS. Track loss, and the end of a recalibration (O42). -/

namespace Sys2Proof.Machine

namespace State

variable {s : State} {b : BayId}

/-- The operation in flight that waits for the end of a recalibration, or none with the engine not STALLED, is left alone (R142). -/
theorem mediaTracking_idle (none : (s.bay b).media.op = none) (runs : (s.bay b).media.state ≠ .stalled) : s.mediaTracking b = s := by
  simp only [mediaTracking, none]
  rw [if_neg runs]

theorem mediaTracking_seeks {op : MediaOp} (flies : (s.bay b).media.op = some op) (runs : (s.bay b).media.state ≠ .stalled)
    (stage : op.stage = .seeking) : s.mediaTracking b = s := by
  simp only [mediaTracking, flies]
  rw [if_neg runs, if_neg (by simp [stage])]

theorem trackingReport_works (works : (s.bay b).record.state = .ready ∨ (s.bay b).record.state = .raw) : s.trackingReport b = s := by
  rcases works with h | h <;> simp only [trackingReport, h]

theorem retrySeek_none (none : (s.bay b).act.seek = none) : s.retrySeek b = s := by
  simp only [retrySeek, none]

/-- The heads track cylinder 0, the claim released (R78). -/
def recalEnded (s : State) (b : BayId) : State :=
  (s.release b .actuator).modAct b fun x =>
    { x with state := .tracking, cylinder := some 0, head := 0, recal := .idle, recalForLoad := false,
             loadAttempt := if x.recalForLoad then none else x.loadAttempt }

theorem recalEnded_bay (s : State) (b : BayId) : (s.recalEnded b).bay b = { s.bay b with act := { (s.bay b).act with
    state := .tracking, cylinder := some 0, head := 0, recal := .idle, recalForLoad := false
    loadAttempt := if (s.bay b).act.recalForLoad then none else (s.bay b).act.loadAttempt } } := by
  rw [recalEnded, modAct_bay, release_bay]

theorem recalibrationComplete_eq (recalibrates : (s.bay b).act.state = .recalibrating) (runs : (s.bay b).act.recal = .running) :
    exec (.recalibrationComplete b) s = .next ((((s.recalEnded b).trackingReport b).retrySeek b).mediaTracking b) := by
  rw [exec_recalibrationComplete, execRecalibrationComplete, if_pos ⟨recalibrates, runs⟩]
  rfl

/-- A recalibration that failed has given up the seek in hand (R79). -/
def recalFailed (s : State) (b : BayId) : State :=
  (s.release b .actuator).modAct b fun x => { x with recal := .failed, seek := none, cylinder := none }

theorem recalFailed_bay (s : State) (b : BayId) : (s.recalFailed b).bay b =
    { s.bay b with act := { (s.bay b).act with recal := .failed, seek := none, cylinder := none } } := by
  rw [recalFailed, modAct_bay, release_bay]

theorem recalibrationFailed_eq (recalibrates : (s.bay b).act.state = .recalibrating) (runs : (s.bay b).act.recal = .running) :
    exec (.recalibrationFailed b) s = .next ((s.recalFailed b).positionLost b) := by
  rw [exec_recalibrationFailed, execRecalibrationFailed, if_pos ⟨recalibrates, runs⟩]
  rfl

/-- A track lost with the heads tracking: the seek held, the recalibration asked for, and the engine told (R80, R149). -/
theorem trackLoss_eq (tracks : (s.bay b).act.state = .tracking) :
    exec (.trackLoss b) s = .next (((s.holdSeek b).askRecal b).mediaTrackLost b) := by
  rw [exec_trackLoss, execTrackLoss, if_pos tracks]

theorem holdSeek_none (none : (s.bay b).act.seek = none) : s.holdSeek b = s := by
  simp only [holdSeek, none]

theorem askRecal_media (s : State) (b : BayId) : ((s.askRecal b).bay b).media = (s.bay b).media := by
  rw [askRecal, request_bay, modAct_bay]

theorem mediaTrackLost_none (none : (s.bay b).media.op = none) : s.mediaTrackLost b = s := by
  simp only [mediaTrackLost, none]

theorem mediaTrackLost_elsewhere {op : MediaOp} (flies : (s.bay b).media.op = some op) (stage : op.stage ≠ .atSector) :
    s.mediaTrackLost b = s := by
  simp only [mediaTrackLost, flies]
  exact if_neg stage

theorem modBay_congr {f g : Bay → Bay} (agree : f (s.bay b) = g (s.bay b)) : s.modBay b f = s.modBay b g := by
  cases b <;> simpa [modBay] using agree

/-- The operation in flight changed, by the operation it is. -/
theorem modOp_some {op : MediaOp} (flies : (s.bay b).media.op = some op) (f : MediaOp → MediaOp) :
    s.modOp b f = s.modMedia b fun m => { m with op := some (f op) } := by
  unfold modOp modMedia
  refine modBay_congr ?_
  simp only [flies, Option.map_some]

theorem modAct_congr {f g : Actuator → Actuator} (agree : f (s.bay b).act = g (s.bay b).act) : s.modAct b f = s.modAct b g :=
  modBay_congr (by rw [agree])

end State

/-- Settles O42: the loss by what the engine has in flight, and the two ends of a recalibration. -/
theorem recalibrationsEnd : Obligations.RecalibrationsEnd := by
  unfold Obligations.RecalibrationsEnd
  intro s b
  dsimp only
  refine ⟨fun elsewhere => ?_, fun tracks none => ⟨fun idle => ?_, fun op flies stage reads => ?_, fun op n flies stage kind arrival => ?_⟩,
    fun q tracks seek requested seeks => ?_, fun still => ⟨?_, ?_⟩, fun recalibrates runs => ⟨fun works none idle stalled => ?_,
    fun loads standing none idle stalled => ?_, fun loads standing none idle stalled => ?_, fun q op works seek retries media flies stage stalled cool => ⟨?_, ?_⟩,
    fun works => ?_, fun cleans => ?_⟩⟩
  · rw [exec_trackLoss, execTrackLoss, if_neg elsewhere]
  · rw [State.trackLoss_eq tracks, State.holdSeek_none none, State.mediaTrackLost_none (by rw [State.askRecal_media]; exact idle)]
    rfl
  · have inFlight : ((s.askRecal b).bay b).media.op = some op := by rw [State.askRecal_media]; exact flies
    rw [State.trackLoss_eq tracks, State.holdSeek_none none]
    simp only [State.mediaTrackLost, inFlight]
    rw [if_pos stage, if_pos reads, State.modOp_some inFlight]
    rfl
  · have inFlight : ((s.askRecal b).bay b).media.op = some op := by rw [State.askRecal_media]; exact flies
    rw [State.trackLoss_eq tracks, State.holdSeek_none none]
    simp only [State.mediaTrackLost, inFlight]
    rw [if_pos stage, if_neg (by simp [kind, OpKind.isRead])]
    simp only [State.writeBad, kind, arrival]
    rfl
  · have held : s.holdSeek b = (s.modAct b fun x => { x with seek := some { q with standing := .held } }).withdraw b .seek := by
      simp only [State.holdSeek, seek]
      exact if_pos requested
    have elsewhere : (((s.modAct b fun x => { x with seek := some { q with standing := .held } }).withdraw b .seek).askRecal b).mediaTrackLost b =
        ((s.modAct b fun x => { x with seek := some { q with standing := .held } }).withdraw b .seek).askRecal b := by
      have media : ((((s.modAct b fun x => { x with seek := some { q with standing := .held } }).withdraw b .seek).askRecal b).bay b).media =
          (s.bay b).media := by rw [State.askRecal_media, State.withdraw_bay, State.modAct_bay]
      cases flight : (s.bay b).media.op with
      | none => exact State.mediaTrackLost_none (by rw [media, flight])
      | some op => exact State.mediaTrackLost_elsewhere (by rw [media, flight]) (by rw [seeks op flight]; decide)
    rw [State.trackLoss_eq tracks, held, elsewhere]
    cases b <;> rfl
  · rw [exec_recalibrationComplete, execRecalibrationComplete, if_neg still]
  · rw [exec_recalibrationFailed, execRecalibrationFailed, if_neg still]
  · have bay := s.recalEnded_bay b
    rw [State.recalibrationComplete_eq recalibrates runs, State.trackingReport_works (by rw [bay]; exact works),
      State.retrySeek_none (by rw [bay]; exact none), State.mediaTracking_idle (by rw [bay]; exact idle) (by rw [bay]; exact stalled)]
    rfl
  · have bay := s.recalEnded_bay b
    have mounts : (s.recalEnded b).trackingReport b = ((s.recalEnded b).modRecord b fun r => { r with state := .mounting }).modMedia b
        fun m => { m with custody := some .labelRead } := by
      simp only [State.trackingReport, bay, loads, standing]
    rw [State.recalibrationComplete_eq recalibrates runs, mounts, State.retrySeek_none (by simp [bay, none]),
      State.mediaTracking_idle (by simp [bay, idle]) (by simpa [bay] using stalled)]
    rfl
  · have bay := s.recalEnded_bay b
    have ready : (s.recalEnded b).trackingReport b = (s.recalEnded b).enterReady b := by
      simp only [State.trackingReport, bay, loads, standing]
    rw [State.recalibrationComplete_eq recalibrates runs, ready, State.enterReady, State.retrySeek_none (by simp [bay, none]),
      State.mediaTracking_idle (by simp [bay, idle]) (by simpa [bay] using stalled)]
    rfl
  · intro few moves
    have bay := s.recalEnded_bay b
    have taken : (s.recalEnded b).retrySeek b = ((s.recalEnded b).modAct b fun x => { x with seek := some { q with
        attempt := q.attempt + 1, standing := .requested, distance := q.cylinder, direction := .up
        level := min 3 ((s.bay b).heat.offset + (s.bay b).act.downshift) } }).request b .seek
          (min 3 ((s.bay b).heat.offset + (s.bay b).act.downshift)) := by
      have planned : (s.recalEnded b).retrySeek b = (s.recalEnded b).planSeek b { q with attempt := q.attempt + 1 } := by
        simp only [State.retrySeek, State.takeSeek, bay, seek, retries, media, cool]
        rw [if_pos trivial, if_pos few, if_neg Bool.false_ne_true]
      have up : directionTo 0 q.cylinder = .up := if_pos (Nat.pos_of_ne_zero moves)
      have far : distanceTo 0 q.cylinder = q.cylinder := by simp [distanceTo]
      rw [planned]
      simp only [State.planSeek, bay, far, up, media, Bay.seekLevel, Bay.effectiveLevel]
      exact if_neg moves
    rw [State.recalibrationComplete_eq recalibrates runs, State.trackingReport_works (by rw [bay]; exact works), taken,
      State.mediaTracking_seeks (op := op) (by simpa [bay] using flies) (by simpa [bay] using stalled) stage]
    rfl
  · intro third n kind arrival
    have bay := s.recalEnded_bay b
    have given : (s.recalEnded b).retrySeek b = (((s.recalEnded b).modAct b fun x => { x with seek := none }).modMedia b fun m =>
        { m with state := .idle, op := none }).send (.failed b n) := by
      have spent : (s.recalEnded b).retrySeek b = ((s.recalEnded b).modAct b fun x => { x with seek := none }).mediaSeekFault b := by
        simp only [State.retrySeek, bay, seek, retries, media]
        rw [if_pos trivial, if_neg (by omega)]
      have inFlight : (((s.recalEnded b).modAct b fun x => { x with seek := none }).bay b).media.op = some op := by
        rw [State.modAct_bay, bay]
        exact flies
      rw [spent]
      simp only [State.mediaSeekFault, inFlight]
      rw [if_neg (by simp [kind, OpKind.isRead]), if_pos (by simp [kind, OpKind.isWrite])]
      simp only [State.writeBad, kind, arrival]
      rfl
    rw [State.recalibrationComplete_eq recalibrates runs, State.trackingReport_works (by rw [bay]; exact works), given,
      State.mediaTracking_idle (by simp) (by simp)]
    rfl
  · have bay := s.recalFailed_bay b
    obtain ⟨f, faulted, steers, record, act, rest, -⟩ := (s.recalFailed b).enterFault_positionLost b
    obtain ⟨l, n, entered⟩ := faulted.bay
    have more : (s.bay b).record.state ∈ [BayState.loading, .mounting, .ready, .raw, .parking, .ejecting] := by
      simp only [List.mem_cons, List.not_mem_nil, or_false] at works ⊢
      rcases works with state | state | state | state <;> simp only [state, true_or, or_true]
    rw [State.recalibrationFailed_eq recalibrates runs, State.positionLost_enters (by rw [bay]; exact more)]
    rw [entered] at record
    rw [bay] at act rest
    rw [if_neg (by rw [recalibrates]; decide)] at act
    refine ⟨_, rfl, (steers.latched (e := .positionLost) (by decide)).trans (faulted.event .positionLost rfl), by rw [record], by rw [record],
      act, rest.seek rfl, ?_, ?_, ?_, ?_⟩
    · exact steers.sent (faulted.sent (by simp [State.recalFailed, State.release, State.send]))
    · rw [steers.media, entered]
    · exact steers.other.trans (faulted.within.other.trans (by cases b <;> rfl))
    · rw [steers.queue, faulted.queue]
      cases b <;> rfl
  · have bay := s.recalFailed_bay b
    generalize ejects : ((s.recalFailed b).latch b .positionLost).modRecord b (fun r =>
      { r with eject := some { origin := .device, pulse := 1, saveMarker := false } }) = t
    have lost : (s.recalFailed b).positionLost b = t.enterUnload b := by
      simp only [State.positionLost, bay, cleans, ejects]
    have act : (t.bay b).act = ((s.recalFailed b).bay b).act := by rw [← ejects, State.modRecord_bay, State.latch_bay]
    obtain ⟨a, unloading, same⟩ := State.enterUnload_moving (s := t) (b := b) (by rw [act, bay, recalibrates]; decide)
    have steers := (State.Steers.refl b t).enterUnload
    have latches (e : BayEvent) : t.latched b e = (decide (e = .positionLost) || s.latched b e) := by
      rw [← ejects, State.latched, State.modRecord_bay]
      have set := (s.recalFailed b).latched_latch b b .positionLost e
      rw [State.latched] at set
      rw [set, State.latched, bay]
      simp [eq_comm, State.latched]
    rw [State.recalibrationFailed_eq recalibrates runs, lost]
    refine ⟨_, rfl, ?_, by rw [same], by rw [same], by rw [same]; exact unloading, ?_⟩
    · rw [steers.latched (by decide), latches]
      rfl
    · rw [steers.latched (by decide), latches]
      rfl

end Sys2Proof.Machine
end

section
/-! PROOFS. A seek completes (O40). -/

namespace Sys2Proof.Machine

/-- A state that a need for a seek has made of another: the head select, the actuator, the heat, the engine's operation and the notices
of one bay are other. -/
def State.Seeks (b : BayId) (s t : State) : Prop :=
  ∃ (more : List Signal) (p : BayPins) (a : Actuator) (h : Heat) (o : Option MediaOp),
    t = ({ s with signals := s.signals ++ more } : State).modBay b (fun y =>
      { y with pins := p, act := a, heat := h, media := { y.media with op := o } })

namespace State.Seeks

variable {b : BayId} {s t u : State}

theorem refl (b : BayId) (s : State) : Seeks b s s :=
  ⟨[], (s.bay b).pins, (s.bay b).act, (s.bay b).heat, (s.bay b).media.op, by cases b <;> simp [State.modBay, State.bay]⟩

theorem trans (h : Seeks b s t) (k : Seeks b t u) : Seeks b s u := by
  obtain ⟨more, p, a, g, o, rfl⟩ := h
  obtain ⟨later, p', a', g', o', rfl⟩ := k
  exact ⟨more ++ later, p', a', g', o', by cases b <;> simp [State.modBay]⟩

section
variable (h : Seeks b s t)
include h

theorem bay : ∃ p a g o, t.bay b = { s.bay b with pins := p, act := a, heat := g, media := { (s.bay b).media with op := o } } := by
  obtain ⟨more, p, a, g, o, rfl⟩ := h
  exact ⟨p, a, g, o, by cases b <;> rfl⟩
theorem record : (t.bay b).record = (s.bay b).record := by obtain ⟨p, a, g, o, same⟩ := h.bay; rw [same]
theorem latches : (t.bay b).latches = (s.bay b).latches := by obtain ⟨p, a, g, o, same⟩ := h.bay; rw [same]
theorem other : t.bay b.other = s.bay b.other := by obtain ⟨_, _, _, _, _, rfl⟩ := h; cases b <;> rfl
theorem queue : t.queue = s.queue := by obtain ⟨_, _, _, _, _, rfl⟩ := h; cases b <;> rfl

theorem modAct (f : Actuator → Actuator) : Seeks b s (t.modAct b f) :=
  h.trans ⟨[], (t.bay b).pins, f (t.bay b).act, (t.bay b).heat, (t.bay b).media.op,
    by cases b <;> simp [State.modAct, State.modBay, State.bay]⟩
theorem modHeat (f : Heat → Heat) : Seeks b s (t.modHeat b f) :=
  h.trans ⟨[], (t.bay b).pins, (t.bay b).act, f (t.bay b).heat, (t.bay b).media.op,
    by cases b <;> simp [State.modHeat, State.modBay, State.bay]⟩
theorem selectHead (n : Nat) : Seeks b s (t.selectHead b n) :=
  h.trans ⟨[], { (t.bay b).pins with headSelect := n }, (t.bay b).act, (t.bay b).heat, (t.bay b).media.op,
    by cases b <;> simp [State.selectHead, State.modPins, State.modBay, State.bay]⟩
theorem modOp (f : MediaOp → MediaOp) : Seeks b s (t.modOp b f) :=
  h.trans ⟨[], (t.bay b).pins, (t.bay b).act, (t.bay b).heat, (t.bay b).media.op.map f,
    by cases b <;> simp [State.modOp, State.modMedia, State.modBay, State.bay]⟩
theorem request (k : RequestKind) (l : Nat) : Seeks b s (t.request b k l) :=
  h.trans ⟨[.request b k l], (t.bay b).pins, (t.bay b).act, (t.bay b).heat, (t.bay b).media.op, by cases b <;> rfl⟩

theorem startSeek (q : SeekInHand) (l : Nat) : Seeks b s (t.startSeek b q l) := by
  unfold State.startSeek
  exact ((h.modAct _).selectHead _).modHeat _

theorem planSeek (q : SeekInHand) : Seeks b s (t.planSeek b q) := by
  simp only [State.planSeek]
  repeat' split
  · exact h
  · exact h.startSeek _ _
  · exact (h.modAct _).request _ _

theorem takeSeek (q : SeekInHand) : Seeks b s (t.takeSeek b q) := by
  unfold State.takeSeek
  split
  · exact h.modAct _
  · exact h.planSeek _

theorem seekNeed (r : Requester) (c n : Nat) : Seeks b s (t.seekNeed b r c n).1 := by
  unfold State.seekNeed
  repeat' split
  · exact h
  · exact h
  · exact h.takeSeek _

theorem askSeek (op : MediaOp) : Seeks b s (t.askSeek b op) := (h.seekNeed _ _ _).modOp _

theorem position (op : MediaOp) : Seeks b s (t.position b op) := by
  simp only [State.position]
  split
  · exact h.modOp _
  · exact h.askSeek _

theorem mediaAskAgain : Seeks b s (t.mediaAskAgain b) := by
  unfold State.mediaAskAgain
  repeat' split
  · exact h.position _
  · exact h
  · exact h

theorem sweepNext : Seeks b s (t.sweepNext b) := by
  unfold State.sweepNext
  split
  · exact h.seekNeed _ _ _
  · exact h

end

end State.Seeks

namespace State

variable {s : State} {b : BayId}

/-- With the heads away from a cylinder no seek is taken, and the actuator stands (R81). -/
theorem mediaAskAgain_away (away : (s.bay b).act.state ≠ .tracking) : ((s.mediaAskAgain b).bay b).act = (s.bay b).act := by
  have refused (op : MediaOp) : ((s.position b op).bay b).act = (s.bay b).act := by
    have need : s.seekNeed b .media op.target.cylinder op.target.head = (s, .notLoaded) := if_pos away
    simp only [position]
    rw [if_neg fun h => away h.2.1]
    simp only [askSeek, need]
    rw [modOp, modMedia_bay]
  unfold mediaAskAgain
  repeat' split
  · exact refused _
  · rfl
  · rfl

/-! ### The seek that completes (R84) -/

/-- The actuator of a seek complete, before the upshift test (R84). -/
def seekTracked (x : Actuator) (q : SeekInHand) (p : Plan) : Actuator :=
  { x with state := .tracking, cylinder := some q.cylinder, head := q.head, seek := none, failures := 0
           upshiftRun := min 1024 (x.upshiftRun + 1), plan := some { p with outcome := .completed } }

/-- The claim of the seek released, unless its distance is 0 (R84). -/
theorem releaseSeek_distance {p : Plan} (plan : (s.bay b).act.plan = some p) :
    s.releaseSeek b = if p.distance = 0 then s else s.release b .actuator := by
  have holds : (s.bay b).act.seekHoldsClaim = decide (p.distance ≠ 0) := by rw [Actuator.seekHoldsClaim, plan]; rfl
  rw [releaseSeek, holds]
  by_cases zero : p.distance = 0 <;> simp [zero]

/-- A seek that succeeds, before the upshift test (R84). -/
def seekEnded (s : State) (b : BayId) (p : Plan) : State := if p.distance = 0 then s else s.release b .actuator

theorem seekEnded_bay (s : State) (b : BayId) (p : Plan) (c : BayId) : (s.seekEnded b p).bay c = s.bay c := by
  unfold seekEnded
  split <;> cases c <;> rfl

theorem seekEnded_settings (s : State) (b : BayId) (p : Plan) : (s.seekEnded b p).settings = s.settings := by
  unfold seekEnded
  split <;> rfl

theorem seekEnded_queue (s : State) (b : BayId) (p : Plan) : (s.seekEnded b p).queue = s.queue := by
  unfold seekEnded
  split <;> rfl

theorem seekSucceeds_tracked {q : SeekInHand} {p : Plan} (plan : (s.bay b).act.plan = some p) (inForce : p.outcome = .inForce) :
    s.seekSucceeds b q = ((s.seekEnded b p).modAct b fun _ => seekTracked (s.bay b).act q p).upshiftTest b := by
  rw [seekSucceeds, releaseSeek_distance plan]
  refine congrArg (upshiftTest · b) (modAct_congr ?_)
  rw [show ((if p.distance = 0 then s else s.release b .actuator).bay b).act = (s.bay b).act from
    congrArg Bay.act (s.seekEnded_bay b p b), seekTracked, Actuator.endPlan, plan, Option.map_some, if_pos inForce]

/-- A seek that succeeds at the setting UPSHIFT RUN lowers F (R84). -/
theorem seekSucceeds_shifts {q : SeekInHand} {p : Plan} (plan : (s.bay b).act.plan = some p) (inForce : p.outcome = .inForce)
    (shifts : s.settings.upshiftRun ≤ min 1024 ((s.bay b).act.upshiftRun + 1) ∧ 0 < (s.bay b).act.downshift) :
    s.seekSucceeds b q = ((s.seekEnded b p).modAct b fun _ =>
      { seekTracked (s.bay b).act q p with downshift := (s.bay b).act.downshift - 1, upshiftRun := 0 }).latch b .upshift := by
  rw [seekSucceeds_tracked plan inForce]
  simp only [upshiftTest, modAct_bay, modAct_settings, seekEnded_settings]
  rw [if_pos (show s.settings.upshiftRun ≤ (seekTracked (s.bay b).act q p).upshiftRun ∧ 0 < (seekTracked (s.bay b).act q p).downshift from shifts),
    modAct_modAct]
  rfl

theorem seekSucceeds_stays {q : SeekInHand} {p : Plan} (plan : (s.bay b).act.plan = some p) (inForce : p.outcome = .inForce)
    (stays : ¬ (s.settings.upshiftRun ≤ min 1024 ((s.bay b).act.upshiftRun + 1) ∧ 0 < (s.bay b).act.downshift)) :
    s.seekSucceeds b q = (s.seekEnded b p).modAct b fun _ => seekTracked (s.bay b).act q p := by
  rw [seekSucceeds_tracked plan inForce]
  simp only [upshiftTest, modAct_bay, modAct_settings, seekEnded_settings]
  exact if_neg stays

/-- What a seek that succeeds leaves: the actuator tracks, with an event latched at most (R84). -/
theorem seekSucceeds_frame {q : SeekInHand} {p : Plan} (plan : (s.bay b).act.plan = some p) (inForce : p.outcome = .inForce) :
    (∃ a l, (s.seekSucceeds b q).bay b = { s.bay b with act := a, latches := l } ∧ a.state = .tracking) ∧
    (s.seekSucceeds b q).queue = s.queue ∧ (s.seekSucceeds b q).bay b.other = s.bay b.other := by
  by_cases shifts : s.settings.upshiftRun ≤ min 1024 ((s.bay b).act.upshiftRun + 1) ∧ 0 < (s.bay b).act.downshift
  · rw [seekSucceeds_shifts plan inForce shifts]
    refine ⟨⟨_, _, by rw [latch_bay, modAct_bay, seekEnded_bay], rfl⟩, by rw [latch_queue, modAct_queue, seekEnded_queue], ?_⟩
    exact Eq.trans (by cases b <;> rfl) (s.seekEnded_bay b p b.other)
  · rw [seekSucceeds_stays plan inForce shifts]
    refine ⟨⟨_, (s.bay b).latches, by rw [modAct_bay, seekEnded_bay], rfl⟩, by rw [modAct_queue, seekEnded_queue], ?_⟩
    exact Eq.trans (by cases b <;> rfl) (s.seekEnded_bay b p b.other)

/-! ### The requester goes on (R17, R142, R148) -/

theorem seekComplete_cannot {sample : Nat} {p : Plan} (plan : (s.bay b).act.plan = some p)
    (cannot : ¬ (max 1 (p.moving + p.settle) ≤ sample ∧ sample ≤ p.timeout)) : exec (.seekComplete b sample) s = .next s := by
  have unmet : ((s.bay b).act.plan.any fun p => p.mayComplete sample) = false := by rw [plan]; exact decide_eq_false cannot
  rw [exec_seekComplete, execSeekComplete, unmet]
  cases (s.bay b).act.runningSeek <;> rfl

theorem seekComplete_media {sample : Nat} {p : Plan} {q : SeekInHand} (running : (s.bay b).act.runningSeek = some q)
    (plan : (s.bay b).act.plan = some p) (can : max 1 (p.moving + p.settle) ≤ sample ∧ sample ≤ p.timeout) (media : q.requester = .media) :
    exec (.seekComplete b sample) s = .next ((s.seekSucceeds b q).mediaSeekDone b) := by
  have met : ((s.bay b).act.plan.any fun p => p.mayComplete sample) = true := by rw [plan]; exact decide_eq_true can
  rw [exec_seekComplete, execSeekComplete, running]
  dsimp only
  rw [if_pos met, media]

theorem seekComplete_sweep {sample : Nat} {p : Plan} {q : SeekInHand} (running : (s.bay b).act.runningSeek = some q)
    (plan : (s.bay b).act.plan = some p) (can : max 1 (p.moving + p.settle) ≤ sample ∧ sample ≤ p.timeout) (sweep : q.requester = .sweep) :
    exec (.seekComplete b sample) s = .next (((s.seekSucceeds b q).sweepEnded b).mediaAskAgain b) := by
  have met : ((s.bay b).act.plan.any fun p => p.mayComplete sample) = true := by rw [plan]; exact decide_eq_true can
  rw [exec_seekComplete, execSeekComplete, running]
  dsimp only
  rw [if_pos met, sweep]

theorem mediaSeekDone_sector {op : MediaOp} (flies : (s.bay b).media.op = some op) (kind : op.kind ≠ .slotSeek) :
    s.mediaSeekDone b = s.modMedia b fun m => { m with op := some { op with stage := .atSector } } := by
  simp only [mediaSeekDone, flies]
  rw [if_neg kind, modOp_some flies]

theorem mediaSeekDone_slot {op : MediaOp} (flies : (s.bay b).media.op = some op) (kind : op.kind = .slotSeek) (kept : op.orphan = false)
    (slot : (s.bay b).slot.state = .inProgress) (works : (s.bay b).record.state = .ready ∨ (s.bay b).record.state = .raw) :
    s.mediaSeekDone b = ((s.modMedia b fun m => { m with state := .idle, op := none }).modSlot b fun x =>
      { x with state := .done, result := .done, next := 1 }).latch b .resultReady := by
  simp only [mediaSeekDone, flies]
  rw [if_pos kind, if_neg (by simp [kept]), completeSlot_inProgress (by simpa [endOp] using slot),
    checkDrain_elsewhere (by rcases works with h | h <;> simp [endOp, h]) (by rcases works with h | h <;> simp [endOp, h])]
  rfl

/-- A sweep seek done in CLEANING before the last outward one: the bay counts it, and the next is asked for (R17, R18). -/
theorem sweepEnded_goesOn (cleans : (s.bay b).record.state = .cleaning)
    (goes : ¬ ((s.bay b).record.sweepOut = true ∧ 16 ≤ (if (s.bay b).record.sweepOut then min 16 ((s.bay b).record.trips + 1) else (s.bay b).record.trips))) :
    s.sweepEnded b = (s.modRecord b fun r => { r with
      trips := if (s.bay b).record.sweepOut then min 16 ((s.bay b).record.trips + 1) else (s.bay b).record.trips
      sweepOut := !(s.bay b).record.sweepOut }).sweepNext b := by
  simp only [sweepEnded]
  rw [if_pos cleans, if_neg goes]
  exact congrArg (sweepNext · b) (modRecord_congr rfl)

/-- The sixteenth trip ends the cycle, and the bay ejects (R18). -/
theorem sweepEnded_last (cleans : (s.bay b).record.state = .cleaning) (out : (s.bay b).record.sweepOut = true)
    (last : (s.bay b).record.trips = 15) :
    s.sweepEnded b = (((s.modRecord b fun r => { r with trips := 16, sweepOut := false }).latch b .cleanDone).modRecord b fun r =>
      { r with eject := some { origin := .device, pulse := 1, saveMarker := false } }).enterUnload b := by
  simp only [sweepEnded]
  rw [if_pos cleans, if_pos (by simp [out, last])]
  refine congrArg (fun t => ((State.latch t b .cleanDone).modRecord b fun r =>
    { r with eject := some { origin := .device, pulse := 1, saveMarker := false } }).enterUnload b) (modRecord_congr ?_)
  simp [out, last]

theorem sweepEnded_elsewhere (s : State) (b : BayId) :
    (s.sweepEnded b).queue = s.queue ∧ (s.sweepEnded b).bay b.other = s.bay b.other := by
  have within : Within b s (s.sweepEnded b) := by simp
  refine ⟨?_, within.other⟩
  have ejects (f g : BayRecord → BayRecord) : ((((s.modRecord b f).latch b .cleanDone).modRecord b g).enterUnload b).queue = s.queue := by
    rw [(Steers.refl b _).enterUnload.queue, modRecord_queue, latch_queue, modRecord_queue]
  have goes (f : BayRecord → BayRecord) : ((s.modRecord b f).sweepNext b).queue = s.queue := by
    rw [(Seeks.refl b _).sweepNext.queue, modRecord_queue]
  simp only [sweepEnded]
  repeat' split
  all_goals first | exact ejects _ _ | exact goes _ | rfl

end State

/-- Settles O40: the sample that completes, and where the requester of the seek goes on. -/
theorem seekCompletes : Obligations.SeekCompletes := by
  unfold Obligations.SeekCompletes
  intro s b sample q p
  dsimp only
  intro seeking seek plan inForce
  have running : (s.bay b).act.runningSeek = some q := by rw [Actuator.runningSeek, if_pos seeking, seek]
  obtain ⟨⟨a, l, bay, tracks⟩, queue, others⟩ := State.seekSucceeds_frame (s := s) (b := b) (q := q) plan inForce
  have goes : s.seekSucceeds b q =
      if s.settings.upshiftRun ≤ min 1024 ((s.bay b).act.upshiftRun + 1) ∧ 0 < (s.bay b).act.downshift then
        ((s.seekEnded b p).modAct b fun _ =>
          { State.seekTracked (s.bay b).act q p with downshift := (s.bay b).act.downshift - 1, upshiftRun := 0 }).latch b .upshift
      else (s.seekEnded b p).modAct b fun _ => State.seekTracked (s.bay b).act q p := by
    split
    · exact State.seekSucceeds_shifts plan inForce ‹_›
    · exact State.seekSucceeds_stays plan inForce ‹_›
  refine ⟨fun cannot => State.seekComplete_cannot plan cannot, fun can media op flies kind => ?_,
    fun can media op flies kind kept slot works => ?_, fun can sweep cleans => ?_⟩
  · rw [State.seekComplete_media running plan can media, State.mediaSeekDone_sector (op := op) (by rw [bay]; exact flies) kind, goes]
    by_cases shifts : s.settings.upshiftRun ≤ min 1024 ((s.bay b).act.upshiftRun + 1) ∧ 0 < (s.bay b).act.downshift
    · rw [if_pos shifts, if_pos shifts, if_pos shifts]
      rfl
    · rw [if_neg shifts, if_neg shifts, if_neg shifts]
      rfl
  · rw [State.seekComplete_media running plan can media, State.mediaSeekDone_slot (op := op) (by rw [bay]; exact flies) kind kept
      (by rw [bay]; exact slot) (by rw [bay]; exact works), goes]
    by_cases shifts : s.settings.upshiftRun ≤ min 1024 ((s.bay b).act.upshiftRun + 1) ∧ 0 < (s.bay b).act.downshift
    · rw [if_pos shifts, if_pos shifts, if_pos shifts]
      rfl
    · rw [if_neg shifts, if_neg shifts, if_neg shifts]
      rfl
  · rw [State.seekComplete_sweep running plan can sweep]
    generalize done : s.seekSucceeds b q = u at bay queue others
    have record : (u.bay b).record = (s.bay b).record := by rw [bay]
    have asks := (State.Seeks.refl b (u.sweepEnded b)).mediaAskAgain
    obtain ⟨endQueue, endOther⟩ := u.sweepEnded_elsewhere b
    refine ⟨_, rfl, asks.queue.trans (endQueue.trans queue), asks.other.trans (endOther.trans others), fun inward => ?_,
      fun outward trips => ?_, fun outward last => ?_⟩
    · rw [asks.record, State.sweepEnded_goesOn (by rw [record]; exact cleans) (by rw [record]; simp [inward]),
        (State.Seeks.refl b _).sweepNext.record, State.modRecord_bay, record, inward]
      rfl
    · have count : min 16 ((s.bay b).record.trips + 1) = (s.bay b).record.trips + 1 := by omega
      rw [asks.record, State.sweepEnded_goesOn (by rw [record]; exact cleans) (by rw [record]; simp [outward]; omega),
        (State.Seeks.refl b _).sweepNext.record, State.modRecord_bay, record, outward, if_pos rfl, count]
      rfl
    · have ends := State.sweepEnded_last (s := u) (b := b) (by rw [record]; exact cleans) (by rw [record]; exact outward)
        (by rw [record]; exact last)
      generalize ejects : ((u.modRecord b fun r => { r with trips := 16, sweepOut := false }).latch b .cleanDone).modRecord b (fun r =>
        { r with eject := some { origin := .device, pulse := 1, saveMarker := false } }) = t at ends
      have bayT : ∃ k, t.bay b = { u.bay b with record := { (u.bay b).record with trips := 16, sweepOut := false
                                                                                  eject := some { origin := .device, pulse := 1, saveMarker := false } }
                                                latches := k } :=
        ⟨_, by rw [← ejects, State.modRecord_bay, State.latch_bay, State.modRecord_bay]⟩
      obtain ⟨k, bayT⟩ := bayT
      obtain ⟨a', unloading, same⟩ := State.enterUnload_moving (s := t) (b := b) (by rw [bayT, bay, tracks]; decide)
      have set : t.latched b .cleanDone = true := by
        have raised := (u.modRecord b fun r => { r with trips := 16, sweepOut := false }).latched_latch b b .cleanDone .cleanDone
        rw [State.latched] at raised
        rw [← ejects, State.latched, State.modRecord_bay]
        exact raised.trans (by simp)
      rw [State.latched, asks.latches, asks.record, State.mediaAskAgain_away (by rw [ends, same, unloading]; decide), ends]
      refine ⟨?_, ?_, ?_, ?_, ?_⟩
      · exact ((State.Steers.refl b t).enterUnload.latched (by decide)).trans set
      · rw [same, bayT]
      · rw [same]
      · rw [same]
      · rw [same]
        exact unloading

end Sys2Proof.Machine
end

section
/-! PROOFS. An evaluation of the coil heat (O44). -/

namespace Sys2Proof.Machine

/-! ### The monitor (R95, R97 to R102) -/

namespace Heat

variable (x : Heat) (c : Settings)

/-- The estimate decayed (R95). -/
def decayed : Nat := x.estimate - x.estimate / 16

/-- Whether an evaluation raises the offset (R98). -/
def Rises : Prop := c.heatTop < x.decayed ∧ x.overTop = true ∧ x.offset < 3 ∧ x.delay - 1 = 0

/-- Whether an evaluation lowers the offset, if it does not raise it (R99). -/
def Falls : Prop := x.decayed < c.heatRelease ∧ 0 < x.offset ∧ x.delay - 1 = 0

theorem stepsUp_iff : x.decay.stepsUp c.heatTop = true ↔ x.Rises c := decide_eq_true_iff
theorem stepsDown_iff : x.decay.stepsDown c.heatRelease = true ↔ x.Falls c := decide_eq_true_iff

theorem evaluate_rises (up : x.Rises c) :
    (x.evaluate c).offset = x.offset + 1 ∧ (x.evaluate c).delay = 120 * c.adjustDelay := by
  have steps := (x.stepsUp_iff c).2 up
  simp only [evaluate, steps, true_or, if_true]
  exact ⟨rfl, rfl⟩

theorem evaluate_falls (up : ¬ x.Rises c) (down : x.Falls c) :
    (x.evaluate c).offset = x.offset - 1 ∧ (x.evaluate c).delay = 120 * c.adjustDelay := by
  have steps := mt (x.stepsUp_iff c).1 up
  have lowers := (x.stepsDown_iff c).2 down
  simp only [evaluate, steps, lowers, or_true, if_true, if_false, Bool.false_eq_true]
  exact ⟨rfl, rfl⟩

theorem evaluate_stands (up : ¬ x.Rises c) (down : ¬ x.Falls c) :
    (x.evaluate c).offset = x.offset ∧ (x.evaluate c).delay = x.delay - 1 := by
  have steps := mt (x.stepsUp_iff c).1 up
  have lowers := mt (x.stepsDown_iff c).1 down
  simp only [evaluate, steps, lowers, or_self, if_false, Bool.false_eq_true]
  exact ⟨rfl, rfl⟩

theorem evaluate_offset_ne : (x.evaluate c).offset ≠ x.offset ↔ x.Rises c ∨ x.Falls c := by
  by_cases up : x.Rises c
  · rw [(x.evaluate_rises c up).1]
    exact ⟨fun _ => .inl up, fun _ => by omega⟩
  · by_cases down : x.Falls c
    · rw [(x.evaluate_falls c up down).1]
      exact ⟨fun _ => .inr down, fun _ => by have := down.2.1; omega⟩
    · rw [(x.evaluate_stands c up down).1]
      simp [up, down]

theorem evaluate_hot : (x.evaluate c).hot =
    if x.hot then decide (c.heatTop < x.decayed) else decide (c.heatTrip < x.decayed) && x.overTrip := by
  have judged : (x.evaluate c).hot = if x.hot then !decide (x.hot = true ∧ x.decayed ≤ c.heatTop)
      else decide (x.hot = false ∧ c.heatTrip < x.decayed ∧ x.overTrip = true) := rfl
  rw [judged]
  cases hot : x.hot with
  | false => simp
  | true =>
    rw [if_pos rfl, if_pos rfl, ← decide_not]
    exact decide_eq_decide.2 (by simp)

end Heat

namespace State

variable {s : State} {b : BayId}

/-! ### One evaluation of a bay: the monitor and its events (R95, R173) -/

/-- The bay's monitor evaluated, and the events of its changes latched, before the actuator takes the flag. -/
def heatTaken (s : State) (b : BayId) : State :=
  let h := (s.bay b).heat
  let g := h.evaluate s.settings
  let s := s.modHeat b fun _ => g
  let s := if g.offset ≠ h.offset then s.latch b .heatStep else s
  if g.hot = h.hot then s else if g.hot then s.latch b .coilHot else s.latch b .coilCool

theorem evaluateBay_eq (s : State) (b : BayId) : s.evaluateBay b =
    if ((s.bay b).heat.evaluate s.settings).hot = (s.bay b).heat.hot then s.heatTaken b
    else if ((s.bay b).heat.evaluate s.settings).hot then (s.heatTaken b).holdSeek b else (s.heatTaken b).takeHeld b := by
  simp only [evaluateBay, heatTaken]
  by_cases same : ((s.bay b).heat.evaluate s.settings).hot = (s.bay b).heat.hot
  · rw [if_pos same, if_pos same, if_pos same]
  · rw [if_neg same, if_neg same, if_neg same]
    by_cases hot : ((s.bay b).heat.evaluate s.settings).hot = true
    · rw [if_pos hot, if_pos hot, if_pos hot]
    · rw [if_neg hot, if_neg hot, if_neg hot]

/-- The bay's monitor evaluated; its latches by the events of its changes. -/
theorem heatTaken_frame (s : State) (b : BayId) : ∃ l, s.heatTaken b =
    s.modBay b fun y => { y with heat := (s.bay b).heat.evaluate s.settings, latches := l } := by
  simp only [heatTaken]
  repeat' split
  all_goals cases b <;> exact ⟨_, rfl⟩

theorem heatTaken_latched (s : State) (b : BayId) (e : BayEvent) : (s.heatTaken b).latched b e = (s.latched b e ||
      (decide (e = .heatStep) && decide (((s.bay b).heat.evaluate s.settings).offset ≠ (s.bay b).heat.offset)) ||
      (decide (e = .coilHot) && !(s.bay b).heat.hot && ((s.bay b).heat.evaluate s.settings).hot) ||
      (decide (e = .coilCool) && (s.bay b).heat.hot && !((s.bay b).heat.evaluate s.settings).hot)) := by
  have heated : (s.modHeat b fun _ => (s.bay b).heat.evaluate s.settings).latched b e = s.latched b e := by cases b <;> rfl
  have stepped : (if ((s.bay b).heat.evaluate s.settings).offset ≠ (s.bay b).heat.offset then
        (s.modHeat b fun _ => (s.bay b).heat.evaluate s.settings).latch b .heatStep
      else s.modHeat b fun _ => (s.bay b).heat.evaluate s.settings).latched b e = (s.latched b e ||
      (decide (e = .heatStep) && decide (((s.bay b).heat.evaluate s.settings).offset ≠ (s.bay b).heat.offset))) := by
    split
    · rename_i steps
      rw [latched_latch, heated, decide_eq_true steps]
      simp [eq_comm, Bool.or_comm]
    · rename_i stands
      rw [heated, decide_eq_false stands]
      simp
  simp only [heatTaken]
  generalize (if ((s.bay b).heat.evaluate s.settings).offset ≠ (s.bay b).heat.offset then
        (s.modHeat b fun _ => (s.bay b).heat.evaluate s.settings).latch b .heatStep
      else s.modHeat b fun _ => (s.bay b).heat.evaluate s.settings) = t at stepped ⊢
  cases old : (s.bay b).heat.hot <;> cases new : ((s.bay b).heat.evaluate s.settings).hot
  · simp [stepped]
  · simp only [Bool.true_eq_false, if_false, if_true]
    rw [latched_latch, stepped]
    simp [eq_comm, Bool.or_comm]
  · simp only [Bool.false_eq_true, if_false]
    rw [latched_latch, stepped]
    simp [eq_comm, Bool.or_comm]
  · simp [stepped]

end State

end Sys2Proof.Machine
end

section
/-! PROOFS. The seek held and taken at an evaluation (O44). -/

namespace Sys2Proof.Machine

namespace State

variable {s t : State} {b : BayId}

/-! ### The actuator takes the flag (R82, R83) -/

theorem holdSeek_requested {q : SeekInHand} (seek : (s.bay b).act.seek = some q) (requested : q.standing = .requested) :
    s.holdSeek b = (s.modAct b fun x => { x with seek := some { q with standing := .held } }).withdraw b .seek := by
  simp only [holdSeek, seek]
  exact if_pos requested

theorem holdSeek_other (other : ∀ q, (s.bay b).act.seek = some q → q.standing ≠ .requested) : s.holdSeek b = s := by
  unfold holdSeek
  split
  · exact if_neg (other _ ‹_›)
  · rfl

theorem takeHeld_other (other : ∀ q, (s.bay b).act.seek = some q → q.standing ≠ .held ∨ (s.bay b).act.state ≠ .tracking) :
    s.takeHeld b = s := by
  unfold takeHeld
  split
  · rename_i q seek
    exact if_neg fun h => (other q seek).elim (fun n => n h.1) fun n => n h.2.1
  · rfl

theorem takeHeld_planned {q : SeekInHand} (seek : (s.bay b).act.seek = some q) (held : q.standing = .held)
    (tracks : (s.bay b).act.state = .tracking) (cool : (s.bay b).heat.hot = false) : s.takeHeld b = s.planSeek b q := by
  simp only [takeHeld, seek]
  exact if_pos ⟨held, tracks, cool⟩

/-- A seek taken for planning to another cylinder sends its request (R63, R64). -/
theorem planSeek_moves {q : SeekInHand} {c : Nat} (cylinder : (s.bay b).act.cylinder = some c) (other : q.cylinder ≠ c) :
    s.planSeek b q = (s.modAct b fun x => { x with seek := some { q with
      standing := .requested, level := (s.bay b).seekLevel q.requester
      distance := if c < q.cylinder then q.cylinder - c else c - q.cylinder
      direction := if c < q.cylinder then .up else .down } }).request b .seek ((s.bay b).seekLevel q.requester) := by
  have far : distanceTo c q.cylinder = if c < q.cylinder then q.cylinder - c else c - q.cylinder := by
    unfold distanceTo
    split <;> omega
  have way : directionTo c q.cylinder = if c < q.cylinder then .up else .down := by
    unfold directionTo
    split
    · rfl
    · exact if_pos (by omega)
  simp only [planSeek, cylinder]
  rw [far, way, if_neg (by split <;> omega)]

/-- A seek taken for planning to the cylinder the heads stand on runs at once (R63, R64). -/
theorem planSeek_stays {q : SeekInHand} (cylinder : (s.bay b).act.cylinder = some q.cylinder) :
    s.planSeek b q = s.startSeek b { q with distance := 0, direction := .none, level := (s.bay b).seekLevel q.requester }
      ((s.bay b).seekLevel q.requester) := by
  have far : distanceTo q.cylinder q.cylinder = 0 := by simp [distanceTo]
  have way : directionTo q.cylinder q.cylinder = .none := by simp [directionTo]
  simp only [planSeek, cylinder]
  rw [far, way, if_pos rfl]

theorem startSeek_bay (s : State) (b : BayId) (q : SeekInHand) (l : Nat) : (s.startSeek b q l).bay b = { s.bay b with
    pins := { (s.bay b).pins with headSelect := q.head }
    act := { (s.bay b).act with state := .seeking, seek := some { q with standing := .running }
                                plan := some (makePlan q.cylinder q.head q.distance q.direction q.level l) }
    heat := (s.bay b).heat.add (makePlan q.cylinder q.head q.distance q.direction q.level l).heatAdd } := by
  simp only [startSeek]
  cases b <;> rfl

theorem makePlan_still_heat (c h e l : Nat) (d : Direction) : (makePlan c h 0 d e l).heatAdd = 0 := Nat.mul_zero _

theorem Seeks.takeHeld (h : Seeks b s t) : Seeks b s (t.takeHeld b) := by
  unfold State.takeHeld
  repeat' split
  · exact h.planSeek _
  · exact h
  · exact h

theorem Seeks.withdraw (h : Seeks b s t) (k : RequestKind) : Seeks b s (t.withdraw b k) :=
  h.trans ⟨[.withdraw b k], (t.bay b).pins, (t.bay b).act, (t.bay b).heat, (t.bay b).media.op, by cases b <;> rfl⟩

theorem Seeks.holdSeek (h : Seeks b s t) : Seeks b s (t.holdSeek b) := by
  unfold State.holdSeek
  repeat' split
  · exact (h.modAct _).withdraw _
  · exact h
  · exact h

theorem Seeks.signals (h : Seeks b s t) : ∃ more, t.signals = s.signals ++ more := by
  obtain ⟨more, p, a, g, o, rfl⟩ := h
  exact ⟨more, by cases b <;> rfl⟩

theorem Seeks.settings (h : Seeks b s t) : t.settings = s.settings := by obtain ⟨_, _, _, _, _, rfl⟩ := h; cases b <;> rfl

end State

/-! ### An evaluation of a bay -/

/-- What an evaluation of a bay leaves of it, by the bay as it stood, the settings and the notices under way (R95 to R102). -/
structure State.Evaluated (b : BayId) (c : Settings) (y : Bay) (t : State) : Prop where
  kept    : (t.bay b).record = y.record ∧ (t.bay b).spindle = y.spindle ∧ (t.bay b).media = y.media ∧ (t.bay b).slot = y.slot ∧
    (t.bay b).map = y.map
  heat    : (t.bay b).heat = y.heat.evaluate c ∨ (t.bay b).heat = (y.heat.evaluate c).add 0
  latched : ∀ e : BayEvent, t.latched b e = (y.latches.events.getLsbD e.bit ||
      (decide (e = .heatStep) && decide ((y.heat.evaluate c).offset ≠ y.heat.offset)) ||
      (decide (e = .coilHot) && !y.heat.hot && (y.heat.evaluate c).hot) ||
      (decide (e = .coilCool) && y.heat.hot && !(y.heat.evaluate c).hot))
  same    : (y.heat.evaluate c).hot = y.heat.hot → (t.bay b).act = y.act
  holds   : y.heat.hot = false → (y.heat.evaluate c).hot = true → ∀ q, y.act.seek = some q →
    (t.bay b).act.seek = some (if q.standing = .requested then { q with standing := .held } else q) ∧
    (q.standing = .requested → Signal.withdraw b .seek ∈ t.signals)
  stands  : y.heat.hot = true → (y.heat.evaluate c).hot = false →
    (∀ q, y.act.seek = some q → q.standing ≠ .held ∨ y.act.state ≠ .tracking) → (t.bay b).act = y.act
  takes   : y.heat.hot = true → (y.heat.evaluate c).hot = false → ∀ q from_, y.act.seek = some q → q.standing = .held →
    y.act.state = .tracking → y.act.cylinder = some from_ →
    let e := if q.requester = .sweep then 3 else min 3 ((y.heat.evaluate c).offset + y.act.downshift)
    (q.cylinder ≠ from_ →
      (t.bay b).pins = y.pins ∧ Signal.request b .seek e ∈ t.signals ∧
      (t.bay b).act = { y.act with seek := some { q with
        standing := .requested, level := e
        distance := if from_ < q.cylinder then q.cylinder - from_ else from_ - q.cylinder
        direction := if from_ < q.cylinder then .up else .down } }) ∧
    (q.cylinder = from_ →
      (t.bay b).pins = { y.pins with headSelect := q.head } ∧
      (t.bay b).act = { y.act with
        state := .seeking
        seek := some { q with standing := .running, level := e, distance := 0, direction := .none }
        plan := some (makePlan q.cylinder q.head 0 .none e e) })

namespace State

variable {s t : State} {b : BayId}

theorem Evaluated.later {c : Settings} {y : Bay} (h : Evaluated b c y s) (bay : t.bay b = s.bay b)
    (signals : ∃ more, t.signals = s.signals ++ more) : Evaluated b c y t := by
  obtain ⟨more, sent⟩ := signals
  have mem {x : Signal} (early : x ∈ s.signals) : x ∈ t.signals := sent ▸ List.mem_append_left _ early
  have latched (e : BayEvent) : t.latched b e = s.latched b e := by rw [State.latched, bay]; rfl
  refine ⟨by rw [bay]; exact h.kept, by rw [bay]; exact h.heat, fun e => (latched e).trans (h.latched e), fun hot => by rw [bay]; exact h.same hot,
    fun old new q seek => ?_, fun old new other => by rw [bay]; exact h.stands old new other, fun old new q from_ seek held tracks cylinder => ?_⟩
  · rw [bay]
    exact ⟨(h.holds old new q seek).1, fun requested => mem ((h.holds old new q seek).2 requested)⟩
  · obtain ⟨moves, stays⟩ := h.takes old new q from_ seek held tracks cylinder
    rw [bay]
    exact ⟨fun other => ⟨(moves other).1, mem (moves other).2.1, (moves other).2.2⟩, stays⟩

theorem holdSeek_bay (s : State) (b : BayId) : ∃ a, (s.holdSeek b).bay b = { s.bay b with act := a } := by
  unfold holdSeek
  repeat' split
  · exact ⟨_, by rw [withdraw_bay, modAct_bay]⟩
  · exact ⟨_, rfl⟩
  · exact ⟨_, rfl⟩

/-- A HELD seek taken leaves the heat as it is, but for the add of its plan (R94). -/
theorem takeHeld_bay (s : State) (b : BayId) : ∃ p a g, (g = (s.bay b).heat ∨ g = (s.bay b).heat.add 0) ∧
    (s.takeHeld b).bay b = { s.bay b with pins := p, act := a, heat := g } := by
  have planned (q : SeekInHand) : ∃ p a g, (g = (s.bay b).heat ∨ g = (s.bay b).heat.add 0) ∧
      (s.planSeek b q).bay b = { s.bay b with pins := p, act := a, heat := g } := by
    cases cylinder : (s.bay b).act.cylinder with
    | none =>
      simp only [planSeek, cylinder]
      exact ⟨_, _, _, .inl rfl, rfl⟩
    | some c =>
      by_cases stays : q.cylinder = c
      · rw [planSeek_stays (by rw [cylinder, stays]), startSeek_bay, makePlan_still_heat]
        exact ⟨_, _, _, .inr rfl, rfl⟩
      · rw [planSeek_moves cylinder stays, request_bay, modAct_bay]
        exact ⟨_, _, _, .inl rfl, rfl⟩
  unfold takeHeld
  repeat' split
  · exact planned _
  · exact ⟨_, _, _, .inl rfl, rfl⟩
  · exact ⟨_, _, _, .inl rfl, rfl⟩

theorem heatTaken_bay (s : State) (b : BayId) : ∃ l, (s.heatTaken b).bay b =
    { s.bay b with heat := (s.bay b).heat.evaluate s.settings, latches := l } := by
  obtain ⟨l, taken⟩ := s.heatTaken_frame b
  exact ⟨l, by rw [taken, modBay_bay]⟩

theorem evaluateBay_bay (s : State) (b : BayId) : ∃ p a g,
    (g = (s.bay b).heat.evaluate s.settings ∨ g = ((s.bay b).heat.evaluate s.settings).add 0) ∧
    (s.evaluateBay b).bay b = { s.bay b with pins := p, act := a, heat := g, latches := ((s.heatTaken b).bay b).latches } := by
  obtain ⟨l, taken⟩ := s.heatTaken_bay b
  rw [evaluateBay_eq]
  repeat' split
  · exact ⟨_, _, _, .inl rfl, taken.trans (by rw [taken])⟩
  · obtain ⟨a, same⟩ := (s.heatTaken b).holdSeek_bay b
    exact ⟨_, a, _, .inl rfl, by rw [same, taken]⟩
  · obtain ⟨p, a, g, heat, same⟩ := (s.heatTaken b).takeHeld_bay b
    rw [taken] at heat
    exact ⟨p, a, g, heat, by rw [same, taken]⟩

theorem evaluateBay_evaluated (s : State) (b : BayId) : Evaluated b s.settings (s.bay b) (s.evaluateBay b) := by
  obtain ⟨l, taken⟩ := s.heatTaken_bay b
  have act : ((s.heatTaken b).bay b).act = (s.bay b).act := by rw [taken]
  obtain ⟨p, a, g, heat, bay⟩ := s.evaluateBay_bay b
  have cooled (old : (s.bay b).heat.hot = true) (new : ((s.bay b).heat.evaluate s.settings).hot = false) :
      s.evaluateBay b = (s.heatTaken b).takeHeld b := by
    rw [evaluateBay_eq, if_neg (by simp [old, new]), if_neg (by simp [new])]
  refine ⟨by rw [bay]; exact ⟨rfl, rfl, rfl, rfl, rfl⟩, by rw [bay]; exact heat, fun e => ?_, fun same => ?_, fun old new q seek => ?_,
    fun old new other => ?_, fun old new q from_ seek held tracks cylinder => ?_⟩
  · rw [State.latched, bay]
    exact s.heatTaken_latched b e
  · rw [evaluateBay_eq, if_pos same, act]
  · rw [evaluateBay_eq, if_neg (by simp [old, new]), if_pos new]
    by_cases requested : q.standing = .requested
    · rw [holdSeek_requested (by rw [act]; exact seek) requested, if_pos requested, withdraw_bay, modAct_bay]
      exact ⟨rfl, fun _ => by simp [withdraw, send]⟩
    · rw [holdSeek_other (fun r same => by rw [act, seek] at same; obtain rfl := Option.some.inj same; exact requested), if_neg requested, act]
      exact ⟨seek, fun asked => absurd asked requested⟩
  · rw [cooled old new, takeHeld_other (by rw [act]; exact other), act]
  · have cool : ((s.heatTaken b).bay b).heat.hot = false := by rw [taken]; exact new
    have level : ((s.heatTaken b).bay b).seekLevel q.requester =
        if q.requester = .sweep then 3 else min 3 (((s.bay b).heat.evaluate s.settings).offset + (s.bay b).act.downshift) := by
      rw [taken]
      cases q.requester <;> rfl
    rw [cooled old new, takeHeld_planned (by rw [act]; exact seek) held (by rw [act]; exact tracks) cool]
    refine ⟨fun other => ?_, fun same => ?_⟩
    · rw [planSeek_moves (by rw [act]; exact cylinder) other, level, request_bay, modAct_bay, taken]
      exact ⟨rfl, by simp [request, send], rfl⟩
    · rw [planSeek_stays (by rw [act, cylinder, same]), level, startSeek_bay, taken]
      exact ⟨rfl, rfl⟩

/-- Nothing but its own bay, and the notices, is other after an evaluation of a bay. -/
theorem evaluateBay_frame (s : State) (b : BayId) : Within b s (s.evaluateBay b) ∧ (s.evaluateBay b).queue = s.queue ∧
    ∃ more, (s.evaluateBay b).signals = s.signals ++ more := by
  obtain ⟨l, taken⟩ := s.heatTaken_frame b
  have seeks : Seeks b (s.heatTaken b) (s.evaluateBay b) := by
    rw [evaluateBay_eq]
    repeat' split
    · exact .refl b _
    · exact (Seeks.refl b _).holdSeek
    · exact (Seeks.refl b _).takeHeld
  obtain ⟨more, sent⟩ := seeks.signals
  exact ⟨by simp, by rw [seeks.queue, taken, modBay_queue], more, by rw [sent, taken, modBay_signals]⟩

end State

/-- Settles O44: each bay by itself, bay A first. -/
theorem evaluationStepsTheHeat : Obligations.EvaluationStepsTheHeat := by
  unfold Obligations.EvaluationStepsTheHeat
  intro s
  generalize due : ({ s.clockTo s.nextEval with nextEval := s.nextEval + Config.evaluationPeriod } : State) = u
  have bayU (b : BayId) : u.bay b = s.bay b := by rw [← due]; cases b <;> rfl
  have settings : u.settings = s.settings := by rw [← due]; rfl
  obtain ⟨withinA, queueA, -⟩ := u.evaluateBay_frame .bayA
  obtain ⟨withinB, queueB, signalsB⟩ := (u.evaluateBay .bayA).evaluateBay_frame .bayB
  have meaning : exec .evaluation s = .next ((u.evaluateBay .bayA).evaluateBay .bayB) := by
    rw [exec_evaluation, ← due]
    rfl
  have evaluated (b : BayId) : State.Evaluated b s.settings (s.bay b) ((u.evaluateBay .bayA).evaluateBay .bayB) := by
    cases b with
    | bayA =>
      have here := u.evaluateBay_evaluated .bayA
      rw [bayU, settings] at here
      exact here.later withinB.other signalsB
    | bayB =>
      have here := (u.evaluateBay .bayA).evaluateBay_evaluated .bayB
      rw [show (u.evaluateBay .bayA).bay .bayB = s.bay .bayB from withinA.other.trans (bayU .bayB), withinA.settings, settings] at here
      exact here
  refine ⟨_, meaning, ?_, ?_, ?_, ?_, fun b => ?_⟩
  · rw [withinB.clock, withinA.clock, ← due]
    rfl
  · rw [withinB.nextEval, withinA.nextEval, ← due]
    rfl
  · rw [queueB, queueA, ← due]
    rfl
  · rw [withinB.budget, withinA.budget, ← due]
    rfl
  · have seen := evaluated b
    generalize (u.evaluateBay .bayA).evaluateBay .bayB = t at seen
    have hot := (s.bay b).heat.evaluate_hot s.settings
    obtain ⟨record, spindle, media, slot, map⟩ := seen.kept
    have figures : (t.bay b).heat.overTop = ((s.bay b).heat.evaluate s.settings).overTop ∧
        (t.bay b).heat.overTrip = ((s.bay b).heat.evaluate s.settings).overTrip ∧
        (t.bay b).heat.hot = ((s.bay b).heat.evaluate s.settings).hot ∧
        (t.bay b).heat.offset = ((s.bay b).heat.evaluate s.settings).offset ∧
        (t.bay b).heat.delay = ((s.bay b).heat.evaluate s.settings).delay := by
      rcases seen.heat with same | same <;> rw [same] <;> exact ⟨rfl, rfl, rfl, rfl, rfl⟩
    obtain ⟨overTop, overTrip, flag, offset, delay⟩ := figures
    have decayed : ((s.bay b).heat.evaluate s.settings).estimate = (s.bay b).heat.decayed := rfl
    dsimp only
    rw [offset]
    refine ⟨record, spindle, media, slot, map, fun small => ?_, overTop, overTrip, flag.trans hot, fun up => ?_, fun up down => ?_,
      fun up down => ?_, fun e => ?_, fun same => seen.same (hot.trans same), fun old new => seen.holds old (hot.trans new),
      fun old new => ⟨seen.stands old (hot.trans new), seen.takes old (hot.trans new)⟩⟩
    · rcases seen.heat with same | same <;> rw [same]
      · rfl
      · have less : (s.bay b).heat.decayed ≤ (s.bay b).heat.estimate := Nat.sub_le ..
        exact Nat.min_eq_right (Nat.le_trans less small)
    · rw [delay]
      exact (s.bay b).heat.evaluate_rises s.settings up
    · rw [delay]
      exact (s.bay b).heat.evaluate_falls s.settings up down
    · rw [delay]
      exact (s.bay b).heat.evaluate_stands s.settings up down
    · refine (seen.latched e).trans ?_
      rw [hot, decide_eq_decide.2 ((s.bay b).heat.evaluate_offset_ne s.settings)]
      rfl

end Sys2Proof.Machine
end

section
/-! PROOFS. The passes of a sector read (O46). -/

namespace Sys2Proof.Machine

/-- A table filled with no entries (R118). -/
theorem RemapTable.fill_nil (t : RemapTable) (g : Nat) :
    t.fill [] g = { t with entries := Vector.replicate 64 none, dirty := false, generation := g } := by
  rw [RemapTable.fill]
  congr 1

namespace State

variable {s t : State} {b : BayId} {op : MediaOp}

/-! ### The operation on its sector -/

theorem atSector_some (flies : (s.bay b).media.op = some op) (stage : op.stage = .atSector) : (s.bay b).media.atSector = some op := by
  rw [Media.atSector, flies]
  exact Option.filter_some_pos (decide_eq_true stage)

theorem isWrite_of_isRead (reads : op.kind.isRead = true) : op.kind.isWrite = false := by
  cases kind : op.kind <;> rw [kind] at reads <;> first | rfl | contradiction

theorem isRead_of_isWrite (writes : op.kind.isWrite = true) : op.kind.isRead = false := by
  cases kind : op.kind <;> rw [kind] at writes <;> first | rfl | contradiction

theorem readPassEnd_bad (flies : (s.bay b).media.op = some op) (stage : op.stage = .atSector) (reads : op.kind.isRead = true) :
    exec (.readPassEnd b .bad) s = .next (s.passFails b op) := by
  rw [exec_readPassEnd, execReadPassEnd, atSector_some flies stage]
  exact if_pos reads

theorem readPassEnd_good (flies : (s.bay b).media.op = some op) (stage : op.stage = .atSector) (reads : op.kind.isRead = true) (data : Sector) :
    exec (.readPassEnd b (.good data)) s = .next (s.readGood b op data) := by
  rw [exec_readPassEnd, execReadPassEnd, atSector_some flies stage]
  exact if_pos reads

/-! ### Reads in a bay that works (R143, R145) -/

theorem passFails_last (last : 17 ≤ op.passes + 1) : s.passFails b op = (s.raise b .hardReadErrors 1).readBad b op .hardError := if_pos last

theorem passFails_ninth (ninth : op.passes + 1 = 9) :
    s.passFails b op = (s.modOp b fun o => { o with passes := op.passes + 1, stage := .awaitRecal }).askRecal b := by
  simp only [passFails]
  rw [if_neg (by omega), if_pos ninth]

theorem passFails_again (few : op.passes + 1 < 17) (other : op.passes + 1 ≠ 9) :
    s.passFails b op = s.modOp b fun o => { o with passes := op.passes + 1 } := by
  simp only [passFails]
  rw [if_neg (by omega), if_neg other]

/-- A bay that works has no drain to check after an operation that ends (R158). -/
theorem checkDrain_works (works : (s.bay b).record.state = .ready ∨ (s.bay b).record.state = .raw) : s.checkDrain b = s :=
  checkDrain_elsewhere (by rcases works with h | h <;> simp [h]) (by rcases works with h | h <;> simp [h])

theorem raise_record (s : State) (b : BayId) (n : CounterName) (k : Nat) : ((s.raise b n k).bay b).record = (s.bay b).record := by
  obtain ⟨c, l, bay⟩ := s.raise_bay b n k
  rw [bay]

theorem raise_slot (s : State) (b : BayId) (n : CounterName) (k : Nat) : ((s.raise b n k).bay b).slot = (s.bay b).slot := by
  obtain ⟨c, l, bay⟩ := s.raise_bay b n k
  rw [bay]

/-- The request of an operation that ends in a bay that works is completed, and no more. -/
theorem completeSlot_works (slot : (s.bay b).slot.state = .inProgress)
    (works : (s.bay b).record.state = .ready ∨ (s.bay b).record.state = .raw) (r : ResultStatus) :
    (s.completeSlot b r).checkDrain b = (s.modSlot b fun x => { x with state := .done, result := r, next := 1 }).latch b .resultReady := by
  rw [completeSlot_inProgress slot, checkDrain_works (by simpa using works)]

theorem endOp_bay (s : State) (b : BayId) : (s.endOp b).bay b =
    { s.bay b with media := { (s.bay b).media with state := .idle, op := none } } := by rw [endOp, modMedia_bay]

/-- The counter of the reads that needed more than one pass (R145). -/
def softRaised (s : State) (b : BayId) (op : MediaOp) : State := if 0 < op.passes then s.raise b .softReadErrors 1 else s

theorem softRaised_bay (s : State) (b : BayId) (op : MediaOp) :
    ((s.softRaised b op).bay b).record = (s.bay b).record ∧ ((s.softRaised b op).bay b).slot = (s.bay b).slot := by
  unfold softRaised
  split
  · exact ⟨raise_record .., raise_slot ..⟩
  · exact ⟨rfl, rfl⟩

theorem readGood_label (kind : op.kind = .labelRead) (data : Sector) :
    s.readGood b op data = ((s.softRaised b op).endOp b).labelVerdict b (some data) := by
  simp only [readGood, softRaised]
  exact if_pos kind

theorem readGood_staged (kind : op.kind ≠ .labelRead) (kept : op.orphan = false) (data : Sector) :
    s.readGood b op data = ((((s.softRaised b op).endOp b).stage b data).completeRead b).checkDrain b := by
  simp only [readGood, softRaised]
  rw [if_neg kind, if_neg (by simp [kept])]

theorem readBad_kept (kind : op.kind ≠ .labelRead) (kept : op.orphan = false) (r : ResultStatus) :
    s.readBad b op r = ((s.endOp b).completeSlot b r).checkDrain b := by
  simp only [readBad]
  rw [if_neg kind, if_neg (by simp [kept])]

/-- A sector staged for a request in progress: the bay as the request then finds it (R145). -/
theorem stage_slot (s : State) (b : BayId) (data : Sector) :
    ((s.stage b data).bay b).slot = { (s.bay b).slot with staged := (s.bay b).slot.staged + 1 } := by
  rw [stage, modSlot_bay, modMedia_bay]

theorem stage_record (s : State) (b : BayId) (data : Sector) : ((s.stage b data).bay b).record = (s.bay b).record := by
  rw [stage, modSlot_bay, modMedia_bay]

theorem active_inProgress {x : Slot} {r : LongRequest} (slot : x.state = .inProgress) (request : x.request = some r) : x.active = some r := by
  rw [Slot.active, if_pos slot, request]

theorem completeRead_short {r : LongRequest} (active : (s.bay b).slot.active = some r) (short : ¬ r.sectors ≤ (s.bay b).slot.staged) :
    s.completeRead b = s := by
  simp only [completeRead, active]
  exact if_neg short

theorem completeRead_full {r : LongRequest} (active : (s.bay b).slot.active = some r) (full : r.sectors ≤ (s.bay b).slot.staged) :
    s.completeRead b = s.completeSlot b .done := by
  simp only [completeRead, active]
  exact if_pos full

/-! ### The label (R9, R117, R118) -/

/-- A bay in MOUNTING whose label is not valid: RAW, with the table empty and the cause latched (R9, R118). -/
def labelRefused (s : State) (b : BayId) (c : LabelCause) : State :=
  ((((s.modMap b fun m => { m with entries := Vector.replicate 64 none, dirty := false, generation := 0 }).modRecord b fun r =>
    { r with state := .raw, phase := .none, standing := .unlabelled }).latch b .labelInvalid).modLatches b fun l =>
      { l with labelCause := some c }).latch b .ready

theorem labelVerdict_refused {data : Option Sector} {c : LabelCause} (mounts : (s.bay b).record.state = .mounting)
    (judged : judgeLabel (s.bay b).record.typeCode data = .error c) : s.labelVerdict b data = s.labelRefused b c := by
  simp only [labelVerdict]
  rw [if_neg (by simp [mounts]), judged]
  simp only [RemapTable.fill_nil]
  cases b <;> rfl

theorem labelVerdict_valid {data : Option Sector} {entries : List MapEntry} {g : Nat} (mounts : (s.bay b).record.state = .mounting)
    (judged : judgeLabel (s.bay b).record.typeCode data = .ok (entries, g)) : s.labelVerdict b data =
      ((s.modMap b fun m => { m with entries := Vector.ofFn fun i => entries[i.val]?, dirty := false, generation := g }).modRecord b
        fun r => { r with state := .ready, phase := .none, standing := .labelled }).latch b .ready := by
  simp only [labelVerdict]
  rw [if_neg (by simp [mounts]), judged]
  dsimp only
  rw [enterReady, modRecord_modRecord]
  rfl

end State

/-- Settles O46: the failed passes by their number, the good pass by the request, and the label by the verdict. -/
theorem readPassesEnd : Obligations.ReadPassesEnd := by
  unfold Obligations.ReadPassesEnd
  intro s b op
  dsimp only
  intro flies stage reads
  have bad := State.readPassEnd_bad flies stage reads
  have writes := State.isWrite_of_isRead reads
  rw [bad]
  refine ⟨?_, ?_, ?_, fun few other => ?_, fun ninth => ?_, fun kind kept slot works => ⟨fun last => ?_, fun data r request => ⟨fun more => ?_, fun done => ?_⟩⟩,
    fun kind mounts => ⟨fun last => ?_, fun data => ⟨fun c judged => ?_, fun entries generation judged => ?_⟩⟩⟩
  · rw [exec_sectorIdTimeout, execSectorIdTimeout, State.atSector_some flies stage]
    exact if_pos reads
  · rw [exec_writeAttemptDone, execWriteAttemptDone, State.atSector_some flies stage]
    exact if_neg (by simp [writes])
  · rw [exec_writeFault, execWriteFault, State.atSector_some flies stage]
    exact if_neg (by simp [writes])
  · rw [State.passFails_again few other, State.modOp_some flies]
  · rw [State.passFails_ninth ninth, State.modOp_some flies, ninth]
    rfl
  · rw [State.passFails_last last, State.readBad_kept kind kept,
      State.completeSlot_works (by rw [State.endOp_bay, State.raise_slot]; exact slot) (by rw [State.endOp_bay, State.raise_record]; exact works)]
    rfl
  · have soft := s.softRaised_bay b op
    have slotT : ((((s.softRaised b op).endOp b).stage b data).bay b).slot = { (s.bay b).slot with staged := (s.bay b).slot.staged + 1 } := by
      rw [State.stage_slot, State.endOp_bay, soft.2]
    rw [State.readPassEnd_good flies stage reads, State.readGood_staged kind kept,
      State.completeRead_short (r := r) (by rw [slotT]; exact State.active_inProgress slot request) (by rw [slotT]; exact Nat.not_le.2 more),
      State.checkDrain_works (by rw [State.stage_record, State.endOp_bay, soft.1]; exact works), State.stage, State.endOp_bay, soft.2]
    rfl
  · have soft := s.softRaised_bay b op
    have slotT : ((((s.softRaised b op).endOp b).stage b data).bay b).slot = { (s.bay b).slot with staged := (s.bay b).slot.staged + 1 } := by
      rw [State.stage_slot, State.endOp_bay, soft.2]
    rw [State.readPassEnd_good flies stage reads, State.readGood_staged kind kept,
      State.completeRead_full (r := r) (by rw [slotT]; exact State.active_inProgress slot request) (by rw [slotT]; exact done),
      State.completeSlot_works (by rw [slotT]; exact slot) (by rw [State.stage_record, State.endOp_bay, soft.1]; exact works),
      State.stage, State.endOp_bay, soft.2]
    rfl
  · have refused : (s.raise b .hardReadErrors 1).readBad b op .hardError = ((s.raise b .hardReadErrors 1).endOp b).labelVerdict b none := by
      simp only [State.readBad]
      exact if_pos kind
    rw [State.passFails_last last, refused, State.labelVerdict_refused (c := .unreadable)
      (by rw [State.endOp_bay, State.raise_record]; exact mounts) rfl]
    rfl
  · have soft := s.softRaised_bay b op
    rw [State.readPassEnd_good flies stage reads, State.readGood_label kind, State.labelVerdict_refused (c := c)
      (by rw [State.endOp_bay, soft.1]; exact mounts) (by rw [State.endOp_bay, soft.1]; exact judged)]
    rfl
  · have soft := s.softRaised_bay b op
    rw [State.readPassEnd_good flies stage reads, State.readGood_label kind, State.labelVerdict_valid
      (by rw [State.endOp_bay, soft.1]; exact mounts) (by rw [State.endOp_bay, soft.1]; exact judged)]
    rfl

end Sys2Proof.Machine
end

section
/-! PROOFS. The end of a sector write attempt (O47). -/

namespace Sys2Proof.Machine

namespace State

variable {s t : State} {b : BayId} {op : MediaOp}

theorem modMedia_congr {f g : Media → Media} (agree : f (s.bay b).media = g (s.bay b).media) : s.modMedia b f = s.modMedia b g :=
  modBay_congr (by rw [agree])

theorem modMap_congr {f g : RemapTable → RemapTable} (agree : f (s.bay b).map = g (s.bay b).map) : s.modMap b f = s.modMap b g :=
  modBay_congr (by rw [agree])

/-- A counter rises whatever becomes of the engine. -/
theorem raise_endOp (s : State) (b : BayId) (n : CounterName) (k : Nat) : (s.endOp b).raise b n k = (s.raise b n k).endOp b := by
  simp only [raise, endOp, modMedia_bay, modCounters_bay]
  split <;> cases b <;> rfl

/-! ### The sector written (R144) -/

theorem performWrite_some {d : Sector} (source : s.source b op = some d) :
    s.performWrite b op = s.modMedia b fun m => { m with written := some (op.target, d) } := by
  simp only [performWrite, source]

theorem performWrite_written (s : State) (b : BayId) (op : MediaOp) : ∃ w, (w = (s.bay b).media.written ∨ ∃ d, w = some (op.target, d)) ∧
    s.performWrite b op = s.modMedia b fun m => { m with written := w } := by
  cases source : s.source b op with
  | some d => exact ⟨_, .inr ⟨d, rfl⟩, performWrite_some source⟩
  | none =>
    refine ⟨(s.bay b).media.written, .inl rfl, ?_⟩
    simp only [performWrite, source]
    cases b <;> rfl

/-- The WRITING entry of an outcome, where no other of its bay stands before it (R131, R132). -/
theorem outcomeEntry_listed {q : WriteQueue} {pre post : List Item} {e : WriteEntry} {n : Nat} (listed : q.items = pre ++ .entry e :: post)
    (bay : e.bay = b) (arrival : e.arrival = n) (writing : e.writing = true)
    (first : ∀ f ∈ entriesOf pre, ¬ (f.bay = b ∧ f.writing = true)) : q.outcomeEntry b n = some e := by
  rw [WriteQueue.outcomeEntry, listed, entriesOf_append, entriesOf, List.find?_append, List.find?_eq_none.2 fun f mem => ?_, Option.none_or,
    List.find?_cons_of_pos (by simp [bay, arrival, writing])]
  have other := first f mem
  simp only [decide_eq_true_eq]
  exact fun h => other ⟨h.1, h.2.2⟩

/-! ### The end of an attempt, by its kind -/

theorem writeAttemptDone_eq (flies : (s.bay b).media.op = some op) (stage : op.stage = .atSector) (writes : op.kind.isWrite = true) :
    exec (.writeAttemptDone b) s = .next (s.writeGood b op) := by
  rw [exec_writeAttemptDone, execWriteAttemptDone, atSector_some flies stage]
  exact if_pos writes

theorem writeFault_eq (flies : (s.bay b).media.op = some op) (stage : op.stage = .atSector) (writes : op.kind.isWrite = true) :
    exec (.writeFault b) s = .next (s.writeBad b op) := by
  rw [exec_writeFault, execWriteFault, atSector_some flies stage]
  exact if_pos writes

theorem writeBad_slot (kind : op.kind = .slotWritePhys ∨ op.kind = .slotMapSave) :
    s.writeBad b op = ((s.endOp b).slotWriteFails b op).checkDrain b := by
  rcases kind with kind | kind <;> simp only [writeBad, kind]

theorem writeGood_phys (kind : op.kind = .slotWritePhys) (kept : op.orphan = false) :
    s.writeGood b op = (((s.performWrite b op).endOp b).completeSlot b .done).checkDrain b := by
  simp only [writeGood, kind]
  rw [if_neg (by simp [kept])]

theorem writeGood_mapSave (kind : op.kind = .slotMapSave) (kept : op.orphan = false) :
    s.writeGood b op = ((((s.performWrite b op).endOp b).saveSucceeded b).completeSlot b .done).checkDrain b := by
  simp only [writeGood, kind]
  rw [if_neg (by simp [kept])]

theorem writeGood_labelSave (kind : op.kind = .labelSave) :
    s.writeGood b op = ((((s.performWrite b op).endOp b).saveSucceeded b).custodySaved b true).checkDrain b := by
  simp only [writeGood, kind]

theorem writeBad_labelSave (kind : op.kind = .labelSave) : s.writeBad b op = ((s.endOp b).saveFails b op).checkDrain b := by
  simp only [writeBad, kind]

/-- The table as a save that succeeds leaves it (R121). -/
theorem saved_eq (t : RemapTable) : t.saved = { t with generation := t.built, dirty := t.dirty && t.edited } := by
  rw [RemapTable.saved]
  cases t.edited <;> simp

theorem modMap_saved (s : State) (b : BayId) : s.modMap b RemapTable.saved =
    s.modMap b fun _ => { (s.bay b).map with
      generation := (s.bay b).map.built, dirty := (s.bay b).map.dirty && (s.bay b).map.edited } :=
  modMap_congr (g := fun _ => _) (saved_eq (s.bay b).map)

/-- A save of a bay that is not RAW (R121). -/
theorem saveSucceeded_kept (works : (s.bay b).record.state ≠ .raw) : s.saveSucceeded b =
    (s.modMap b fun _ => { (s.bay b).map with generation := (s.bay b).map.built, dirty := (s.bay b).map.dirty && (s.bay b).map.edited }).modRecord b
      fun r => { r with standing := .labelled } := by
  simp only [saveSucceeded]
  rw [if_neg (by simpa using works), modMap_saved]

/-- A save of a RAW bay makes it READY (R121). -/
theorem saveSucceeded_raw (raw : (s.bay b).record.state = .raw) : s.saveSucceeded b =
    ((s.modMap b fun _ => { (s.bay b).map with generation := (s.bay b).map.built, dirty := (s.bay b).map.dirty && (s.bay b).map.edited }).modRecord b
      fun r => { r with standing := .labelled, state := .ready, phase := .none }).latch b .ready := by
  simp only [saveSucceeded]
  rw [if_pos (by simpa using raw), enterReady, modMap_saved, modRecord_modRecord]

/-- The engine idle with the label written (R120, R144). -/
theorem performed_bay (source : s.source b op = some (s.bay b).media.label) : (((s.performWrite b op).endOp b).bay b) = { s.bay b with
    media := { (s.bay b).media with state := .idle, op := none, written := some (op.target, (s.bay b).media.label) } } := by
  rw [performWrite_some source, endOp_bay, modMedia_bay]

theorem source_label (kind : op.kind = .labelSave ∨ op.kind = .slotMapSave) : s.source b op = some (s.bay b).media.label := by
  rcases kind with kind | kind <;> simp only [source, kind]

/-! ### The save of an eject (R158) -/

/-- A save done or given up while the eject waits for it: the heads are unloaded next (R158). -/
theorem custodySaved_ejecting {e : EjectRecord} (ejecting : (s.bay b).record.state = .ejecting) (phase : (s.bay b).record.phase = .drain)
    (eject : (s.bay b).record.eject = some e) (marked : e.saveMarker = true) (ok : Bool) : s.custodySaved b ok =
      (if ok then s.modRecord b fun r => { r with eject := r.eject.map fun e => { e with saveMarker := false } }
        else (s.modRecord b fun r => { r with eject := r.eject.map fun e => { e with saveMarker := false } }).latch b .labelSaveFailed).enterUnload b := by
  simp only [custodySaved]
  rw [if_pos (by simp [eject, marked])]
  cases ok with
  | true => exact if_pos ⟨by simpa using ejecting, by simpa using phase⟩
  | false => exact if_pos ⟨by simpa using ejecting, by simpa using phase⟩

/-- An eject that has gone on from DRAIN has no drain left to check. -/
theorem checkDrain_unloading (ejecting : (s.bay b).record.state = .ejecting) (phase : (s.bay b).record.phase = .unload) : s.checkDrain b = s := by
  simp only [checkDrain, ejecting]
  rw [if_neg (c := (s.bay b).record.phase = .drain ∧ _) (fun h => by simp [phase] at h)]
  exact ite_self _

theorem checkDrain_saving {e : EjectRecord} (ejecting : (s.bay b).record.state = .ejecting) (eject : (s.bay b).record.eject = some e)
    (marked : e.saveMarker = true) : s.checkDrain b = s := by
  simp only [checkDrain, ejecting]
  rw [if_neg (c := _ ∧ ((s.bay b).record.eject.any fun e => e.saveMarker) = false) (fun h => by simp [eject, marked] at h)]
  exact ite_self _

end State

/-- Settles O47: the attempt by its kind, and its end by the request or the eject it serves. -/
theorem writeAttemptsEnd : Obligations.WriteAttemptsEnd := by
  unfold Obligations.WriteAttemptsEnd
  intro s b op
  dsimp only
  intro flies stage writes
  have done := State.writeAttemptDone_eq flies stage writes
  have fault := State.writeFault_eq flies stage writes
  have reads := State.isRead_of_isWrite writes
  rw [done, fault]
  refine ⟨?_, fun result => ?_, fun n kind arrival => ⟨?_, ?_, fun pre e post listed bay same writing first i slot => ?_⟩,
    fun kind kept slot works => ?_, fun kind kept slot works => ⟨fun few => ?_, fun third => ?_⟩,
    fun kind kept slot works => ⟨fun ready => ?_, fun raw => ?_⟩,
    fun e kind ejecting phase eject marked => ⟨fun few kept => ?_, fun third off => ?_, fun off => ?_⟩⟩
  · rw [exec_sectorIdTimeout, execSectorIdTimeout, State.atSector_some flies stage]
    dsimp only
    rw [if_neg (by simp [reads]), if_pos writes]
  · rw [exec_readPassEnd, execReadPassEnd, State.atSector_some flies stage]
    exact if_neg (by simp [reads])
  · simp only [State.writeBad, kind, arrival]
    rfl
  · obtain ⟨w, from_, performs⟩ := s.performWrite_written b op
    refine ⟨w, ?_, from_⟩
    simp only [State.writeGood, kind, arrival, performs]
    rfl
  · have source : s.source b op = some s.queue.slots[i] := by
      simp only [State.source, kind, arrival, Option.bind_some, State.outcomeEntry_listed listed bay same writing first, Option.map_some,
        WriteQueue.dataOf, slot]
      simp
    simp only [State.writeGood, kind, arrival, State.performWrite_some source]
    rfl
  · have source : s.source b op = some (s.bay b).media.staging[0] := by simp only [State.source, kind]
    rw [State.writeGood_phys kind kept, State.performWrite_some source,
      State.completeSlot_works (by simpa [State.endOp] using slot) (by simpa [State.endOp] using works)]
    rfl
  · have retried : (s.endOp b).slotWriteFails b op = ((s.raise b .writeRetries 1).endOp b).modMedia b fun m =>
        { m with slotFailures := op.attempt } := by
      simp only [State.slotWriteFails]
      rw [if_neg (by omega), if_neg (by simp [kept]), State.raise_endOp]
    rw [State.writeBad_slot kind, retried, State.checkDrain_works (by rw [State.modMedia_bay, State.endOp_bay, State.raise_record]; exact works)]
    rfl
  · have given : (s.endOp b).slotWriteFails b op = (((s.raise b .writeRetries 1).raise b .writeFailures 1).endOp b).completeSlot b .hardError := by
      simp only [State.slotWriteFails]
      rw [if_pos third, if_neg (by simp [kept]), State.raise_endOp, State.raise_endOp]
    rw [State.writeBad_slot kind, given, State.completeSlot_works (by rw [State.endOp_bay, State.raise_slot, State.raise_slot]; exact slot)
      (by rw [State.endOp_bay, State.raise_record, State.raise_record]; exact works)]
    rfl
  · have source := State.source_label (s := s) (b := b) (op := op) (.inr kind)
    have bay := State.performed_bay source
    rw [State.writeGood_mapSave kind kept, State.saveSucceeded_kept (by rw [bay, ready]; decide),
      State.completeSlot_works (by rw [State.modRecord_bay, State.modMap_bay, bay]; exact slot)
        (by rw [State.modRecord_bay, State.modMap_bay, bay]; exact works), bay, State.performWrite_some source]
    rfl
  · have source := State.source_label (s := s) (b := b) (op := op) (.inr kind)
    have bay := State.performed_bay source
    rw [State.writeGood_mapSave kind kept, State.saveSucceeded_raw (by rw [bay]; exact raw),
      State.completeSlot_works (by rw [State.latch_bay, State.modRecord_bay, State.modMap_bay, bay]; exact slot)
        (by rw [State.latch_bay, State.modRecord_bay]; exact .inl rfl), bay, State.performWrite_some source]
    rfl
  · have retried : (s.endOp b).saveFails b op = ((s.raise b .writeRetries 1).endOp b).modMedia b fun m =>
        { m with custody := some .labelSave, saveFailures := op.attempt } := by
      simp only [State.saveFails]
      rw [if_neg (by omega), if_neg (by simp [kept]), State.raise_endOp]
    obtain ⟨c, l, raised⟩ := s.raise_bay b .writeRetries 1
    have bay : (((s.raise b .writeRetries 1).endOp b).modMedia b fun m => { m with custody := some .labelSave, saveFailures := op.attempt }).bay b =
        { s.bay b with counters := c, latches := l, media := { (s.bay b).media with
          state := .idle, op := none, custody := some .labelSave, saveFailures := op.attempt } } := by
      rw [State.modMedia_bay, State.endOp_bay, raised]
    rw [State.writeBad_labelSave kind, retried, State.checkDrain_saving (by rw [bay]; exact ejecting) (by rw [bay]; exact eject) marked]
    exact ⟨_, rfl, by rw [bay], by rw [bay], by rw [bay], by rw [bay], by rw [bay]⟩
  · have given : (s.endOp b).saveFails b op = (((s.raise b .writeRetries 1).raise b .writeFailures 1).endOp b).custodySaved b false := by
      simp only [State.saveFails]
      rw [if_pos third, State.raise_endOp, State.raise_endOp]
    obtain ⟨c, l, raised⟩ := s.raise_bay b .writeRetries 1
    obtain ⟨c', l', raised'⟩ := (s.raise b .writeRetries 1).raise_bay b .writeFailures 1
    generalize failed : ((s.raise b .writeRetries 1).raise b .writeFailures 1).endOp b = t at given
    have bay : t.bay b = { s.bay b with counters := c', latches := l', media := { (s.bay b).media with state := .idle, op := none } } := by
      rw [← failed, State.endOp_bay, raised', raised]
    have entered := State.custodySaved_ejecting (s := t) (b := b) (by rw [bay]; exact ejecting) (by rw [bay]; exact phase)
      (by rw [bay]; exact eject) marked false
    rw [if_neg Bool.false_ne_true] at entered
    obtain ⟨a, unloading, same⟩ := State.enterUnload_moving
      (s := (t.modRecord b fun r => { r with eject := r.eject.map fun e => { e with saveMarker := false } }).latch b .labelSaveFailed) (b := b)
      (by rw [State.latch_bay, State.modRecord_bay, bay]; exact off)
    rw [← entered] at same
    have steers := (State.Steers.refl b
      ((t.modRecord b fun r => { r with eject := r.eject.map fun e => { e with saveMarker := false } }).latch b .labelSaveFailed)).enterUnload
    rw [← entered] at steers
    rw [State.writeBad_labelSave kind, given, State.checkDrain_unloading (by rw [same]) (by rw [same])]
    refine ⟨_, rfl, (steers.latched (by decide)).trans ?_, by rw [same, State.latch_bay, State.modRecord_bay, bay], by rw [same], by rw [same]; exact unloading⟩
    rw [State.latched_latch]
    simp
  · have source := State.source_label (s := s) (b := b) (op := op) (.inl kind)
    have bay := State.performed_bay source
    have saves := State.saveSucceeded_kept (s := (s.performWrite b op).endOp b) (b := b) (by rw [bay, ejecting]; decide)
    rw [bay] at saves
    generalize saved : ((s.performWrite b op).endOp b).saveSucceeded b = t at saves
    have bayT : t.bay b = { s.bay b with
        media := { (s.bay b).media with state := .idle, op := none, written := some (op.target, (s.bay b).media.label) }
        map := { (s.bay b).map with generation := (s.bay b).map.built, dirty := (s.bay b).map.dirty && (s.bay b).map.edited }
        record := { (s.bay b).record with standing := .labelled } } := by
      rw [saves, State.modRecord_bay, State.modMap_bay, bay]
    have entered := State.custodySaved_ejecting (s := t) (b := b) (by rw [bayT]; exact ejecting) (by rw [bayT]; exact phase)
      (by rw [bayT]; exact eject) marked true
    rw [if_pos rfl] at entered
    obtain ⟨a, unloading, same⟩ := State.enterUnload_moving
      (s := t.modRecord b fun r => { r with eject := r.eject.map fun e => { e with saveMarker := false } }) (b := b)
      (by rw [State.modRecord_bay, bayT]; exact off)
    rw [← entered, State.modRecord_bay, bayT] at same
    rw [State.writeGood_labelSave kind, saved, State.checkDrain_unloading (by rw [same]) (by rw [same])]
    exact ⟨_, rfl, by rw [same], by rw [same], by rw [same], by rw [same], by rw [same], by rw [same]; exact unloading⟩

end Sys2Proof.Machine
end

section
/-! PROOFS. The outcomes of the drain writes at the Write Queue (O48). -/

namespace Sys2Proof.Machine

namespace WriteQueue

variable {q : WriteQueue} {b : BayId} {pre post : List Item} {e : WriteEntry}

/-- An entry WRITING in its place, with no other entry of its bay WRITING. -/
structure Listed (q : WriteQueue) (b : BayId) (pre post : List Item) (e : WriteEntry) : Prop where
  items : q.items = pre ++ .entry e :: post
  bay : e.bay = b
  writing : e.writing = true
  alone : ∀ f ∈ entriesOf (pre ++ post), ¬ (f.bay = b ∧ f.writing = true)

namespace Listed

variable (listed : q.Listed b pre post e)
include listed

theorem before : ∀ f ∈ entriesOf pre, ¬ (f.bay = b ∧ f.writing = true) :=
  fun f mem => listed.alone f (by rw [entriesOf_append]; exact List.mem_append_left _ mem)

/-- An outcome finds its entry. -/
theorem found : q.outcomeEntry b e.arrival = some e :=
  State.outcomeEntry_listed listed.items listed.bay rfl listed.writing listed.before

/-- No other item is taken for the entry. -/
theorem other_item : ∀ i ∈ pre ++ post, ∀ f, i = .entry f → ¬ (f.bay = b ∧ f.arrival = e.arrival ∧ f.writing = true) := by
  rintro _ mem f rfl ⟨bay, -, writing⟩
  exact listed.alone f (mem_entriesOf.2 mem) ⟨bay, writing⟩

/-- The entry alone leaves the list (R133). -/
theorem removed : removeWriting b e.arrival q.items = pre ++ post := by
  have stay : ∀ l : List Item, (∀ i ∈ l, i ∈ pre ++ post) → removeWriting b e.arrival l = l := by
    intro l within
    refine List.filter_eq_self.2 fun i mem => ?_
    cases i with
    | mark c k => rfl
    | entry f =>
      simp only [Bool.not_eq_true', decide_eq_false_iff_not]
      exact listed.other_item _ (within _ mem) f rfl
  have left := stay pre fun i mem => List.mem_append_left _ mem
  have right := stay post fun i mem => List.mem_append_right _ mem
  rw [removeWriting] at left right
  rw [removeWriting, listed.items, List.filter_append, left, List.filter_cons_of_neg (by simp [listed.bay, listed.writing]), right]

/-- The entry alone changes in its place (R134, R135). -/
theorem changed (g : WriteEntry → WriteEntry) : changeWriting b e.arrival g q.items = pre ++ .entry (g e) :: post := by
  have stay : ∀ l : List Item, (∀ i ∈ l, i ∈ pre ++ post) → changeWriting b e.arrival g l = l := by
    intro l within
    refine (List.map_congr_left fun i mem => ?_).trans (List.map_id l)
    cases i with
    | mark c k => rfl
    | entry f => exact if_neg (listed.other_item _ (within _ mem) f rfl)
  have left := stay pre fun i mem => List.mem_append_left _ mem
  have right := stay post fun i mem => List.mem_append_right _ mem
  rw [changeWriting] at left right
  rw [changeWriting, listed.items, List.map_append, left, List.map_cons, right]
  simp [listed.bay, listed.writing]

/-- What supersedes the entry stands behind it (R134). -/
theorem superseded_iff : q.superseded e = true ↔ ∃ mid f tail, post = mid ++ .entry f :: tail ∧ (∀ k, Item.mark b k ∉ mid) ∧
    f.bay = b ∧ f.block = e.block ∧ f.writing = false := by
  have behind : afterWriting e.bay e.arrival q.items = post := by
    rw [listed.items]
    refine afterWriting_split ⟨rfl, rfl, listed.writing⟩ fun f mem ⟨bay, _, writing⟩ => ?_
    exact listed.before f mem ⟨bay.trans listed.bay, writing⟩
  rw [WriteQueue.superseded, behind, List.any_eq_true, listed.bay]
  constructor
  · rintro ⟨f, mem, queued⟩
    obtain ⟨mid, tail, split, free⟩ := mem_firstStretch.1 mem
    exact ⟨mid, f, tail, split, free, WriteEntry.queuedFor_iff.1 queued⟩
  · rintro ⟨mid, f, tail, split, free, queued⟩
    exact ⟨f, mem_firstStretch.2 ⟨mid, tail, split, free⟩, WriteEntry.queuedFor_iff.2 queued⟩

end Listed

/-- An outcome whose entry has left finds none (R135). -/
theorem outcomeEntry_gone {n : Nat} (gone : ∀ f ∈ entriesOf q.items, ¬ (f.bay = b ∧ f.arrival = n ∧ f.writing = true)) :
    q.outcomeEntry b n = none :=
  List.find?_eq_none.2 fun f mem => by simpa using gone f mem

end WriteQueue

namespace State

variable {s : State} {b : BayId} {pre post : List Item} {e : WriteEntry} {early late : List Signal} {n : Nat}

/-- The entry leaves the list, and the mark test follows (R133). -/
theorem removeEntry_listed (listed : s.queue.Listed b pre post e) :
    s.removeEntry b e.arrival = (s.withItems (pre ++ post)).markTest b := by
  rw [removeEntry, listed.removed]
  rfl

/-- The entry returns to QUEUED in its place (R134, R135). -/
theorem requeue_listed (listed : s.queue.Listed b pre post e) (attempts : Nat) :
    s.requeue b e.arrival attempts = s.withItems (pre ++ .entry { e with writing := false, attempts } :: post) := by
  rw [requeue, listed.changed]
  rfl

theorem requeue_record (s : State) (b : BayId) (n attempts : Nat) : ((s.requeue b n attempts).bay b).record = (s.bay b).record := by
  cases b <;> rfl

theorem markTest_record (s : State) (b : BayId) : ((s.markTest b).bay b).record = (s.bay b).record := by
  have completed : ∀ t : State, ((t.completeSlot b .done).bay b).record = (t.bay b).record := by
    intro t
    rcases t.completeSlot_cases b .done with same | same <;> rw [same]
    simp
  rcases s.markTest_cases b with same | same <;> rw [same]
  · cases b <;> rfl
  · rw [completed]
    cases b <;> rfl

/-- With no item of the bay the mark test changes nothing. -/
theorem markTest_absent (absent : ∀ i ∈ s.queue.items, i.bay ≠ b) : s.markTest b = s :=
  markTest_kept (by simpa [dropMarks] using dropMarks_append absent [])

theorem removeEntry_record (s : State) (b : BayId) (n : Nat) : ((s.removeEntry b n).bay b).record = (s.bay b).record := by
  rw [removeEntry, markTest_record]
  cases b <;> rfl

/-- Out of PARKING and EJECTING no drain waits. -/
theorem checkDrain_rest {t : State} (same : (t.bay b).record = (s.bay b).record)
    (rest : (s.bay b).record.state ≠ .parking ∧ (s.bay b).record.state ≠ .ejecting) : t.checkDrain b = t := by
  rw [← same] at rest
  exact checkDrain_elsewhere rest.1 rest.2

/-! ### An outcome arrives -/

theorem entryPerformed_arrives (place : s.signals = early ++ .performed b n :: late)
    (before : ∀ z ∈ early, Signal.isOutcome b z = false) : exec (.entryPerformed b) s =
      (s.queue.outcomeEntry b n).elim (.next { s with signals := early ++ late }) fun _ =>
        .next ((({ s with signals := early ++ late } : State).removeEntry b n).checkDrain b) := by
  rw [exec_entryPerformed, execEntryPerformed, firstSignal_at place before (by simp [Signal.isOutcome]),
    dropSignal_at place before (by simp [Signal.isOutcome])]
  dsimp only
  cases s.queue.outcomeEntry b n <;> rfl

theorem entryFailed_arrives (place : s.signals = early ++ .failed b n :: late)
    (before : ∀ z ∈ early, Signal.isOutcome b z = false) : exec (.entryFailed b) s =
      (s.queue.outcomeEntry b n).elim (.next { s with signals := early ++ late }) fun e =>
        .next ((({ s with signals := early ++ late } : State).entryFails b e).checkDrain b) := by
  rw [exec_entryFailed, execEntryFailed, firstSignal_at place before (by simp [Signal.isOutcome]),
    dropSignal_at place before (by simp [Signal.isOutcome])]
  dsimp only
  cases s.queue.outcomeEntry b n <;> rfl

theorem entryAbandoned_arrives (place : s.signals = early ++ .abandoned b n :: late)
    (before : ∀ z ∈ early, Signal.isOutcome b z = false) : exec (.entryAbandoned b) s =
      (s.queue.outcomeEntry b n).elim (.next { s with signals := early ++ late }) fun e =>
        if s.queue.superseded e then .next ((({ s with signals := early ++ late } : State).removeEntry b n).checkDrain b)
        else .next (({ s with signals := early ++ late } : State).requeue b n e.attempts) := by
  rw [exec_entryAbandoned, execEntryAbandoned, firstSignal_at place before (by simp [Signal.isOutcome]),
    dropSignal_at place before (by simp [Signal.isOutcome])]
  dsimp only
  cases s.queue.outcomeEntry b n <;> rfl

/-! ### A failed attempt, by the cases of R134 -/

theorem entryFails_superseded (listed : s.queue.Listed b pre post e) (newer : s.queue.superseded e = true) :
    s.entryFails b e = ((s.raise b .writeRetries 1).withItems (pre ++ post)).markTest b := by
  rw [entryFails, if_pos (by rw [raise_queue, newer]), removeEntry_listed (by rw [raise_queue]; exact listed)]

theorem entryFails_givenUp (listed : s.queue.Listed b pre post e) (alone : ¬ s.queue.superseded e = true)
    (third : 3 ≤ e.attempts + 1) : s.entryFails b e = ((((((s.raise b .writeRetries 1).raise b .writeFailures 1).appendFault
      (.writeFailed b e.block)).latch b .writeFailed)).withItems (pre ++ post)).markTest b := by
  rw [entryFails, if_neg (by rw [raise_queue]; exact alone), if_pos third, removeEntry_listed]
  rw [latch_queue, appendFault_queue, raise_queue, raise_queue]
  exact listed

theorem entryFails_again (listed : s.queue.Listed b pre post e) (alone : ¬ s.queue.superseded e = true)
    (few : e.attempts + 1 < 3) : s.entryFails b e = (s.raise b .writeRetries 1).withItems
      (pre ++ .entry { e with writing := false, attempts := e.attempts + 1 } :: post) := by
  rw [entryFails, if_neg (by rw [raise_queue]; exact alone), if_neg (by omega),
    requeue_listed (by rw [raise_queue]; exact listed)]

theorem entryFails_record (s : State) (b : BayId) (e : WriteEntry) : ((s.entryFails b e).bay b).record = (s.bay b).record := by
  unfold entryFails
  dsimp only
  split
  · rw [removeEntry_record, raise_record]
  · split
    · rw [removeEntry_record, latch_bay, appendFault_bay, raise_record, raise_record]
    · rw [requeue_record, raise_record]

/-- A bay that parks unloads once nothing of it is left (R11). -/
theorem checkDrain_parks (parking : (s.bay b).record.state = .parking) (drain : (s.bay b).record.parkStep = .drain)
    (empty : ∀ i ∈ s.queue.items, i.bay ≠ b) (slot : (s.bay b).slot.mediaWork = false) (op : (s.bay b).media.op = none) :
    s.checkDrain b = (s.modRecord b fun r => { r with parkStep := .unload }).unloadHeads b := by
  simp only [checkDrain]
  rw [if_pos ⟨(WriteQueue.drained_iff _ b).2 empty, slot, op⟩]
  simp only [parking]
  exact if_pos drain

end State

/-- Settles O48: the entry an outcome names, and what becomes of it. -/
theorem drainOutcomesAreTaken : Obligations.DrainOutcomesAreTaken := by
  unfold Obligations.DrainOutcomesAreTaken
  intro s b early late e pre post y t arrives listed gone rest withItems removed newer counted
  have list : listed → t.queue.Listed b pre post e := fun ⟨items, bay, writing, alone⟩ => ⟨items, bay, writing, alone⟩
  have bay : t.bay b = y := by cases b <;> rfl
  have resting {u : State} (same : (u.bay b).record = (t.bay b).record) (at_rest : rest) : u.checkDrain b = u :=
    State.checkDrain_rest same (by rw [bay]; exact at_rest)
  have removedRecord (items : List Item) (u : State) :
      (((u.withItems items).markTest b).bay b).record = (u.bay b).record := by
    rw [State.markTest_record, State.withItems_bay]
  refine ⟨fun ⟨place, before⟩ => ?_, fun ⟨place, before⟩ => ?_, fun ⟨place, before⟩ => ?_⟩
  · have runs := State.entryPerformed_arrives place before
    refine ⟨fun absent => ?_, fun lists at_rest => ?_, fun lists parking drain empty slot op heads => ?_⟩
    · rw [WriteQueue.outcomeEntry_gone absent, Option.elim_none] at runs
      exact runs
    · rw [(list lists).found, Option.elim_some] at runs
      refine runs.trans (congrArg _ ?_)
      rw [State.removeEntry_listed (list lists), resting (removedRecord _ t) at_rest]
      rfl
    · rw [(list lists).found, Option.elim_some] at runs
      have kept : (t.withItems (pre ++ post)).markTest b = t.withItems (pre ++ post) :=
        State.markTest_absent empty
      have bayU : (t.withItems (pre ++ post)).bay b = y := by rw [State.withItems_bay, bay]
      rw [show ({ s with signals := early ++ late } : State) = t from rfl, State.removeEntry_listed (list lists), kept,
        State.checkDrain_parks (by rw [bayU]; exact parking) (by rw [bayU]; exact drain) empty (by rw [bayU]; exact slot)
          (by rw [bayU]; exact op)] at runs
      have off : (((t.withItems (pre ++ post)).modRecord b fun r => { r with parkStep := .unload }).bay b).act.state ≠ .unloaded := by
        rw [State.modRecord_bay, bayU]
        exact heads
      obtain ⟨a, unloading, after⟩ := State.unloadHeads_moving_bay off
      refine ⟨_, runs, ?_, ?_, ?_⟩
      · rw [State.unloadHeads_moving off, (State.Steers.refl b _).askUnload.queue]
        cases b <;> rfl
      · rw [after, State.modRecord_bay]
      · rw [after]
        exact unloading
  · have runs := State.entryFailed_arrives place before
    refine ⟨fun absent => ?_, fun lists at_rest newest => ?_, fun lists at_rest alone third => ?_,
      fun lists at_rest alone few => ?_⟩
    · rw [WriteQueue.outcomeEntry_gone absent, Option.elim_none] at runs
      exact runs
    all_goals
      rw [(list lists).found, Option.elim_some] at runs
      have here := (list lists).superseded_iff
      refine runs.trans (congrArg _ ((resting (State.entryFails_record t b e) at_rest).trans ?_))
    · exact State.entryFails_superseded (list lists) (here.2 newest)
    · exact State.entryFails_givenUp (list lists) (fun h => alone (here.1 h)) third
    · exact State.entryFails_again (list lists) (fun h => alone (here.1 h)) few
  · have runs := State.entryAbandoned_arrives place before
    refine ⟨fun absent => ?_, fun lists at_rest newest => ?_, fun lists alone => ?_⟩
    · rw [WriteQueue.outcomeEntry_gone absent, Option.elim_none] at runs
      exact runs
    · rw [(list lists).found, Option.elim_some] at runs
      refine runs.trans ((if_pos ((list lists).superseded_iff.2 newest)).trans (congrArg _ ?_))
      rw [show ({ s with signals := early ++ late } : State) = t from rfl, State.removeEntry_listed (list lists),
        resting (removedRecord _ t) at_rest]
      rfl
    · rw [(list lists).found, Option.elim_some] at runs
      refine runs.trans ((if_neg fun h => alone ((list lists).superseded_iff.1 h)).trans (congrArg _ ?_))
      exact State.requeue_listed (list lists) _

end Sys2Proof.Machine
end

section
/-! SUPPORT. What a Media Engine takes: the operation in its place, the entry nearest the heads, and the rules of R141 (O45). -/

namespace Sys2Proof.Machine

/-! ### The operation taken -/

namespace State

variable {s t u : State} {b : BayId} {op : MediaOp}

/-- A seek taken on a known cylinder stays in hand, held, requested or running (R63, R81). -/
theorem takeSeek_inHand {q : SeekInHand} (known : (s.bay b).act.cylinder ≠ none) : ∃ r, ((s.takeSeek b q).bay b).act.seek = some r ∧
    r.requester = q.requester ∧ r.cylinder = q.cylinder ∧ r.head = q.head ∧ r.attempt = q.attempt := by
  obtain ⟨c, cylinder⟩ := Option.ne_none_iff_exists'.1 known
  unfold takeSeek
  split
  · rw [modAct_bay]
    exact ⟨_, rfl, rfl, rfl, rfl, rfl⟩
  · by_cases here : q.cylinder = c
    · rw [planSeek_stays (here ▸ cylinder), startSeek_bay]
      exact ⟨_, rfl, rfl, rfl, rfl, rfl⟩
    · rw [planSeek_moves cylinder here, request, send_bay, modAct_bay]
      exact ⟨_, rfl, rfl, rfl, rfl, rfl⟩

/-- The seek an operation asks for (R81, R142). -/
def mediaSeek (op : MediaOp) : SeekInHand :=
  { requester := .media, cylinder := op.target.cylinder, head := op.target.head, attempt := 1, standing := .held, distance := 0
    direction := .none, level := 0 }

theorem askSeek_taken (tracking : (s.bay b).act.state = .tracking) (free : (s.bay b).act.seek = none) :
    s.askSeek b op = (s.takeSeek b (mediaSeek op)).modOp b fun o => { o with stage := .seeking } := by
  have need : s.seekNeed b .media op.target.cylinder op.target.head = (s.takeSeek b (mediaSeek op), .taken) := by
    rw [seekNeed, if_neg (by simp [tracking]), if_neg (by simp [free])]
    rfl
  rw [askSeek, need]
  rfl

/-- The stage of an operation positioned on a TRACKING actuator, and what becomes of the actuator: the operation is on its sector, or a
seek is in hand (R142). -/
def Positions (x : Actuator) (op : MediaOp) (stage : OpStage) (a : Actuator) : Prop :=
  if op.kind ≠ .slotSeek ∧ x.cylinder = some op.target.cylinder ∧ x.head = op.target.head then stage = .atSector ∧ a = x
  else stage = .seeking ∧ (x.cylinder ≠ none → ∃ q, a.seek = some q ∧ q.requester = .media ∧ q.cylinder = op.target.cylinder ∧
    q.head = op.target.head ∧ q.attempt = 1)

theorem takeSeek_op (s : State) (b : BayId) (q : SeekInHand) : ((s.takeSeek b q).bay b).media.op = (s.bay b).media.op := by
  unfold takeSeek
  split
  · rw [modAct_bay]
  · simp only [planSeek]
    repeat' split
    · rfl
    · rw [startSeek_bay]
    · rw [request, send_bay, modAct_bay]

/-- An operation in flight is positioned (R142). -/
theorem position_positions (flies : (s.bay b).media.op = some op) (tracking : (s.bay b).act.state = .tracking)
    (free : (s.bay b).act.seek = none) : ∃ stage, ((s.position b op).bay b).media.op = some { op with stage } ∧
      Positions (s.bay b).act op stage ((s.position b op).bay b).act := by
  simp only [position]
  by_cases here : op.kind ≠ .slotSeek ∧ (s.bay b).act.cylinder = some op.target.cylinder ∧ (s.bay b).act.head = op.target.head
  · rw [if_pos ⟨here.1, tracking, here.2⟩, modOp_some flies, modMedia_bay]
    exact ⟨_, rfl, by rw [Positions, if_pos here]; exact ⟨rfl, rfl⟩⟩
  · rw [if_neg fun h => here ⟨h.1, h.2.2⟩, askSeek_taken tracking free,
      modOp_some (op := op) (by rw [takeSeek_op, flies]), modMedia_bay]
    refine ⟨_, rfl, ?_⟩
    rw [Positions, if_neg here]
    exact ⟨rfl, fun known => takeSeek_inHand known⟩

/-- The engine of a bay is WORKING on an operation it took (R140 to R142). -/
def Takes (s : State) (b : BayId) (t : State) (kind : OpKind) (target : PhysAddr) (attempt : Nat) (arrival : Option Nat) : Prop :=
  (t.bay b).media.state = .working ∧ (t.bay b).media.custody = none ∧ (t.bay b).slot = (s.bay b).slot ∧
  t.bay b.other = s.bay b.other ∧ ∃ stage,
    (t.bay b).media.op = some { kind, target, passes := 0, attempt, arrival, orphan := false, stage } ∧
    (if kind ≠ .slotSeek ∧ (s.bay b).act.cylinder = some target.cylinder ∧ (s.bay b).act.head = target.head then
      stage = .atSector ∧ (t.bay b).act = (s.bay b).act
     else stage = .seeking ∧ ((s.bay b).act.cylinder ≠ none → ∃ q, (t.bay b).act.seek = some q ∧ q.requester = .media ∧
      q.cylinder = target.cylinder ∧ q.head = target.head ∧ q.attempt = 1))

/-- A state in which an engine is about to begin: the seek, the slot and the other bay stand, and no custody work is left. -/
structure Prepared (s : State) (b : BayId) (u : State) : Prop where
  act : (u.bay b).act = (s.bay b).act
  slot : (u.bay b).slot = (s.bay b).slot
  custody : (u.bay b).media.custody = none
  other : u.bay b.other = s.bay b.other

theorem beginOp_seeks (u : State) (b : BayId) (op : MediaOp) :
    Seeks b (u.modMedia b fun m => { m with state := .working, op := some op }) (u.beginOp b op) :=
  (Seeks.refl b _).position op

theorem beginOp_queue (u : State) (b : BayId) (op : MediaOp) : (u.beginOp b op).queue = u.queue :=
  (beginOp_seeks u b op).queue.trans (by cases b <;> rfl)

/-- What an operation taken leaves of its bay: the engine's figures, the map and the slot. -/
theorem beginOp_bay (u : State) (b : BayId) (op : MediaOp) : ∃ p a h o, (u.beginOp b op).bay b = { u.bay b with
    pins := p, act := a, heat := h, media := { (u.bay b).media with state := .working, op := o } } := by
  obtain ⟨p, a, h, o, same⟩ := (beginOp_seeks u b op).bay
  exact ⟨p, a, h, o, by rw [same, modMedia_bay]⟩

theorem beginOp_takes (ready : Prepared s b u) (tracking : (s.bay b).act.state = .tracking) (free : (s.bay b).act.seek = none)
    {kind : OpKind} {target : PhysAddr} {attempt : Nat} {arrival : Option Nat} {st : OpStage} :
    Takes s b (u.beginOp b { kind, target, passes := 0, attempt, arrival, orphan := false, stage := st })
      kind target attempt arrival := by
  obtain ⟨p, a, h, o, same⟩ := beginOp_bay u b { kind, target, passes := 0, attempt, arrival, orphan := false, stage := st }
  refine ⟨by rw [same], by rw [same]; exact ready.custody, by rw [same]; exact ready.slot, ?_, ?_⟩
  · rw [(beginOp_seeks u b _).other, ← ready.other]
    cases b <;> rfl
  · have acts (m : Media → Media) : ((u.modMedia b m).bay b).act = (s.bay b).act := by rw [modMedia_bay, ← ready.act]
    obtain ⟨stage, flies, places⟩ := position_positions
      (s := u.modMedia b fun m => { m with state := .working, op := some { kind, target, passes := 0, attempt, arrival, orphan := false,
                                                                           stage := st } })
      (by rw [modMedia_bay]) (by rw [acts]; exact tracking) (by rw [acts]; exact free)
    rw [acts] at places
    exact ⟨stage, flies, places⟩

end State

/-! ### The entry nearest the heads (R132) -/

namespace State

variable {s : State} {b : BayId} {e : WriteEntry}

/-- With the cylinder UNKNOWN the earliest candidate is taken. -/
theorem nearest_unknown (s : State) (l : List WriteEntry) : s.nearest none l = l.head? := by
  cases l <;> rfl

theorem nearest_some {l : List WriteEntry} (c : Option Nat) (waits : l ≠ []) : ∃ e, s.nearest c l = some e := by
  cases l with
  | nil => contradiction
  | cons e rest =>
    unfold nearest
    split
    · split <;> exact ⟨_, rfl⟩
    · exact ⟨_, rfl⟩

/-- The first of the nearest candidates is taken. -/
theorem nearest_first {c : Nat} {l : List WriteEntry} (chosen : s.nearest (some c) l = some e) : ∃ pre post, l = pre ++ e :: post ∧
    (∀ f ∈ l, distanceTo (s.resolved e).cylinder c ≤ distanceTo (s.resolved f).cylinder c) ∧
    ∀ f ∈ pre, distanceTo (s.resolved e).cylinder c < distanceTo (s.resolved f).cylinder c := by
  induction l generalizing e with
  | nil => simp [nearest] at chosen
  | cons g rest ih =>
    cases later : s.nearest (some c) rest with
    | none =>
      have last : rest = [] := by
        refine Classical.byContradiction fun more => ?_
        obtain ⟨f, found⟩ := nearest_some (s := s) (some c) more
        rw [later] at found
        contradiction
      subst last
      obtain rfl : g = e := Option.some.inj chosen
      exact ⟨[], [], rfl, by simp, by simp⟩
    | some f =>
      obtain ⟨pre, post, split, least, strictly⟩ := ih later
      simp only [nearest, later] at chosen
      split at chosen
      · rename_i closer
        obtain rfl := Option.some.inj chosen
        refine ⟨[], rest, rfl, List.forall_mem_cons.2 ⟨Nat.le_refl _, fun h mem => Nat.le_trans closer (least h mem)⟩, by simp⟩
      · rename_i farther
        obtain rfl := Option.some.inj chosen
        have less := Nat.lt_of_not_le farther
        exact ⟨g :: pre, post, by rw [split]; rfl, List.forall_mem_cons.2 ⟨Nat.le_of_lt less, least⟩, List.forall_mem_cons.2 ⟨less, strictly⟩⟩

end State

/-- An entry becomes WRITING in its first place. -/
theorem markWriting_first {e : WriteEntry} {pre : List Item} (first : Item.entry e ∉ pre) (post : List Item) :
    markWriting e (pre ++ .entry e :: post) = pre ++ .entry { e with writing := true } :: post := by
  induction pre with
  | nil => exact if_pos rfl
  | cons i pre ih =>
    obtain ⟨other, later⟩ := not_or.1 (mt List.mem_cons.2 first)
    rw [List.cons_append, markWriting, if_neg (Ne.symm other), ih later]
    rfl

namespace WriteQueue

variable {q : WriteQueue} {b : BayId} {e : WriteEntry} {pre post : List Item}

/-- The eligible entries: QUEUED, with no mark of the bay before them (R131). -/
theorem mem_eligible : e ∈ q.eligible b ↔ e.bay = b ∧ e.writing = false ∧
    ∃ pre post, q.items = pre ++ .entry e :: post ∧ ∀ k, Item.mark b k ∉ pre := by
  rw [eligible, List.mem_filter, mem_firstStretch, decide_eq_true_iff]
  exact ⟨fun ⟨place, bay, queued⟩ => ⟨bay, queued, place⟩, fun ⟨bay, queued, place⟩ => ⟨place, bay, queued⟩⟩

/-- The first place of an eligible entry is before every mark of its bay. -/
theorem eligible_first (mem : e ∈ q.eligible b) : ∃ pre post, q.items = pre ++ .entry e :: post ∧ Item.entry e ∉ pre ∧
    ∀ k, Item.mark b k ∉ pre := by
  obtain ⟨-, -, early, late, place, free⟩ := mem_eligible.1 mem
  obtain ⟨pre, post, split, first⟩ := List.eq_append_cons_of_mem (a := Item.entry e) (xs := early ++ [.entry e]) (by simp)
  refine ⟨pre, post ++ late, ?_, first, fun k marked => ?_⟩
  · rw [place, ← List.cons_append, ← List.append_assoc, ← split]
    simp
  · have within : Item.mark b k ∈ early ++ [.entry e] := by rw [split]; exact List.mem_append_left _ marked
    rcases List.mem_append.1 within with earlier | last
    · exact free k earlier
    · simp at last

/-- The candidates before the first place of an eligible entry (R131, R132). -/
theorem eligible_split (split : q.items = pre ++ .entry e :: post) (free : ∀ k, Item.mark b k ∉ pre) (bay : e.bay = b)
    (queued : e.writing = false) : ∃ later, q.eligible b =
      (entriesOf pre).filter (fun e => e.bay = b ∧ e.writing = false) ++ e :: later := by
  have stretch : firstStretch b (pre ++ .entry e :: post) = pre ++ .entry e :: firstStretch b post := by
    rw [firstStretch, List.takeWhile_append_of_pos]
    · rfl
    · intro i mem
      cases i with
      | entry f => rfl
      | mark c k =>
        have other : c ≠ b := fun same => free k (same ▸ mem)
        simp [other]
  refine ⟨(entriesOf (firstStretch b post)).filter fun e => e.bay = b ∧ e.writing = false, ?_⟩
  rw [eligible, split, stretch, entriesOf_append, List.filter_append, entriesOf, List.filter_cons_of_pos (by simp [bay, queued])]

/-- No entry of a bay is WRITING (R131). -/
theorem writingOf_none : q.writingOf b = none ↔ ¬ ∃ f ∈ entriesOf q.items, f.bay = b ∧ f.writing = true := by
  rw [writingOf, List.find?_eq_none]
  simp

end WriteQueue

/-! ### The rules of R141 -/

namespace State

variable {s : State} {b : BayId}

theorem mediaWorks_iff {r : BayRecord} : r.mediaWorks = true ↔ r.state ∈ [BayState.mounting, .ready, .raw] ∨
    (r.state = .parking ∧ r.parkStep = .drain) ∨ (r.state = .ejecting ∧ r.phase = .drain) := by
  cases state : r.state <;> simp [BayRecord.mediaWorks, state]

theorem mayChoose_iff : s.mayChoose b = true ↔ (s.bay b).media.state = .idle ∧ (s.bay b).act.state = .tracking ∧
    (s.bay b).act.seek = none ∧ (s.bay b).record.mediaWorks = true := by
  simp [mayChoose, and_assoc]

theorem work_none {x : Slot} : x.work = none ↔ x.mediaWork = false := by
  rw [Slot.work, Slot.mediaWork]
  cases x.active with
  | none => simp
  | some r => cases media : r.isMedia <;> simp [Option.filter, media]

theorem work_some {x : Slot} {r : LongRequest} (slot : x.state = .inProgress) (request : x.request = some r) (media : r.isMedia = true) :
    x.work = some r := by
  rw [Slot.work, active_inProgress slot request, Option.filter_some, if_pos media]

theorem choice_custody {c : Custody} (custody : (s.bay b).media.custody = some c) : s.choice b = .custody c := by
  simp only [choice, custody]

theorem choice_slot {r : LongRequest} (custody : (s.bay b).media.custody = none) (work : (s.bay b).slot.work = some r)
    (free : s.queue.eligible b = [] ∨ ¬ (s.queue.entryCount = 16 ∨ (s.bay b).media.fairness = 4)) : s.choice b = .slot r := by
  simp only [choice, custody, work]
  refine if_neg fun ⟨waits, due⟩ => ?_
  rcases free with none | notDue
  · simp [none] at waits
  · exact notDue due

theorem choice_drains (custody : (s.bay b).media.custody = none) (drains : s.queue.eligible b ≠ [])
    (due : (s.bay b).slot.mediaWork = false ∨ s.queue.entryCount = 16 ∨ (s.bay b).media.fairness = 4) :
    s.choice b = s.drainWork b := by
  have waits : (!(s.queue.eligible b).isEmpty) = true := by simpa using drains
  cases work : (s.bay b).slot.work with
  | none =>
    simp only [choice, custody, work]
    exact if_pos waits
  | some r =>
    simp only [choice, custody, work]
    refine if_pos ⟨waits, due.resolve_left fun idle => ?_⟩
    rw [work_none.2 idle] at work
    contradiction

theorem choice_nothing (custody : (s.bay b).media.custody = none) (idle : (s.bay b).slot.mediaWork = false)
    (none : s.queue.eligible b = []) : s.choice b = .nothing := by
  simp only [choice, custody, work_none.2 idle, none]
  rfl

theorem mediaChoice_refused (not : ¬ s.mayChoose b = true) : exec (.mediaChoice b) s = .next s := by
  rw [exec_mediaChoice, execMediaChoice, choose, if_neg not]

theorem mediaChoice_nothing (chosen : s.choice b = .nothing) : exec (.mediaChoice b) s = .next s := by
  rw [exec_mediaChoice, execMediaChoice, choose, chosen]
  exact congrArg _ (ite_self _)

section
variable (may : s.mayChoose b = true)
include may

theorem mediaChoice_custody {c : Custody} (chosen : s.choice b = .custody c) : exec (.mediaChoice b) s = .next (s.takeCustody b c) := by
  rw [exec_mediaChoice, execMediaChoice, choose, if_pos may, chosen]

theorem mediaChoice_drain (chosen : s.choice b = .drain) : exec (.mediaChoice b) s = .next (s.takeDrain b) := by
  rw [exec_mediaChoice, execMediaChoice, choose, if_pos may, chosen]

theorem mediaChoice_slot {r : LongRequest} (chosen : s.choice b = .slot r) : exec (.mediaChoice b) s = .next (s.takeSlot b r) := by
  rw [exec_mediaChoice, execMediaChoice, choose, if_pos may, chosen]

end

theorem takeDrain_nearest {e : WriteEntry} (chosen : s.nearest (s.bay b).act.cylinder (s.queue.eligible b) = some e) : s.takeDrain b =
    ((s.withItems (markWriting e s.queue.items)).modMedia b fun m => { m with fairness := 0 }).beginOp b
      { kind := .drainWrite, target := s.resolved e, passes := 0, attempt := e.attempts + 1, arrival := some e.arrival, orphan := false
        stage := .askAgain } := by
  simp only [takeDrain, chosen]
  rfl

end State

end Sys2Proof.Machine
end

section
/-! PROOFS. The choice of a Media Engine (O45). -/

namespace Sys2Proof.Machine

namespace State

variable {s u : State} {b : BayId}

/-! ### The state an operation begins in -/

theorem Prepared.modMedia (f : Media → Media) (none : (f (s.bay b).media).custody = none) : Prepared s b (s.modMedia b f) where
  act := by rw [modMedia_bay]
  slot := by rw [modMedia_bay]
  custody := by rw [modMedia_bay]; exact none
  other := by cases b <;> rfl

theorem Prepared.buildLabel (ready : Prepared s b u) : Prepared s b (u.buildLabel b) where
  act := by rw [State.buildLabel, modMap_bay, modMedia_bay]; exact ready.act
  slot := by rw [State.buildLabel, modMap_bay, modMedia_bay]; exact ready.slot
  custody := by rw [State.buildLabel, modMap_bay, modMedia_bay]; exact ready.custody
  other := by
    rw [State.buildLabel, ← ready.other]
    generalize RemapTable.labelSector _ _ = sector
    cases b <;> rfl

theorem countSlotOp_eq [Decidable (s.queue.eligible b = [])] : s.countSlotOp b = s.modMedia b fun m =>
    { m with fairness := if s.queue.eligible b = [] then 0 else min 4 (m.fairness + 1) } := by
  simp only [countSlotOp]
  by_cases none : s.queue.eligible b = [] <;> simp [none]

/-- The label built from the table, whatever has become of the engine's other figures (R120). -/
theorem buildLabel_bay (map : (u.bay b).map = (s.bay b).map) (record : (u.bay b).record = (s.bay b).record) :
    ((u.buildLabel b).bay b).media.label = (s.bay b).map.labelSector (s.bay b).record.typeCode ∧
    ((u.buildLabel b).bay b).map = { (s.bay b).map with edited := false, built := ((s.bay b).map.generation + 1) % 65536 } ∧
    ((u.buildLabel b).bay b).media.fairness = (u.bay b).media.fairness := by
  rw [buildLabel, modMap_bay, modMedia_bay, ← map, ← record]
  exact ⟨rfl, rfl, rfl⟩

/-- What begins keeps the engine's figures and the table (R140). -/
theorem beginOp_keeps (u : State) (b : BayId) (op : MediaOp) : ((u.beginOp b op).bay b).media.fairness = (u.bay b).media.fairness ∧
    ((u.beginOp b op).bay b).media.label = (u.bay b).media.label ∧ ((u.beginOp b op).bay b).map = (u.bay b).map := by
  obtain ⟨p, a, h, o, same⟩ := beginOp_bay u b op
  rw [same]
  exact ⟨rfl, rfl, rfl⟩

/-! ### A READ and the queue (R136, R145) -/

/-- A sector the queue does not hold is read from the disc (R145). -/
theorem serveFromQueue_absent {first : Nat} (absent : s.queue.newest b (first + (s.bay b).slot.staged) = none) (n : Nat) :
    s.serveFromQueue b first n = s := by
  cases n with
  | zero => rfl
  | succ n => simp only [serveFromQueue, absent]

/-- The last sector of a READ, held in the queue, is staged at once (R136). -/
theorem serveFromQueue_last {first : Nat} {e : WriteEntry} (newest : s.queue.newest b (first + (s.bay b).slot.staged) = some e) :
    s.serveFromQueue b first 1 = s.stage b (s.queue.dataOf e) := by
  simp only [serveFromQueue, newest]

theorem takeSlot_read {first n : Nat} (absent : s.queue.newest b (first + (s.bay b).slot.staged) = none)
    (short : (s.bay b).slot.staged < n) : s.takeSlot b (.read first n) = (s.countSlotOp b).beginOp b
      { kind := .slotRead, target := (s.bay b).map.resolve (s.bay b).record.typeCode (first + (s.bay b).slot.staged), passes := 0
        attempt := 1, arrival := none, orphan := false, stage := .askAgain } := by
  simp only [takeSlot]
  rw [serveFromQueue_absent absent, if_neg (Nat.not_le.2 short)]

theorem takeSlot_served {first n : Nat} {e : WriteEntry} (newest : s.queue.newest b (first + (s.bay b).slot.staged) = some e)
    (last : (s.bay b).slot.staged + 1 = n) :
    s.takeSlot b (.read first n) = ((s.stage b (s.queue.dataOf e)).completeSlot b .done).checkDrain b := by
  have left : n - (s.bay b).slot.staged = 1 := by omega
  simp only [takeSlot]
  rw [left, serveFromQueue_last newest, if_pos (by rw [stage_slot]; exact Nat.le_of_eq last.symm)]

end State

/-- What stands before the first place of an element is the same, however the list is split there. -/
theorem eq_of_first_place {α : Type} {a : α} {x z s t : List α} (left : a ∉ x) (right : a ∉ z) (same : x ++ a :: s = z ++ a :: t) :
    x = z := by
  induction x generalizing z with
  | nil =>
    cases z with
    | nil => rfl
    | cons c z => exact absurd (List.cons.inj same).1 (List.ne_of_not_mem_cons right)
  | cons c x ih =>
    cases z with
    | nil => exact absurd (List.cons.inj same).1.symm (List.ne_of_not_mem_cons left)
    | cons d z =>
      obtain ⟨head, tail⟩ := List.cons.inj same
      rw [head, ih (List.not_mem_of_not_mem_cons left) (List.not_mem_of_not_mem_cons right) tail]

/-- The entry taken is the nearest of the eligible ones, and the earliest in the list among equals (R132). -/
theorem State.nearest_earliest {s : State} {b : BayId} {e : WriteEntry} {c : Nat} {pre post : List Item}
    (chosen : s.nearest (some c) (s.queue.eligible b) = some e) (split : s.queue.items = pre ++ .entry e :: post)
    (first : Item.entry e ∉ pre) (unmarked : ∀ k, Item.mark b k ∉ pre) :
    (∀ f ∈ s.queue.eligible b, distanceTo (s.resolved e).cylinder c ≤ distanceTo (s.resolved f).cylinder c) ∧
    ∀ f ∈ s.queue.eligible b, f ∈ entriesOf pre → distanceTo (s.resolved e).cylinder c < distanceTo (s.resolved f).cylinder c := by
  obtain ⟨early, late, place, least, closer⟩ := State.nearest_first chosen
  refine ⟨least, fun f mem before => closer f ?_⟩
  obtain ⟨own, queued, -⟩ := WriteQueue.mem_eligible.1 (State.nearest_mem chosen)
  obtain ⟨later, candidates⟩ := WriteQueue.eligible_split split unmarked own queued
  have same : (entriesOf pre).filter (fun e => e.bay = b ∧ e.writing = false) = early := by
    refine eq_of_first_place ?_ ?_ (candidates.symm.trans place)
    · exact fun listed => first (mem_entriesOf.1 (List.mem_filter.1 listed).1)
    · exact fun listed => Nat.lt_irrefl _ (closer e listed)
  obtain ⟨f_own, f_queued, -⟩ := WriteQueue.mem_eligible.1 mem
  exact same ▸ List.mem_filter.2 ⟨before, by simp [f_own, f_queued]⟩

/-- Settles O45: the choice by the rules of R141, and what the engine then begins. -/
theorem engineChooses : Obligations.EngineChooses := by
  unfold Obligations.EngineChooses
  intro s b y choice works may eligible writing newest drain takes slotOp label built
  have mayIff : may ↔ s.mayChoose b = true := by
    rw [State.mayChoose_iff, State.mediaWorks_iff]
  have begins {u : State} (m : may) (ready : State.Prepared s b u) (kind : OpKind) (target : PhysAddr) (attempt : Nat)
      (arrival : Option Nat) : takes (u.beginOp b { kind, target, passes := 0, attempt, arrival, orphan := false, stage := .askAgain })
        kind target attempt arrival := State.beginOp_takes ready m.2.1 m.2.2.1
  have custodyLeft : State.Prepared s b (s.modMedia b fun m => { m with custody := none }) := .modMedia _ rfl
  refine ⟨fun e => WriteQueue.mem_eligible, fun not => State.mediaChoice_refused (mt mayIff.2 not), fun m custody => ?_,
    fun m custody => ?_, fun m custody waits due busy => ?_, fun m custody waits due calm => ?_, fun m custody idle none => ?_,
    fun m custody slot free => ?_⟩
  · refine ⟨_, State.mediaChoice_custody (mayIff.1 m) (State.choice_custody custody), begins m custodyLeft _ _ _ _, ?_⟩
    exact (State.beginOp_queue _ b _).trans (by cases b <;> rfl)
  · obtain ⟨labelled, table, -⟩ := State.buildLabel_bay (s := s) (b := b) (u := s.modMedia b fun m => { m with custody := none })
      (by rw [State.modMedia_bay]) (by rw [State.modMedia_bay])
    obtain ⟨-, keepsLabel, keepsMap⟩ := State.beginOp_keeps ((s.modMedia b fun m => { m with custody := none }).buildLabel b) b
      { kind := .labelSave, target := label, passes := 0, attempt := y.media.saveFailures + 1, arrival := none, orphan := false
        stage := .askAgain }
    refine ⟨_, State.mediaChoice_custody (mayIff.1 m) (State.choice_custody custody), begins m custodyLeft.buildLabel _ _ _ _,
      ⟨keepsLabel.trans labelled, keepsMap.trans table⟩, ?_⟩
    exact (State.beginOp_queue _ b _).trans (by cases b <;> rfl)
  · refine State.mediaChoice_nothing ((State.choice_drains custody waits due).trans (if_pos ?_))
    rw [Option.isSome_iff_ne_none]
    exact fun none => WriteQueue.writingOf_none.1 none busy
  · have chosen : s.choice b = .drain := by
      refine (State.choice_drains custody waits due).trans (if_neg ?_)
      rw [WriteQueue.writingOf_none.2 calm]
      decide
    obtain ⟨e, nearest⟩ := State.nearest_some (s := s) (s.bay b).act.cylinder waits
    have mem : e ∈ eligible := State.nearest_mem nearest
    obtain ⟨own, queued, -⟩ := WriteQueue.mem_eligible.1 mem
    obtain ⟨pre, post, split, first, unmarked⟩ := WriteQueue.eligible_first mem
    have resolves (f : WriteEntry) (f_own : f.bay = b) : s.resolved f = y.map.resolve y.record.typeCode f.block := by
      rw [State.resolved, f_own]
    have runs := (State.mediaChoice_drain (mayIff.1 m) chosen).trans (congrArg _ (State.takeDrain_nearest nearest))
    rw [resolves e own, split, markWriting_first first] at runs
    have ready : State.Prepared s b ((s.withItems (pre ++ .entry { e with writing := true } :: post)).modMedia b fun m =>
        { m with fairness := 0 }) := by
      constructor
      · cases b <;> rfl
      · cases b <;> rfl
      · exact Eq.trans (by cases b <;> rfl) custody
      · cases b <;> rfl
    refine ⟨_, e, pre, post, runs, mem, begins m ready _ _ _ _, ?_, split, first, ?_, fun unknown => ?_, fun c known => ?_⟩
    · exact (State.beginOp_keeps _ b _).1.trans (by rw [State.modMedia_bay])
    · exact (State.beginOp_queue _ b _).trans (by cases b <;> rfl)
    · rw [unknown, State.nearest_unknown] at nearest
      exact nearest
    · rw [known] at nearest
      obtain ⟨least, closer⟩ := State.nearest_earliest nearest split first unmarked
      have away {f : WriteEntry} (mem : f ∈ eligible) : s.resolved f = y.map.resolve y.record.typeCode f.block :=
        resolves f (WriteQueue.mem_eligible.1 mem).1
      refine ⟨fun f f_mem => ?_, fun f f_mem before => ?_⟩
      · have bound := least f f_mem
        rwa [away mem, away f_mem] at bound
      · have bound := closer f f_mem before
        rwa [away mem, away f_mem] at bound
  · exact State.mediaChoice_nothing (State.choice_nothing custody idle none)
  · have count : State.Prepared s b (s.countSlotOp b) := by
      rw [State.countSlotOp_eq]
      exact .modMedia _ custody
    have fairness : ((s.countSlotOp b).bay b).media.fairness = if eligible = [] then 0 else min 4 (y.media.fairness + 1) := by
      rw [State.countSlotOp_eq, State.modMedia_bay]
    have chooses {r : LongRequest} (request : y.slot.request = some r) (media : r.isMedia = true) :
        choice = .next (s.takeSlot b r) := by
      refine State.mediaChoice_slot (mayIff.1 m) (State.choice_slot custody (State.work_some slot request media) ?_)
      exact free.imp_right (mt .inr)
    have counts : (s.countSlotOp b).queue = s.queue := by cases b <;> rfl
    have takesSlot {u : State} {kind : OpKind} {target : PhysAddr} {attempt : Nat} (runs : choice = .next (u.beginOp b
          { kind, target, passes := 0, attempt, arrival := none, orphan := false, stage := .askAgain }))
        (ready : State.Prepared s b u) (queue : u.queue = s.queue)
        (fair : (u.bay b).media.fairness = ((s.countSlotOp b).bay b).media.fairness) : slotOp kind target attempt :=
      ⟨_, runs, begins m ready _ _ _ _, (State.beginOp_queue _ b _).trans queue,
        (State.beginOp_keeps _ b _).1.trans (fair.trans fairness)⟩
    refine ⟨fun start n request => ?_, fun target request => ?_, fun c request => ?_, fun request => ?_,
      fun first n request short absent => ?_, fun first n e request last ⟨own, block, pre, post, split, newest⟩ working => ?_⟩
    · exact takesSlot (chooses request rfl) count counts rfl
    · exact takesSlot (chooses request rfl) count counts rfl
    · exact takesSlot (chooses request rfl) count counts rfl
    · have runs := chooses request rfl
      obtain ⟨labelled, table, fair⟩ := State.buildLabel_bay (s := s) (b := b) (u := s.countSlotOp b)
        (by rw [State.countSlotOp, State.modMedia_bay]) (by rw [State.countSlotOp, State.modMedia_bay])
      refine ⟨takesSlot runs count.buildLabel (by cases b <;> rfl) fair, fun t after => ?_⟩
      obtain rfl := Host.Outcome.next.inj (runs.symm.trans after)
      obtain ⟨-, keepsLabel, keepsMap⟩ := State.beginOp_keeps ((s.countSlotOp b).buildLabel b) b
        { kind := .slotMapSave, target := label, passes := 0, attempt := y.media.slotFailures + 1, arrival := none, orphan := false
          stage := .askAgain }
      exact ⟨keepsLabel.trans labelled, keepsMap.trans table⟩
    · have runs := chooses request rfl
      rw [State.takeSlot_read (WriteQueue.newest_eq_none absent) short] at runs
      exact takesSlot runs count counts rfl
    · have runs := chooses request rfl
      rw [State.takeSlot_served (WriteQueue.newest_of_last split own block newest) last,
        State.completeSlot_works (by rw [State.stage_slot]; exact slot) (by rw [State.stage_record]; exact .inl working)] at runs
      refine runs.trans (congrArg _ ?_)
      subst last
      cases b <;> rfl

end Sys2Proof.Machine
end
